-- ==== Sys2Proof/Word.lean ====
section
/-! DEFINITION. The words of the body line and of the configuration store: one line character carries eight data
bits (R2), multi-byte fields are sent most significant byte first (00_scope.md, Names and notation). Quantities the
specification treats as numbers (voltages, currents, counts, times) are `Nat` or `Int`, not bit vectors. -/

namespace Sys2Proof

/-- The eight data bits of one line character (R2), or one byte of the configuration record (R188). -/
abbrev Byte := BitVec 8

/-- A sixteen-bit register: the configuration checksum (R191). -/
abbrev Word16 := BitVec 16

/-- A set of the sixteen requestable functions, function bit n being bit n (Formats, Requestable functions). -/
abbrev RequestSet := BitVec 16

end Sys2Proof
end

