-- ==== Sys2Proof/Syntax.lean ====
section
/-! DEFINITION. The commands the block takes: one constructor of `Instr` for each row of spec/opcode_table.json,
with the operands the row's rule gives the event (a frame's sender and payload, a pin's level, a channel number).
The docstring of a constructor names its row and the rule that governs it. -/

namespace Sys2Proof

/-- The level at a switch pin, either earth polarity being served (R43): pulled to earth, at the supply, or undriven. -/
inductive PinLevel where
  | earth | supply | undriven
  deriving DecidableEq, Repr

/-- The four strap connections of ADDR_A and ADDR_B (R173); SYSV is tied in the same way. -/
inductive StrapLevel where
  | earth | supply | bl | ign
  deriving DecidableEq, Repr

/-- The strap pins as they are tied at the moment of latching (R173). -/
structure StrapPins where
  addrA : StrapLevel
  addrB : StrapLevel
  sysv  : StrapLevel
  deriving DecidableEq, Repr

/-- The twelve persistence timers of contributors (a), (b) and (d) (R127, R128, R130). -/
inductive PersTimer where
  | entry1 | entry2 | entry3 | exit1 | exit2 | exit3
  | raise1 | raise2 | lower1 | lower0
  | overCapacity | underCapacity
  deriving DecidableEq, Repr

/-- The three classes that have an energize hold (R138); class 0 has none. -/
inductive HeldClass where
  | one | two | three
  deriving DecidableEq, Repr

/-- The commands of the block, one constructor for each row of spec/opcode_table.json. -/
inductive Instr where
  /-- BREAK (R2): the line stays dominant for 11 bit times or more. -/
  | lineBreak
  /-- TRUNCATED_FRAME (R3): recessive where the next start bit of a frame is due. -/
  | truncatedFrame
  /-- JOIN_START_BIT (R7): another station's start bit on an idle line, with an eligible entry queued. -/
  | joinStartBit
  /-- FRAME_OFFER (R7): the line is idle and an eligible entry is queued. -/
  | frameOffer
  /-- ARBITRATION_LOSS (R8): a Claim bit driven recessive reads dominant. -/
  | arbitrationLoss
  /-- COLLISION (R9): a mismatch read back from the Head to the Check's stop bit. -/
  | collision
  /-- ATTEMPT_OBJECTED (R11): the sender reads its objection slot dominant. -/
  | attemptObjected
  /-- ATTEMPT_SUCCESS (R11): the sender reads its objection slot recessive. -/
  | attemptSuccess
  /-- OBJECTED_FRAME (R12): a received frame ends with a dominant objection slot; the operands are the characters
  as this receiver read them and whether it found a framing error in one of them. -/
  | objectedFrame (claim head : Byte) (payload : List Byte) (check : Byte) (framing : Bool)
  /-- STATUS_FRAME (R31): an unobjected STATUS, its Claim's station number and its payload. -/
  | statusFrame (sender : Fin 16) (payload : List Byte)
  /-- ANNOUNCE_FRAME (R37): an unobjected ANNOUNCE. -/
  | announceFrame (sender : Fin 16) (payload : List Byte)
  /-- FLASH_FRAME (R112): an unobjected FLASH of another station. -/
  | flashFrame (sender : Fin 16) (payload : List Byte)
  /-- REPLY_FRAME (R19): an unobjected REPLY of another station. -/
  | replyFrame (sender : Fin 16) (payload : List Byte)
  /-- STUCK_LINE (R20): BL has been dominant without a break for 20 ms. -/
  | stuckLine
  /-- ISOLATION_WAIT_EXPIRY (R21). -/
  | isolationWaitExpiry
  /-- PERIODIC_STATUS_TIMER (R22). -/
  | periodicStatusTimer
  /-- STATUS_SPACING_END (R22). -/
  | statusSpacingEnd
  /-- AGEING_TIMER_EXPIRY (R33), of the record of one station number. -/
  | ageingTimerExpiry (number : Fin 15)
  /-- SWITCH_RAW_CHANGE (R44): switch pin `input` takes the level `level`. -/
  | switchRawChange (input : Fin 8) (level : PinLevel)
  /-- DEBOUNCE_EXPIRY (R44). -/
  | debounceExpiry (input : Fin 8)
  /-- HOLD_TIMER_EXPIRY (R47): the hold timer of a Timed-off input. -/
  | holdTimerExpiry (input : Fin 8)
  /-- IGN_PIN_CHANGE (R55). -/
  | ignPinChange (level : Bool)
  /-- IGN_DEBOUNCE_EXPIRY (R55). -/
  | ignDebounceExpiry
  /-- PASS_TIMER (R63). -/
  | passTimer
  /-- SAMPLE (R64): the conversion of the pass's present slot completes with this reading, in the input's unit. -/
  | sample (reading : Int)
  /-- INRUSH_WINDOW_EXPIRY (R89). -/
  | inrushWindowExpiry (channel : Fin 8)
  /-- RUN_TIMER_EXPIRY (R90). -/
  | runTimerExpiry (channel : Fin 8)
  /-- OVER_TIMER_EXPIRY (R93). -/
  | overTimerExpiry (channel : Fin 8)
  /-- RETRY_WAIT_EXPIRY (R96). -/
  | retryWaitExpiry (channel : Fin 8)
  /-- OPEN_LOAD_TIMER_EXPIRY (R98). -/
  | openLoadTimerExpiry (channel : Fin 8)
  /-- TEST_DURATION_EXPIRY (R103). -/
  | testDurationExpiry (channel : Fin 8)
  /-- HALF_TIMER_EXPIRY (R108). -/
  | halfTimerExpiry
  /-- PERSISTENCE_TIMER_EXPIRY (R126). -/
  | persistenceTimerExpiry (timer : PersTimer)
  /-- DRAIN_TICK (R131). -/
  | drainTick
  /-- CRANK_RELEASE_EXPIRY (R135). -/
  | crankReleaseExpiry
  /-- HOLD_TIMER_END (R138): the energize hold timer of a class. -/
  | holdTimerEnd (cls : HeldClass)
  /-- RAMP_UPDATE (R146). -/
  | rampUpdate
  /-- FAN_RUN_TIMER_EXPIRY (R149). -/
  | fanRunTimerExpiry
  /-- SPIN_UP_GRACE_EXPIRY (R150). -/
  | spinUpGraceExpiry
  /-- STALL_TIMER_EXPIRY (R150). -/
  | stallTimerExpiry
  /-- STALL_WAIT_EXPIRY (R152). -/
  | stallWaitExpiry
  /-- FAN_RETRY_WAIT_EXPIRY (R151). -/
  | fanRetryWaitExpiry
  /-- DEFERRAL_END (R155). -/
  | deferralEnd
  /-- GAUGE_UPDATE (R159). -/
  | gaugeUpdate
  /-- POWER_FAIL (R175): VBAT falls below 3.5 V. -/
  | powerFail
  /-- POWER_ON_RESET (R175): VBAT reaches 3.5 V, with the strap pins as they are then tied. -/
  | powerOnReset (straps : StrapPins)
  /-- SERVICE_RESTART (R187): the ordered restart, with the strap pins as they are then tied. -/
  | serviceRestart (straps : StrapPins)
  /-- JOIN_WINDOW_EXPIRY (R176). -/
  | joinWindowExpiry
  /-- QUIET_TIMER_EXPIRY (R179). -/
  | quietTimerExpiry
  /-- LINE_WAKE (R181). -/
  | lineWake
  /-- INPUT_WAKE (R181). -/
  | inputWake (input : Fin 8)
  /-- IGN_WAKE (R181). -/
  | ignWake
  /-- WAKE_PULSE_END (R181). -/
  | wakePulseEnd
  /-- WAKE_WAIT_EXPIRY (R181). -/
  | wakeWaitExpiry
  /-- STATION_CLOCK_TICK (R183). -/
  | stationClockTick
  /-- IDENTIFY (R186): an unobjected SERVICE frame with code 1; `args` are the payload bytes after byte 0. -/
  | identify (target : Fin 16) (args : List Byte)
  /-- READ (R186), code 2. -/
  | read (target : Fin 16) (args : List Byte)
  /-- FAULT_CALL (R193), code 3. -/
  | faultCall (target : Fin 16) (args : List Byte)
  /-- FAULT_ACK (R193), code 4. -/
  | faultAck (target : Fin 16) (args : List Byte)
  /-- FAULT_CLEAR (R193), code 5. -/
  | faultClear (target : Fin 16) (args : List Byte)
  /-- SETUP_ENTER (R187), code 6. -/
  | setupEnter (target : Fin 16) (args : List Byte)
  /-- STORE_WRITE_LOW_HALF (R188), code 7. -/
  | storeWriteLowHalf (target : Fin 16) (args : List Byte)
  /-- STORE_WRITE_HIGH_HALF (R188), code 8. -/
  | storeWriteHighHalf (target : Fin 16) (args : List Byte)
  /-- STORE_COMMIT (R189), code 9. -/
  | storeCommit (target : Fin 16) (args : List Byte)
  /-- PROGRAMMING_END (R190). -/
  | programmingEnd
  /-- TEST_OUTPUT (R103), code 10. -/
  | testOutput (target : Fin 16) (args : List Byte)
  /-- SETUP_EXIT (R187), code 11. -/
  | setupExit (target : Fin 16) (args : List Byte)
  /-- RESTART (R187), code 12. -/
  | restart (target : Fin 16) (args : List Byte)
  /-- UNKNOWN_COMMAND (R185): a SERVICE frame whose command code names no command. -/
  | unknownCommand (target : Fin 16) (code : Fin 16) (args : List Byte)
  /-- LINE_IDLE (R3). -/
  | lineIdle
  deriving DecidableEq, Repr

end Sys2Proof
end

