-- ==== Sys2Proof/Config.lean ====
section
/-! DEFINITION. The free values: what the specification gives an effect to without stating the value. No proof can
see them, so a claim that holds holds whatever they are. -/

namespace Sys2Proof

/-- Bytes of a READ reply to which the specification gives a place and no value (notes/assumptions/20.md). The
argument is State's counter of the free bytes used so far. -/
opaque Config.freeByte : Nat → Byte

end Sys2Proof
end

