-- ==== Sys2Proof/Machine/State.lean ====
section
/-! DEFINITION. The state of one LT24 station, block by block as the specification's block diagram names them, as
plain data; the ways a command can stop; and the state right after a power-on reset. -/

namespace Sys2Proof.Machine

/-! ## Timers and small enumerations -/

/-- A timer: `none` when it is stopped, `some ms` when it runs with that period (0 ≤ ms). The passing of time is the
command sender's: a timer's expiry is a command (notes/assumptions/1.md). -/
abbrev Timer := Option Nat

/-- A persistence timer is stopped, running, or expired until its condition breaks (R126). -/
inductive PTimer where
  | stopped | running | expired
  deriving DecidableEq, Repr

/-- The accepted state of a debounced input (R44), and the class of a Switch-mode sender (R48). -/
inductive Contact where
  | undetermined | opened | closed
  deriving DecidableEq, Repr

/-- A side: of a channel (R81), of a bulb-out flag (R29). -/
inductive Side where
  | left | right
  deriving DecidableEq, Repr

/-- The side set of a flash cycle (R106): coded 1, 2, 3 in a FLASH payload. -/
inductive SideSet where
  | left | right | both
  deriving DecidableEq, Repr

/-! ## The working configuration (R43, R49, R81, R144, R157, R158, R188, R191) -/

/-- The kinds of a channel, coded in this order (R81). -/
inductive ChannelKind where
  | off | lamp | flashLamp | stopTurn | plain | motor
  deriving DecidableEq, Repr

/-- What follows when a channel's retries are exhausted (R81, R95). -/
inductive Exhaustion where
  | latch | persist
  deriving DecidableEq, Repr

/-- The modes of a sender input, coded in this order (section 3.2). -/
inductive SenderMode where
  | off | resistive | switch | ladder
  deriving DecidableEq, Repr

/-- The kinds of a gauge drive, coded in this order (R157). -/
inductive GaugeKind where
  | off | thermal | coilEnd | coilCentre
  deriving DecidableEq, Repr

/-- A Switch Map entry (section 3.1). `mode` is the code 0 Level, 1 Toggle, 2 Timed-off; `target` a function bit. -/
structure SwitchEntry where
  enabled        : Bool
  closedToSupply : Bool
  wakeEnable     : Bool
  mode           : Nat
  target         : Nat
  hold           : Nat
  deriving DecidableEq, Repr

/-- A sender input's entry (section 3.2, R158): `words` are the sixteen two-byte fields at +4 to +35, read as the
points (R, P) of a Sender Table, or as the bands (lower, upper) and the span (Rzero, Rfull) of a ladder. -/
structure SenderEntry where
  mode    : SenderMode
  target  : Nat
  publish : Nat
  count   : Nat
  words   : List Nat
  deriving DecidableEq, Repr

/-- A Channel Map entry (R81). `function` is the code 0..18 in the order of R81; other codes name no function. -/
structure ChannelEntry where
  kind       : ChannelKind
  function   : Nat
  side       : Side
  cls        : Nat
  level      : Nat
  tail       : Nat
  hardLimit  : Nat
  overLimit  : Nat
  overTime   : Nat
  openLimit  : Nat
  inrush     : Nat
  retryLimit : Nat
  exhaustion : Exhaustion
  deriving DecidableEq, Repr

/-- A Gauge Map entry (R157). `sourceType` is the code 0 local sender, 1 peer, 2 battery current, 3 supply. -/
structure GaugeEntry where
  kind       : GaugeKind
  sourceType : Nat
  number     : Nat
  slot       : Nat
  dfs        : Nat
  k          : Nat
  fs         : Nat
  vlo        : Nat
  vhi        : Nat
  deriving DecidableEq, Repr

/-- The configuration in force (R191), with where it came from, its checksum and the clamped-field count. -/
structure WorkingConfig where
  ignFromLine  : Bool
  shunt        : Bool
  ni           : Nat
  flashPeriod  : Nat
  quiet        : Nat
  allowance    : Nat
  t1           : Nat
  t2           : Nat
  t3           : Nat
  hyst         : Nat
  d1           : Nat
  d2           : Nat
  capacity     : Nat
  v1           : Nat
  v2           : Nat
  v3           : Nat
  rampRate     : Nat
  stallLimit   : Nat
  switches     : Vector SwitchEntry 8
  senders      : Vector SenderEntry 4
  channels     : Vector ChannelEntry 8
  gauges       : Vector GaugeEntry 4
  /-- True when the default configuration is in force, false when it came from the store (R191). -/
  isDefault    : Bool
  checksum     : Word16
  clamped      : Nat
  deriving DecidableEq, Repr

/-! ## Station Control: straps, station state, Resume Record, clock (chapter 10) -/

/-- The latched straps (R173). -/
structure Straps where
  number  : Nat
  sixVolt : Bool
  deriving DecidableEq, Repr

/-- The five station states, coded in this order (chapter 10, Formats). -/
inductive StationState where
  | starting | awake | standby | asleep | setup
  deriving DecidableEq, Repr

/-- The cause in the Resume Record, coded in this order (R183). -/
inductive ResumeCause where
  | powerOn | service | line | input | ign
  deriving DecidableEq, Repr

/-- How far a local wake has come (R181). -/
inductive WakePhase where
  | none | pulse | wait
  deriving DecidableEq, Repr

/-- Station Control (R173 to R183). -/
structure Control where
  /-- False while VBAT is below 3.5 V and the station is held in reset (R175). -/
  powered     : Bool
  state       : StationState
  join        : Timer
  quiet       : Timer
  wake        : WakePhase
  cause       : ResumeCause
  inputIndex  : Option Nat
  clock       : Nat
  deriving DecidableEq, Repr

/-! ## Line Interface (chapter 1) -/

/-- What the station takes the line for: busy until 12 recessive bit times have been seen, idle, or carrying a frame
which it receives: one whose arbitration it lost, or one it did not join (R3, R7, R8). -/
inductive LineView where
  | busy | idle | receiving
  deriving DecidableEq, Repr

/-- The line sub-states, coded in this order (section 1.6). -/
inductive SubState where
  | joined | muted | isolated
  deriving DecidableEq, Repr

/-- The frame kinds (R6). -/
inductive FrameKind where
  | flash | status | announce | service | reply
  deriving DecidableEq, Repr

/-- An entry of the Transmit Queue (R13): its content (the Payload), its age, the attempts it has used, and, for a
REPLY, whether the service restart of R187 is ordered when it leaves the queue. -/
structure Entry where
  content  : List Byte
  age      : Nat
  used     : Nat
  restarts : Bool
  deriving DecidableEq, Repr

/-- The Transmit Queue's six slots (R13): one STATUS, one ANNOUNCE, two FLASH and two REPLY, the two of a kind in
the order of their ages. -/
structure Queue where
  status   : Option Entry
  announce : Option Entry
  flash    : List Entry
  reply    : List Entry
  nextAge  : Nat
  deriving DecidableEq, Repr

/-- The entry in flight (R7): its kind and age, the Payload it is sent with, and whether its queued content was
replaced during the attempt (R14). -/
structure InFlight where
  kind     : FrameKind
  age      : Nat
  content  : List Byte
  replaced : Bool
  deriving DecidableEq, Repr

/-- The eight line counters (R23). -/
structure LineCounters where
  framesSent         : Nat
  arbitrationLosses  : Nat
  collisions         : Nat
  objectionsReceived : Nat
  objectionsRaised   : Nat
  checkErrors        : Nat
  framesDropped      : Nat
  isolationEntries   : Nat
  deriving DecidableEq, Repr

/-- The Line Interface. -/
structure Line where
  view     : LineView
  sub      : SubState
  /-- The 1 s Isolated wait (R21). -/
  isoWait  : Timer
  /-- The wait has ended and the probe is due or being offered (R21). -/
  probing  : Bool
  /-- The failed-attempt run (R21). -/
  run      : Nat
  queue    : Queue
  inFlight : Option InFlight
  /-- The 20 ms spacing after the last successful STATUS (R22). -/
  spacing  : Timer
  /-- The periodic STATUS timer (R22). -/
  periodic : Timer
  counters : LineCounters
  deriving DecidableEq, Repr

/-! ## Peer Table (chapter 2) -/

/-- The states of a peer record, coded in this order (R26, R27). -/
inductive PeerState where
  | absent | present | stale | lost
  deriving DecidableEq, Repr

/-- The station state a STATUS carries: Awake stands for Starting or Awake (R28). -/
inductive PeerStation where
  | awake | standby | setup
  deriving DecidableEq, Repr

/-- The role flags of an ANNOUNCE (R36). -/
structure Roles where
  shunt     : Bool
  gauges    : Bool
  publishes : Bool × Bool
  deriving DecidableEq, Repr

/-- The fault groups of a fault summary (R29). -/
structure FaultGroups where
  output  : Bool
  load    : Bool
  sender  : Bool
  thermal : Bool
  line    : Bool
  station : Bool
  deriving DecidableEq, Repr

/-- The record of one peer (R26). -/
structure PeerRecord where
  number   : Nat
  state    : PeerState
  uid      : Option (BitVec 64)
  checksum : Option Word16
  roles    : Option Roles
  requests : RequestSet
  fanStep  : Nat
  dimmer   : Nat
  demand   : Nat
  supply   : Nat
  shed     : Nat
  station  : PeerStation
  ign      : Bool
  faults   : FaultGroups
  battery  : Option Int
  posA     : Option (Nat × Nat)
  posB     : Option (Nat × Nat)
  bulbLeft : Bool
  bulbRight : Bool
  missed   : Nat
  /-- The ageing timer (R33). -/
  ageing   : Timer
  deriving DecidableEq, Repr

/-- The Peer Table (R25) with its two counts (R32, R38). -/
structure PeerTable where
  records      : List PeerRecord
  changed      : Nat
  inconsistent : Nat
  deriving DecidableEq, Repr

/-! ## Switch Inputs and Function Resolver (chapter 3) -/

/-- One switch input (R44, R46, R47, R54). -/
structure SwitchState where
  accepted : Contact
  debounce : Timer
  toggle   : Bool
  hold     : Timer
  sleepRef : Contact
  deriving DecidableEq, Repr

/-- What Switch Inputs holds of one sender input in Switch or Ladder mode (R48 to R52). -/
structure SenderSwitch where
  contact   : Contact
  position  : Option Nat
  value     : Nat
  /-- Consecutive out-of-band completions, saturating at 3 (R50). -/
  outOfBand : Nat
  deriving DecidableEq, Repr

/-- Switch Inputs, with the IGN input (R43 to R55). -/
structure SwitchInputs where
  inputs      : Vector SwitchState 8
  senders     : Vector SenderSwitch 4
  requests    : RequestSet
  fanStep     : Nat
  dimmer      : Nat
  ignAccepted : Contact
  ignDebounce : Timer
  deriving DecidableEq, Repr

/-- The Effective Function Set: the nineteen effective functions (R56, R81). -/
structure EffectiveSet where
  side       : Bool
  main       : Bool
  dip        : Bool
  panel      : Bool
  fogRear    : Bool
  fogFront   : Bool
  flashL     : Bool
  flashR     : Bool
  stop       : Bool
  rev        : Bool
  interior   : Bool
  horn       : Bool
  aux        : Bool
  ign        : Bool
  tellTurn   : Bool
  tellMain   : Bool
  tellCharge : Bool
  tellOil    : Bool
  tellShed   : Bool
  deriving DecidableEq, Repr

/-- The Function Resolver (R62). -/
structure Resolver where
  union   : RequestSet
  ign     : Bool
  eff     : EffectiveSet
  panel   : Nat
  fanStep : Nat
  dimmer  : Nat
  deriving DecidableEq, Repr

/-! ## Measurement Unit (chapter 4) -/

/-- A Measurement Record and its block in progress (R64 to R66). -/
structure Record where
  latest    : Int
  latestOver : Bool
  avg       : Int
  valid     : Bool
  overRange : Bool
  sum       : Int
  count     : Nat
  sumOver   : Bool
  deriving DecidableEq, Repr

/-- The directed mark of a current record, coded in this order (R74). -/
inductive Mark where
  | none | armed | restarted
  deriving DecidableEq, Repr

/-- A channel current record (R66). -/
structure CurrentRecord where
  base : Record
  mark : Mark
  deriving DecidableEq, Repr

/-- A sender record with its Open and Short conditions (R70). -/
structure SenderRecord where
  base       : Record
  openCount  : Nat
  shortCount : Nat
  openFlag   : Bool
  shortFlag  : Bool
  deriving DecidableEq, Repr

/-- The Measurement Unit. -/
structure Measurement where
  passTimer : Timer
  /-- The slot of the pass whose conversion is next, `none` between passes (R63). -/
  slot      : Option Nat
  supply    : Record
  die       : Record
  battery   : Record
  channels  : Vector CurrentRecord 8
  senders   : Vector SenderRecord 4
  /-- The supply minimum record's latest and averaged values; its flags follow the supply record's (R69). -/
  minLatest : Int
  minAvg    : Int
  deriving DecidableEq, Repr

/-! ## Output Channels (chapter 5) -/

/-- A channel's command, coded in this order (R83). -/
inductive Command where
  | off
  | steady (level : Nat)
  | flashOn
  | flashOff
  deriving DecidableEq, Repr

/-- The states of a channel, coded in this order (section 5.4). -/
inductive ChannelState where
  | off | inrush | on | dark | shed | tripped | locked | test
  deriving DecidableEq, Repr

/-- The result of the last test, coded in this order (R103). -/
inductive TestResult where
  | none | completed | tripped
  deriving DecidableEq, Repr

/-- One output channel. The Motor channel's state is the Fan Drive's; its `state` stays Off here, and its duty, retry
count, over timer and test live here as every channel's do (R86). -/
structure Channel where
  state      : ChannelState
  command    : Command
  duty       : Nat
  retry      : Nat
  window     : Timer
  runTimer   : Timer
  overTimer  : Timer
  retryWait  : Timer
  openTimer  : Timer
  openFlag   : Bool
  testTimer  : Timer
  testResult : TestResult
  deriving DecidableEq, Repr

/-- Output Channels: the eight channels and the station's demand (R104). -/
structure Outputs where
  channels : Vector Channel 8
  demand   : Nat
  deriving DecidableEq, Repr

/-! ## Flasher (chapter 6) -/

/-- The states of the flash cycle, coded in this order (R106). -/
inductive FlashPhase where
  | idle | on | off
  deriving DecidableEq, Repr

/-- One cycle's entry of the bulb-out memory (R118). -/
structure CycleMarks where
  ownLeft       : Bool
  ownRight      : Bool
  receivedLeft  : Bool
  receivedRight : Bool
  deriving DecidableEq, Repr

/-- The bulb-out memory: the cycle in progress, the cycle before, the cycle before that (R118). -/
structure BulbMemory where
  current : CycleMarks
  before  : CycleMarks
  earlier : CycleMarks
  deriving DecidableEq, Repr

/-- The Flasher (R106). -/
structure Flasher where
  phase         : FlashPhase
  sides         : Option SideSet
  fast          : Bool
  half          : Timer
  memory        : BulbMemory
  reportedLeft  : Bool
  reportedRight : Bool
  deriving DecidableEq, Repr

/-! ## Supply Manager (chapter 7) -/

/-- A class's order, coded in this order (R99). -/
inductive Order where
  | normal | limited | shed
  deriving DecidableEq, Repr

/-- An energize hold with its hold timer (R138). -/
structure Hold where
  on    : Bool
  timer : Timer
  deriving DecidableEq, Repr

/-- One value for each of the classes 1, 2 and 3; class 0 always has order normal and hold off (R99). -/
structure Classes (α : Type) where
  one   : α
  two   : α
  three : α
  deriving DecidableEq, Repr

/-- The Supply Manager. -/
structure Supply where
  a          : Nat
  b          : Nat
  c          : Nat
  d          : Nat
  /-- The persistence timers, in the order of `PersTimer`'s constructors (R127, R128, R130). -/
  timers     : Vector PTimer 12
  localLevel : Nat
  effective  : Nat
  harness    : Nat
  drain      : Nat
  drainOver  : Bool
  drainTick  : Timer
  crank      : Bool
  release    : Timer
  thermal    : Bool
  orders     : Classes Order
  holds      : Classes Hold
  deriving DecidableEq, Repr

/-! ## Fan Drive (chapter 8) -/

/-- The states of the Motor channel, coded in this order (section 8.1). -/
inductive FanState where
  | off | ramping | running | suspended | stalled | tripped | locked | test
  deriving DecidableEq, Repr

/-- The Fan Drive. -/
structure Fan where
  state      : FanState
  resolved   : Nat
  target     : Nat
  veff       : Nat
  ramp       : Timer
  runTimer   : Timer
  grace      : Timer
  stallTimer : Timer
  stallWait  : Timer
  retryWait  : Timer
  deferral   : Timer
  stallCount : Nat
  remembered : Option Nat
  /-- The limited cap stands on the target step (R145); one in force as a shed cause comes to be deferred stays with the
  fan that goes on (R155, notes/assumptions/56.md). -/
  capped     : Bool
  deriving DecidableEq, Repr

/-! ## Gauge Unit (chapter 9) -/

/-- A gauge's source status, coded in this order (R166). -/
inductive SourceStatus where
  | waiting | normal | held | estimated | lost
  deriving DecidableEq, Repr

/-- The pin a gauge drive drives: none (both at earth), GnA, GnB (R169). -/
inductive Direction where
  | none | pinA | pinB
  deriving DecidableEq, Repr

/-- One gauge drive (R159 to R169). -/
structure Gauge where
  status    : SourceStatus
  source    : Int
  target    : Int
  displayed : Int
  duty      : Nat
  direction : Direction
  under     : Bool
  deriving DecidableEq, Repr

/-- The Gauge Unit: its four drives and the gauge update timer. -/
structure Gauges where
  drives : Vector Gauge 4
  update : Timer
  deriving DecidableEq, Repr

/-! ## Service Responder, Fault List and configuration store (chapter 11) -/

/-- The fault kinds, coded 1..10 in this order (Formats). -/
inductive FaultKind where
  | trip | openLoad | bulbOut | fanLocked | senderFault | thermal | duplicate | lineIsolated | configDefault
  | drainShed
  deriving DecidableEq, Repr

/-- An entry of the Fault List (R192). -/
structure FaultEntry where
  kind        : FaultKind
  index       : Option Nat
  first       : Nat
  occurrences : Nat
  acked       : Bool
  deriving DecidableEq, Repr

/-- The Fault List, oldest first, with its overflow flag (R192). -/
structure FaultList where
  entries  : List FaultEntry
  overflow : Bool
  deriving DecidableEq, Repr

/-- A 512-byte buffer as its listed cells, addresses strictly rising, no cell equal to what an unlisted address reads
as (`Memory.fill`). -/
structure Memory where
  cells : List Host.Cell
  deriving DecidableEq, Repr

/-- The Service Responder. -/
structure Service where
  ignored     : Nat
  /-- The staging image, held in Setup alone (R188). -/
  staging     : Option Memory
  /-- A commit is programming the store (R190). -/
  programming : Bool
  /-- A service restart has been ordered and not yet taken (R187). -/
  restartOrdered : Bool
  deriving DecidableEq, Repr

/-- The levels at the pins the station watches: SW0..SW7 and IGN. -/
structure Pins where
  switches : Vector PinLevel 8
  ign      : Bool
  deriving DecidableEq, Repr

/-! ## The whole state -/

/-- The state of one station. `store` is the nonvolatile configuration store, `none` when an abandoned programming
left it with a check that does not match (R190). `free` counts the free bytes used (Config.lean) and is the model's
own. `pending` is the queue of commands waiting, first in, first out. -/
structure State where
  pins    : Pins
  uid     : BitVec 64
  store   : Option Memory
  straps  : Straps
  cfg     : WorkingConfig
  ctl     : Control
  line    : Line
  peers   : PeerTable
  sw      : SwitchInputs
  res     : Resolver
  meas    : Measurement
  out     : Outputs
  flash   : Flasher
  supply  : Supply
  fan     : Fan
  gauges  : Gauges
  svc     : Service
  faults  : FaultList
  free    : Nat
  pending : List Instr
  deriving DecidableEq, Repr

/-- No step of this block stops the machine with a fault: the specification gives every command an effect, and a
command whose moment has not come has none (notes/assumptions/2.md). -/
inductive Fault where
  deriving DecidableEq, Repr

/-- The only refusal is the dispatcher's. -/
inductive Refusal where
  /-- Raised by `exec` alone, for a row of the table that has no meaning yet. Safe: the machine stops. -/
  | notModelled (mnemonic : String)
  deriving DecidableEq, Repr

/-- What a command's meaning answers. -/
abbrev Out := Host.Outcome State Fault Refusal

/-! ## The state after a power-on reset

Every field at the value its chapter gives, at station 0 of a 12 V system with a blank store
(notes/assumptions/5.md). The default configuration is in force, its CONFIG_DEFAULT entry made, Starting entered, and
the STATUS and ANNOUNCE of R176 queued. -/

/-- A record right after a reset (R79). -/
def Record.init : Record := ⟨0, false, 0, false, false, 0, 0, false⟩

/-- A Switch Map entry of the default configuration (R191). -/
def SwitchEntry.default : SwitchEntry := ⟨false, false, false, 0, 0, 0⟩

/-- A sender entry of the default configuration: Off, nothing published (R191). -/
def SenderEntry.default : SenderEntry := ⟨.off, 0, 0, 0, [0, 0, 0, 0, 0, 0, 0, 0, 0, 0, 0, 0, 0, 0, 0, 0]⟩

/-- The default Channel Map entry (R81). -/
def ChannelEntry.default : ChannelEntry :=
  ⟨.off, 0, .left, 3, 1000, 0, 100, 80, 1000, 0, 100, 3, .latch⟩

/-- The default Gauge Map entry (R157), its voltmeter span by the system voltage. -/
def GaugeEntry.default (sixVolt : Bool) : GaugeEntry :=
  ⟨.off, 0, 0, 0, 1000, 32, 300, if sixVolt then 500 else 1000, if sixVolt then 800 else 1600⟩

/-- The default configuration (R191, R127, R128, R130, R144), in the column SYSV selects. -/
def WorkingConfig.default (sixVolt : Bool) : WorkingConfig where
  ignFromLine := false
  shunt := false
  ni := 4
  flashPeriod := 720
  quiet := 30
  allowance := 10
  t1 := if sixVolt then 600 else 1200
  t2 := if sixVolt then 580 else 1160
  t3 := if sixVolt then 550 else 1100
  hyst := if sixVolt then 15 else 30
  d1 := 50
  d2 := 100
  capacity := 220
  v1 := if sixVolt then 300 else 600
  v2 := if sixVolt then 450 else 900
  v3 := if sixVolt then 600 else 1200
  rampRate := 60
  stallLimit := 60
  switches := Vector.replicate 8 SwitchEntry.default
  senders := Vector.replicate 4 SenderEntry.default
  channels := Vector.replicate 8 ChannelEntry.default
  gauges := Vector.replicate 4 (GaugeEntry.default sixVolt)
  isDefault := true
  checksum := 0
  clamped := 0

/-- A peer record right after a reset or a wake (R26, R42). Its station state is Awake, for which R26 gives no initial
value (notes/assumptions/36.md). -/
def PeerRecord.init (number : Nat) : PeerRecord where
  number := number
  state := .absent
  uid := none
  checksum := none
  roles := none
  requests := 0
  fanStep := 0
  dimmer := 0
  demand := 0
  supply := 0
  shed := 0
  station := .awake
  ign := false
  faults := ⟨false, false, false, false, false, false⟩
  battery := none
  posA := none
  posB := none
  bulbLeft := false
  bulbRight := false
  missed := 0
  ageing := none

/-- The records of a station's Peer Table after a reset or a wake: one for each number 0..14 but its own, ascending;
none at a strap-invalid station (R25, R42). -/
def PeerTable.initRecords (own : Nat) : List PeerRecord :=
  if own = 15 then []
  else ([0, 1, 2, 3, 4, 5, 6, 7, 8, 9, 10, 11, 12, 13, 14].filter (· ≠ own)).map PeerRecord.init

/-- A switch input after a reset or a wake: undetermined (R44); `debounce` runs from entry to Starting. The sleep
reference, which the first entry to Asleep gives, is undetermined until then (notes/assumptions/38.md). -/
def SwitchState.init (debounce : Timer) : SwitchState := ⟨.undetermined, debounce, false, none, .undetermined⟩

/-- A sender's Switch Inputs state after a reset or a wake (R48, R49, R52, R54). -/
def SenderSwitch.init : SenderSwitch := ⟨.undetermined, none, 63, 0⟩

/-- The empty Effective Function Set (R62). -/
def EffectiveSet.empty : EffectiveSet :=
  ⟨false, false, false, false, false, false, false, false, false, false, false, false, false, false, false, false,
    false, false, false⟩

/-- The Function Resolver after a reset or a wake (R62). -/
def Resolver.init : Resolver := ⟨0, false, EffectiveSet.empty, 1000, 0, 63⟩

/-- The Measurement Unit after a reset or a wake (R79), its pass timer stopped. -/
def Measurement.init : Measurement where
  passTimer := none
  slot := none
  supply := Record.init
  die := Record.init
  battery := Record.init
  channels := Vector.replicate 8 ⟨Record.init, .none⟩
  senders := Vector.replicate 4 ⟨Record.init, 0, 0, false, false⟩
  minLatest := 0
  minAvg := 0

/-- A channel after a reset or a wake (R105). -/
def Channel.init : Channel := ⟨.off, .off, 0, 0, none, none, none, none, none, false, none, .none⟩

/-- An entry of the bulb-out memory without marks (R118). -/
def CycleMarks.clear : CycleMarks := ⟨false, false, false, false⟩

/-- The Flasher after a reset or a wake (R123). -/
def Flasher.init : Flasher :=
  ⟨.idle, none, false, none, ⟨CycleMarks.clear, CycleMarks.clear, CycleMarks.clear⟩, false, false⟩

/-- The Supply Manager after a power-on reset (R142). -/
def Supply.init : Supply where
  a := 0
  b := 0
  c := 0
  d := 0
  timers := Vector.replicate 12 .stopped
  localLevel := 0
  effective := 0
  harness := 0
  drain := 0
  drainOver := false
  drainTick := none
  crank := false
  release := none
  thermal := false
  orders := ⟨.normal, .normal, .normal⟩
  holds := ⟨⟨false, none⟩, ⟨false, none⟩, ⟨false, none⟩⟩

/-- The Fan Drive after a reset or a wake (R156), its ramp update timer stopped. -/
def Fan.init : Fan := ⟨.off, 0, 0, 0, none, none, none, none, none, none, none, 0, none, false⟩

/-- A gauge after a reset or a wake (R171). -/
def Gauge.init : Gauge := ⟨.waiting, 0, 0, 0, 0, .none, false⟩

/-- The empty Transmit Queue (R24). -/
def Queue.empty : Queue := ⟨none, none, [], [], 0⟩

/-- The line counters after a reset (R23). -/
def LineCounters.zero : LineCounters := ⟨0, 0, 0, 0, 0, 0, 0, 0⟩

/-- The machine right after a power-on reset (R175, R176). -/
def State.reset : State where
  pins := ⟨Vector.replicate 8 .undriven, false⟩
  uid := 0
  store := some ⟨[]⟩
  straps := ⟨0, false⟩
  cfg := WorkingConfig.default false
  ctl := ⟨true, .starting, some 250, none, .none, .powerOn, none, 0⟩
  line :=
    { view := .busy, sub := .joined, isoWait := none, probing := false, run := 0,
      queue :=
        { status := some ⟨[0, 0, 63, 0, 0, 0, 0, 4], 0, 0, false⟩,
          announce := some ⟨[0, 0, 0, 0, 0, 0, 0, 0, 0, 0, 0], 1, 0, false⟩,
          flash := [], reply := [], nextAge := 2 },
      inFlight := none, spacing := none, periodic := some 100, counters := LineCounters.zero }
  peers := ⟨PeerTable.initRecords 0, 0, 0⟩
  sw :=
    { inputs := Vector.replicate 8 (SwitchState.init none), senders := Vector.replicate 4 SenderSwitch.init,
      requests := 0, fanStep := 0, dimmer := 63, ignAccepted := .undetermined, ignDebounce := some 20 }
  res := Resolver.init
  meas := { Measurement.init with passTimer := some 4, slot := some 0 }
  out := ⟨Vector.replicate 8 Channel.init, 0⟩
  flash := Flasher.init
  supply :=
    { Supply.init with
      drainTick := some 1000, holds := ⟨⟨true, none⟩, ⟨true, none⟩, ⟨true, none⟩⟩ }
  fan := { Fan.init with ramp := some 100 }
  gauges := ⟨Vector.replicate 4 Gauge.init, some 100⟩
  svc := ⟨0, none, false, false⟩
  faults := ⟨[⟨.configDefault, none, 0, 1, false⟩], false⟩
  free := 0
  pending := []

end Sys2Proof.Machine
end

