-- ==== Sys2Proof/Machine/Ops.lean ====
section
/-! DEFINITION. The named operations the blocks share: rounding and saturation, the updates of State's blocks, the
512-byte buffers, the two CRCs, the Transmit Queue and the line sub-states, and the Fault List. -/

namespace Sys2Proof.Machine

/-! ## Numbers (00_scope.md, Rounding; Saturation and clamping) -/

/-- `a / b` rounded to the nearest integer, an exact half toward positive infinity. -/
def roundDiv (a b : Int) : Int :=
  if b < 0 then (2 * -a + -b) / (2 * -b) else (2 * a + b) / (2 * b)

/-- `a / b` truncated toward zero. -/
def truncDiv (a b : Int) : Int := a.tdiv b

/-- The nearer end of `lo..hi` when `x` falls outside it, else `x`. -/
def clampInt (lo hi x : Int) : Int := if x < lo then lo else if hi < x then hi else x

/-- The nearer end of `lo..hi` when `n` falls outside it, else `n`. -/
def clampNat (lo hi n : Nat) : Nat := if n < lo then lo else if hi < n then hi else n

/-- A count's increment, saturating at `top`. -/
def satInc (top n : Nat) : Nat := min (n + 1) top

/-- A sum saturating at `top`. -/
def satSum (top n : Nat) : Nat := min n top

/-- The eight channels, lowest number first. -/
def allChannels : List (Fin 8) := [0, 1, 2, 3, 4, 5, 6, 7]

/-- The four sender inputs, lowest number first. -/
def allSenders : List (Fin 4) := [0, 1, 2, 3]

/-! ## Updates of State, one for each block -/

def State.withPins (s : State) (x : Pins) : State := { s with pins := x }
def State.withStore (s : State) (x : Option Memory) : State := { s with store := x }
def State.withStraps (s : State) (x : Straps) : State := { s with straps := x }
def State.withCfg (s : State) (x : WorkingConfig) : State := { s with cfg := x }
def State.withCtl (s : State) (x : Control) : State := { s with ctl := x }
def State.withLine (s : State) (x : Line) : State := { s with line := x }
def State.withPeers (s : State) (x : PeerTable) : State := { s with peers := x }
def State.withSw (s : State) (x : SwitchInputs) : State := { s with sw := x }
def State.withRes (s : State) (x : Resolver) : State := { s with res := x }
def State.withMeas (s : State) (x : Measurement) : State := { s with meas := x }
def State.withOut (s : State) (x : Outputs) : State := { s with out := x }
def State.withFlash (s : State) (x : Flasher) : State := { s with flash := x }
def State.withSupply (s : State) (x : Supply) : State := { s with supply := x }
def State.withFan (s : State) (x : Fan) : State := { s with fan := x }
def State.withGauges (s : State) (x : Gauges) : State := { s with gauges := x }
def State.withSvc (s : State) (x : Service) : State := { s with svc := x }
def State.withFaults (s : State) (x : FaultList) : State := { s with faults := x }
def State.withFree (s : State) (x : Nat) : State := { s with free := x }

/-! ## When the station acts at all -/

/-- A station strapped to number 15 (R174). -/
def State.strapInvalid (s : State) : Bool := s.straps.number = 15

/-- The station is powered and no service restart stands ordered (R175, notes/assumptions/4.md). -/
def State.live (s : State) : Bool := s.ctl.powered && !s.svc.restartOrdered

/-- The station is live and not Asleep: its blocks run and it decodes the line (R1, R180). -/
def State.up (s : State) : Bool := s.live && decide (s.ctl.state ≠ .asleep)

/-- Channels, fan, flasher and gauges act in Starting, Awake and Standby, at a station that is not strap-invalid
(R105, R122, R156, R171). -/
def State.drives (s : State) : Bool :=
  !s.strapInvalid
    && (decide (s.ctl.state = .starting) || decide (s.ctl.state = .awake) || decide (s.ctl.state = .standby))

/-- The nominal voltage in cV (00_scope.md, System voltage). -/
def State.vnom (s : State) : Nat := if s.straps.sixVolt then 600 else 1200

/-! ## 512-byte buffers: the staging image and the configuration store (R188, R190) -/

/-- What an unlisted address reads as: the blank store's byte (R191, notes/assumptions/16.md). -/
def Memory.fill : Byte := 0xFF

/-- The byte the cells list at `a`. -/
def cellsRead : List Host.Cell → Nat → Byte
  | [], _ => Memory.fill
  | (k, v) :: t, a => if k = a then v else cellsRead t a

/-- The cells after writing `b` at `a`, in canonical form. -/
def cellsWrite : List Host.Cell → Nat → Byte → List Host.Cell
  | [], a, b => if b = Memory.fill then [] else [(a, b)]
  | (k, v) :: t, a, b =>
    if a < k then (if b = Memory.fill then (k, v) :: t else (a, b) :: (k, v) :: t)
    else if a = k then (if b = Memory.fill then t else (a, b) :: t)
    else (k, v) :: cellsWrite t a b

/-- The cells that hold `bytes` from address `a` on. -/
def cellsOf : Nat → List Byte → List Host.Cell
  | _, [] => []
  | a, b :: t => if b = Memory.fill then cellsOf (a + 1) t else (a, b) :: cellsOf (a + 1) t

/-- Addresses strictly rising from `lo` on, below 512, and no cell equal to what an unlisted address reads as. -/
def cellsWf : Nat → List Host.Cell → Bool
  | _, [] => true
  | lo, (k, v) :: t => decide (lo ≤ k) && decide (k < 512) && decide (v ≠ Memory.fill) && cellsWf (k + 1) t

/-- The canonical form of a buffer. -/
def Memory.wf (m : Memory) : Bool := cellsWf 0 m.cells

/-- The byte at an address. -/
def Memory.read (m : Memory) (a : Nat) : Byte := cellsRead m.cells a

/-- A buffer with one byte written; there is no address above 511. -/
def Memory.write (m : Memory) (a : Nat) (b : Byte) : Memory :=
  if a < 512 then ⟨cellsWrite m.cells a b⟩ else m

/-- Bytes written from an address on. -/
def Memory.writeAll (m : Memory) : Nat → List Byte → Memory
  | _, [] => m
  | a, b :: t => (m.write a b).writeAll (a + 1) t

/-- The buffer that holds these bytes from address 0 on. -/
def Memory.ofBytes (bytes : List Byte) : Memory := ⟨cellsOf 0 (bytes.take 512)⟩

/-- The first `n` bytes of a buffer. -/
def Memory.bytes (m : Memory) (n : Nat) : List Byte := (List.range n).map m.read

/-! ## Checks (R5, R191) -/

/-- One shift of the CRC-8 register (R5). -/
def crc8Shift (r : Byte) : Byte := if r.msb then (r <<< 1) ^^^ 0x1D#8 else r <<< 1

/-- One character into the CRC-8 (R5). -/
def crc8Char (r c : Byte) : Byte :=
  crc8Shift (crc8Shift (crc8Shift (crc8Shift (crc8Shift (crc8Shift (crc8Shift (crc8Shift (r ^^^ c))))))))

/-- The Check of these characters (R5). -/
def crc8 (chars : List Byte) : Byte := chars.foldl crc8Char 0xFF#8

/-- One shift of the CRC-16 register (R191). -/
def crc16Shift (r : Word16) : Word16 := if r.msb then (r <<< 1) ^^^ 0x1021#16 else r <<< 1

/-- One byte into the CRC-16 (R191). -/
def crc16Byte (r : Word16) (c : Byte) : Word16 :=
  crc16Shift (crc16Shift (crc16Shift (crc16Shift (crc16Shift (crc16Shift (crc16Shift (crc16Shift
    (r ^^^ (c.setWidth 16 <<< 8)))))))))

/-- The configuration record's check (R191). -/
def crc16 (bytes : List Byte) : Word16 := bytes.foldl crc16Byte 0xFFFF#16

/-! ## Fault List (R192) -/

/-- The entry is of this kind and index. -/
def FaultEntry.same (e : FaultEntry) (kind : FaultKind) (index : Option Nat) : Bool :=
  decide (e.kind = kind) && decide (e.index = index)

/-- The list without its first acknowledged entry. -/
def dropFirstAcked : List FaultEntry → List FaultEntry
  | [] => []
  | e :: t => if e.acked then t else e :: dropFirstAcked t

/-- The Fault List after a block has an entry made (R192). -/
def FaultList.add (l : FaultList) (kind : FaultKind) (index : Option Nat) (clock : Nat) : FaultList :=
  let fresh : FaultEntry := ⟨kind, index, clock, 1, false⟩
  if l.entries.any (·.same kind index) then
    { l with entries := l.entries.map fun e =>
        if e.same kind index then { e with occurrences := satInc 255 e.occurrences, acked := false } else e }
  else if l.entries.length < 8 then { l with entries := l.entries ++ [fresh] }
  else if l.entries.any (·.acked) then { l with entries := dropFirstAcked l.entries ++ [fresh] }
  else { l with overflow := true }

/-- A block has a fault entry made; its first time is the station clock (R183, R192). -/
def State.addFault (s : State) (kind : FaultKind) (index : Option Nat) : State :=
  s.withFaults (s.faults.add kind index s.ctl.clock)

/-! ## Frames on the line (R4, R6, R18) -/

/-- The kind code in the Head (R6). -/
def FrameKind.code : FrameKind → Nat
  | .flash => 1 | .status => 2 | .announce => 3 | .service => 4 | .reply => 5

/-- The urgency in the Claim (R6). -/
def FrameKind.urgency : FrameKind → Nat
  | .flash => 1 | .status => 5 | .announce => 6 | .service => 2 | .reply => 7

/-- The attempts an entry of the kind may use (R18). -/
def FrameKind.attempts : FrameKind → Nat
  | .flash => 1 | .status => 3 | .announce => 4 | .service => 0 | .reply => 4

/-- The characters of a frame: Claim, Head, Payload and Check (R4, R5, Formats). -/
def frameChars (own : Nat) (kind : FrameKind) (payload : List Byte) : List Byte :=
  let body := BitVec.ofNat 8 (kind.urgency * 16 + own) :: BitVec.ofNat 8 (kind.code * 16 + payload.length) :: payload
  body ++ [crc8 body]

/-- The kind and length in a Head, and the Claim, are ones R6's table allows together. -/
def formatOk (claim head : Byte) : Bool :=
  let u := claim.toNat / 16
  let n := claim.toNat % 16
  let len := head.toNat % 16
  match head.toNat / 16 with
  | 1 => decide (u = 1) && decide (n < 15) && decide (len = 1)
  | 2 => decide (u = 5) && decide (n < 15)
      && (decide (len = 8) || decide (len = 10) || decide (len = 12) || decide (len = 14))
  | 3 => decide (u = 6) && decide (n < 15) && decide (len = 11)
  | 4 => decide (u = 2) && decide (n = 15) && (decide (1 ≤ len) && decide (len ≤ 8))
  | 5 => decide (u = 7) && decide (n < 15) && decide (1 ≤ len)
  | _ => false

/-! ## Transmit Queue (R13 to R18) -/

/-- The side set a FLASH payload carries in bits 7..6 of its byte. -/
def sideBits (content : List Byte) : Nat := (content.headD 0).toNat / 64

/-- The queued entry of this kind and age. -/
def Queue.entry? (q : Queue) (kind : FrameKind) (age : Nat) : Option Entry :=
  match kind with
  | .status => q.status.filter (·.age = age)
  | .announce => q.announce.filter (·.age = age)
  | .flash => q.flash.find? (·.age = age)
  | .reply => q.reply.find? (·.age = age)
  | .service => none

/-- The queue without the entry of this kind and age. -/
def Queue.remove (q : Queue) (kind : FrameKind) (age : Nat) : Queue :=
  match kind with
  | .status => { q with status := q.status.filter (·.age ≠ age) }
  | .announce => { q with announce := q.announce.filter (·.age ≠ age) }
  | .flash => { q with flash := q.flash.filter (·.age ≠ age) }
  | .reply => { q with reply := q.reply.filter (·.age ≠ age) }
  | .service => q

/-- The queue with one more attempt used by the entry of this kind and age. -/
def Queue.useAttempt (q : Queue) (kind : FrameKind) (age : Nat) : Queue :=
  let use (e : Entry) : Entry := if e.age = age then { e with used := e.used + 1 } else e
  match kind with
  | .status => { q with status := q.status.map use }
  | .announce => { q with announce := q.announce.map use }
  | .flash => { q with flash := q.flash.map use }
  | .reply => { q with reply := q.reply.map use }
  | .service => q

/-- How many queued REPLY entries order a service restart when they leave (R187). -/
def Queue.restartCount (q : Queue) : Nat := (q.reply.filter (·.restarts)).length

/-- The queue emptied (R13, R24). -/
def Queue.emptied (q : Queue) : Queue := { q with status := none, announce := none, flash := [], reply := [] }

/-- The replacement of queued content that meets its entry in flight is noted (R14). -/
def Line.markReplaced (l : Line) (kind : FrameKind) (age : Nat) : Line :=
  { l with inFlight := l.inFlight.map fun f =>
      if f.kind = kind ∧ f.age = age then { f with replaced := true } else f }

/-- A STATUS takes its slot, or replaces the content queued there (R14). -/
def Line.putStatus (l : Line) (content : List Byte) : Line :=
  match l.queue.status with
  | none => { l with queue := { l.queue with
      status := some ⟨content, l.queue.nextAge, 0, false⟩, nextAge := l.queue.nextAge + 1 } }
  | some e =>
    { l with queue := { l.queue with status := some { e with content := content } } }.markReplaced .status e.age

/-- An ANNOUNCE takes its slot, or replaces the content queued there (R14). -/
def Line.putAnnounce (l : Line) (content : List Byte) : Line :=
  match l.queue.announce with
  | none => { l with queue := { l.queue with
      announce := some ⟨content, l.queue.nextAge, 0, false⟩, nextAge := l.queue.nextAge + 1 } }
  | some e =>
    { l with queue := { l.queue with announce := some { e with content := content } } }.markReplaced .announce e.age

/-- A FLASH replaces the queued one of its side set, takes an empty slot, or displaces the older (R15). A displaced
entry that is itself in flight is dropped and its attempt runs on (notes/assumptions/35.md). -/
def Line.putFlash (l : Line) (content : List Byte) : Line :=
  match l.queue.flash.find? (fun e => sideBits e.content = sideBits content) with
  | some e =>
    { l with queue := { l.queue with
        flash := l.queue.flash.map fun (x : Entry) => if x.age = e.age then { x with content := content } else x }
      }.markReplaced .flash e.age
  | none =>
    let fresh : Entry := ⟨content, l.queue.nextAge, 0, false⟩
    if l.queue.flash.length < 2 then
      { l with queue := { l.queue with flash := l.queue.flash ++ [fresh], nextAge := l.queue.nextAge + 1 } }
    else
      { l with
        queue := { l.queue with flash := l.queue.flash.tail ++ [fresh], nextAge := l.queue.nextAge + 1 }
        counters := { l.counters with framesDropped := satInc 65535 l.counters.framesDropped } }

/-- Both REPLY slots are taken (R17). -/
def Line.replyFull (l : Line) : Bool := decide (2 ≤ l.queue.reply.length)

/-- A REPLY takes an empty slot (R17); the caller has seen that there is one. -/
def Line.putReply (l : Line) (content : List Byte) (restarts : Bool) : Line :=
  { l with queue := { l.queue with
      reply := l.queue.reply ++ [⟨content, l.queue.nextAge, 0, restarts⟩], nextAge := l.queue.nextAge + 1 } }

/-- The content of an entry whose replacement outlived the attempt joins anew (R14, R15). -/
def Line.rejoin (l : Line) (kind : FrameKind) (content : List Byte) : Line :=
  match kind with
  | .status => l.putStatus content
  | .announce => l.putAnnounce content
  | .flash => l.putFlash content
  | .reply => l
  | .service => l

/-- The flags of a queued FLASH are among those of a received one of the same side set (R16). -/
def withdrawnBy (received queued : Byte) : Bool :=
  decide (received.toNat / 64 ≠ 0) && decide (received.toNat / 64 = queued.toNat / 64)
    && (!queued.getLsbD 5 || received.getLsbD 5) && (!queued.getLsbD 4 || received.getLsbD 4)

/-- The queued FLASH entries a received FLASH withdraws leave the queue (R16). -/
def Line.withdraw (l : Line) (received : Byte) : Line :=
  { l with queue := { l.queue with
      flash := l.queue.flash.filter fun e => !withdrawnBy received (e.content.headD 0) } }

/-- The eligible entry that is offered: lowest urgency first, the oldest among equals (R13, R21, R22). -/
def Line.choose (l : Line) (strapInvalid : Bool) : Option (FrameKind × Entry) :=
  let status := if l.spacing.isSome then none else l.queue.status.map fun e => (FrameKind.status, e)
  if strapInvalid then none
  else match l.sub with
    | .isolated => if l.probing then status else none
    | .joined | .muted =>
      (l.queue.flash.head?.map fun e => (FrameKind.flash, e)).or
        (status.or ((l.queue.announce.map fun e => (FrameKind.announce, e)).or
          (l.queue.reply.head?.map fun e => (FrameKind.reply, e))))

/-- The station drives the Claim start bit of the entry chosen, which is in flight from then on (R7). -/
def Line.offer (l : Line) (kind : FrameKind) (e : Entry) : Line :=
  { l with view := .busy, inFlight := some ⟨kind, e.age, e.content, false⟩ }

/-- The end of a successful attempt (R11, R14, R21, R22). An Isolated station rejoins by any success, an entry's that a
stuck line left in flight too (notes/assumptions/11.md). -/
def Line.succeed (l : Line) (f : InFlight) : Line :=
  let entry := l.queue.entry? f.kind f.age
  let l' : Line :=
    { l with
      view := .busy
      sub := if l.sub = .isolated then .joined else l.sub
      isoWait := if l.sub = .isolated then none else l.isoWait
      probing := if l.sub = .isolated then false else l.probing
      run := 0
      queue := l.queue.remove f.kind f.age
      inFlight := none
      spacing := if f.kind = .status then some 20 else l.spacing
      counters := { l.counters with framesSent := satInc 65535 l.counters.framesSent } }
  match f.replaced, entry with
  | true, some e => l'.rejoin f.kind e.content
  | _, _ => l'

/-- The end of a failed attempt outside the probe: the attempt is used, and an entry without attempts left is dropped
(R18); the run goes up by one (R21, notes/assumptions/9.md). -/
def Line.failAttempt (l : Line) (f : InFlight) : Line :=
  let q := l.queue.useAttempt f.kind f.age
  let dropped := match q.entry? f.kind f.age with
    | some e => decide (f.kind.attempts ≤ e.used)
    | none => false
  { l with
    view := .busy
    run := satInc 255 l.run
    queue := if dropped then q.remove f.kind f.age else q
    inFlight := none
    counters := if dropped then { l.counters with framesDropped := satInc 65535 l.counters.framesDropped }
      else l.counters }

/-- The end of a failed probe: its entry and the run stay, and a new 1 s wait begins (R21). -/
def Line.failProbe (l : Line) : Line :=
  { l with view := .busy, inFlight := none, isoWait := some 1000, probing := false }

/-- Entry to Isolated (R21). -/
def State.enterIsolated (s : State) : State :=
  (s.withLine { s.line with
    sub := .isolated
    isoWait := some 1000
    probing := false
    run := 0
    queue := { s.line.queue with flash := [] }
    counters := { s.line.counters with isolationEntries := satInc 65535 s.line.counters.isolationEntries }
    }).addFault .lineIsolated none

/-- The finding of a duplicate (R19). -/
def State.findDuplicate (s : State) : State :=
  if s.line.sub = .muted then s
  else
    (s.withLine { s.line with
      sub := .muted
      isoWait := none
      probing := false
      queue := { s.line.queue with status := none, announce := none, flash := [] }
      }).addFault .duplicate none

/-- The order of a service restart (R187); a commit that is programming is abandoned and leaves the store with a check
that does not match (R190, notes/assumptions/17.md). -/
def State.orderRestart (s : State) : State :=
  (s.withStore (if s.svc.programming then none else s.store)).withSvc
    { s.svc with restartOrdered := true, programming := false }

/-- A service restart is ordered when the REPLY that carries it has left the queue (R187). -/
def State.orderIfLeft (before : Queue) (s : State) : State :=
  if s.line.queue.restartCount < before.restartCount then s.orderRestart else s

/-- A failed attempt, by collision or objection (R9, R11, R18, R21). While Isolated whatever is in flight fails as the
probe does, an entry that a stuck line left in flight too (notes/assumptions/11.md). -/
def State.attemptFailed (s : State) (f : InFlight) : State :=
  let before := s.line.queue
  if s.line.sub = .isolated then s.withLine s.line.failProbe
  else
    let s := (s.withLine (s.line.failAttempt f)).orderIfLeft before
    if s.line.sub = .joined ∧ 16 ≤ s.line.run then s.enterIsolated else s

/-! ## Persistence timers and class tables (R126, R99) -/

/-- The place of a persistence timer in `Supply.timers`. -/
def persIndex : PersTimer → Fin 12
  | .entry1 => 0 | .entry2 => 1 | .entry3 => 2 | .exit1 => 3 | .exit2 => 4 | .exit3 => 5
  | .raise1 => 6 | .raise2 => 7 | .lower1 => 8 | .lower0 => 9 | .overCapacity => 10 | .underCapacity => 11

/-- A persistence timer of contributor (a) (R127). -/
def persOfSupply : PersTimer → Bool
  | .entry1 | .entry2 | .entry3 | .exit1 | .exit2 | .exit3 => true
  | .raise1 | .raise2 | .lower1 | .lower0 | .overCapacity | .underCapacity => false

/-- A persistence timer judged at a value that meets its condition or not (R126). -/
def PTimer.judge (t : PTimer) (meets : Bool) : PTimer :=
  if meets then (if t = .stopped then .running else t) else .stopped

/-- The state of a persistence timer. -/
def Supply.timer (u : Supply) (t : PersTimer) : PTimer := u.timers[persIndex t]

/-- A persistence timer set. -/
def Supply.setTimer (u : Supply) (t : PersTimer) (x : PTimer) : Supply :=
  { u with timers := u.timers.set (persIndex t) x }

/-- A persistence timer judged in place. -/
def Supply.judge (u : Supply) (t : PersTimer) (meets : Bool) : Supply := u.setTimer t ((u.timer t).judge meets)

/-- The value of a class in a table over the classes 1, 2 and 3. -/
def Classes.get {α : Type} (x : Classes α) : HeldClass → α
  | .one => x.one | .two => x.two | .three => x.three

/-- A table with the value of one class replaced. -/
def Classes.set {α : Type} (x : Classes α) (c : HeldClass) (v : α) : Classes α :=
  match c with
  | .one => { x with one := v }
  | .two => { x with two := v }
  | .three => { x with three := v }

/-- The order of a class 0..3; class 0's is always normal (R99). -/
def Supply.order (u : Supply) (cls : Nat) : Order :=
  match cls with
  | 1 => u.orders.one
  | 2 => u.orders.two
  | 3 => u.orders.three
  | _ => .normal

/-- Whether the energize hold of a class 0..3 is on; class 0's is always off (R99). -/
def Supply.held (u : Supply) (cls : Nat) : Bool :=
  match cls with
  | 1 => u.holds.one.on
  | 2 => u.holds.two.on
  | 3 => u.holds.three.on
  | _ => false

end Sys2Proof.Machine
end

