-- ==== Sys2Proof/Machine/Operands.lean ====
section
/-! DEFINITION. Reading and writing operands: big-endian fields, packed items, the STATUS, ANNOUNCE and FLASH
payloads, the sample of a conversion slot, sender linearization, and the codes of the enumerated fields. -/

namespace Sys2Proof.Machine

/-! ## Fields of bytes (Formats) -/

/-- The byte at a place of a payload. -/
def byteAt (p : List Byte) (i : Nat) : Nat := (p.getD i 0).toNat

/-- The two-byte field at a place, most significant byte first. -/
def wordAt (p : List Byte) (i : Nat) : Nat := byteAt p i * 256 + byteAt p (i + 1)

/-- A two's complement sixteen-bit field. -/
def signed16 (n : Nat) : Int := if 32768 ≤ n then (n : Int) - 65536 else n

/-- One byte. -/
def putByte (n : Nat) : Byte := BitVec.ofNat 8 n

/-- Two bytes, most significant first. -/
def putWord (n : Nat) : List Byte := [putByte (n / 256), putByte n]

/-- Two bytes, two's complement. -/
def putSigned (x : Int) : List Byte := putWord (x % 65536).toNat

/-- Four bytes, most significant first. -/
def putQuad (n : Nat) : List Byte := putWord (n / 65536) ++ putWord (n % 65536)

/-- Eight bytes, most significant first. -/
def putUid (u : BitVec 64) : List Byte := putQuad (u.toNat / 4294967296) ++ putQuad (u.toNat % 4294967296)

/-- The 64-bit field at a place. -/
def uidAt (p : List Byte) (i : Nat) : BitVec 64 :=
  BitVec.ofNat 64 (((wordAt p i * 65536 + wordAt p (i + 2)) * 65536 + wordAt p (i + 4)) * 65536 + wordAt p (i + 6))

/-- A flag as a number. -/
def flagBit (b : Bool) : Nat := if b then 1 else 0

/-- Values packed from bit 0 upward in the order named, each in its width (Formats, READ reply data). -/
def pack : List (Nat × Nat) → Nat
  | [] => 0
  | (v, w) :: t => v % 2 ^ w + 2 ^ w * pack t

/-! ## Codes of the enumerated fields: places in the list where the rule gives the values (Formats) -/

def StationState.code : StationState → Nat
  | .starting => 0 | .awake => 1 | .standby => 2 | .asleep => 3 | .setup => 4

def SubState.code : SubState → Nat
  | .joined => 0 | .muted => 1 | .isolated => 2

def PeerState.code : PeerState → Nat
  | .absent => 0 | .present => 1 | .stale => 2 | .lost => 3

def PeerStation.code : PeerStation → Nat
  | .awake => 0 | .standby => 1 | .setup => 2

def ResumeCause.code : ResumeCause → Nat
  | .powerOn => 0 | .service => 1 | .line => 2 | .input => 3 | .ign => 4

def Mark.code : Mark → Nat
  | .none => 0 | .armed => 1 | .restarted => 2

def Command.code : Command → Nat
  | .off => 0 | .steady _ => 1 | .flashOn => 2 | .flashOff => 3

def ChannelState.code : ChannelState → Nat
  | .off => 0 | .inrush => 1 | .on => 2 | .dark => 3 | .shed => 4 | .tripped => 5 | .locked => 6 | .test => 7

def TestResult.code : TestResult → Nat
  | .none => 0 | .completed => 1 | .tripped => 2

def FanState.code : FanState → Nat
  | .off => 0 | .ramping => 1 | .running => 2 | .suspended => 3 | .stalled => 4 | .tripped => 5 | .locked => 6
  | .test => 7

def FlashPhase.code : FlashPhase → Nat
  | .idle => 0 | .on => 1 | .off => 2

/-- The side set as a FLASH payload codes it (Formats). -/
def SideSet.code : SideSet → Nat
  | .left => 1 | .right => 2 | .both => 3

/-- No side set is coded 0. -/
def sideSetCode (s : Option SideSet) : Nat := (s.map SideSet.code).getD 0

/-- The side set of a FLASH payload's code; 0 names none. -/
def sideSetOf (n : Nat) : Option SideSet :=
  match n with
  | 1 => some .left | 2 => some .right | 3 => some .both | _ => none

def Order.code : Order → Nat
  | .normal => 0 | .limited => 1 | .shed => 2

def SourceStatus.code : SourceStatus → Nat
  | .waiting => 0 | .normal => 1 | .held => 2 | .estimated => 3 | .lost => 4

def Direction.code : Direction → Nat
  | .none => 0 | .pinA => 1 | .pinB => 2

def GaugeKind.code : GaugeKind → Nat
  | .off => 0 | .thermal => 1 | .coilEnd => 2 | .coilCentre => 3

def SenderMode.code : SenderMode → Nat
  | .off => 0 | .resistive => 1 | .switch => 2 | .ladder => 3

def ChannelKind.code : ChannelKind → Nat
  | .off => 0 | .lamp => 1 | .flashLamp => 2 | .stopTurn => 3 | .plain => 4 | .motor => 5

def Side.code : Side → Nat
  | .left => 0 | .right => 1

def Exhaustion.code : Exhaustion → Nat
  | .latch => 0 | .persist => 1

def FaultKind.code : FaultKind → Nat
  | .trip => 1 | .openLoad => 2 | .bulbOut => 3 | .fanLocked => 4 | .senderFault => 5 | .thermal => 6
  | .duplicate => 7 | .lineIsolated => 8 | .configDefault => 9 | .drainShed => 10

/-! ## The STATUS payload (R28 to R32, Formats) -/

/-- What a STATUS carries. -/
structure StatusContent where
  requests  : RequestSet
  fanStep   : Nat
  dimmer    : Nat
  demand    : Nat
  supply    : Nat
  shed      : Nat
  station   : PeerStation
  ign       : Bool
  faults    : FaultGroups
  bulbLeft  : Bool
  bulbRight : Bool
  battery   : Option Int
  posA      : Option (Nat × Nat)
  posB      : Option (Nat × Nat)
  deriving DecidableEq, Repr

/-- The state byte of a STATUS. -/
def stateByte (shed : Nat) (station : PeerStation) (ign battery posA posB : Bool) : Nat :=
  pack [(flagBit posB, 1), (flagBit posA, 1), (flagBit battery, 1), (flagBit ign, 1), (station.code, 2), (shed, 2)]

/-- The fault summary byte of a STATUS. -/
def summaryByte (f : FaultGroups) (bulbLeft bulbRight : Bool) : Nat :=
  pack [(flagBit bulbRight, 1), (flagBit bulbLeft, 1), (flagBit f.station, 1), (flagBit f.line, 1),
    (flagBit f.thermal, 1), (flagBit f.sender, 1), (flagBit f.load, 1), (flagBit f.output, 1)]

/-- A published position: sender index and position. -/
def putPosition (x : Nat × Nat) : List Byte := putWord (x.1 % 4 * 16384 + x.2 % 1024)

/-- The STATUS payload of a content (Formats). -/
def StatusContent.payload (c : StatusContent) : List Byte :=
  putWord c.requests.toNat
    ++ [putByte (pack [(c.dimmer, 6), (c.fanStep, 2)])]
    ++ putWord c.demand
    ++ [putByte c.supply,
        putByte (stateByte c.shed c.station c.ign c.battery.isSome c.posA.isSome c.posB.isSome),
        putByte (summaryByte c.faults c.bulbLeft c.bulbRight)]
    ++ ((c.battery.map putSigned).getD [])
    ++ ((c.posA.map putPosition).getD [])
    ++ ((c.posB.map putPosition).getD [])

/-- The station-state value of a state byte; the fourth names no state (R32). -/
def stationOf (n : Nat) : Option PeerStation :=
  match n with
  | 0 => some .awake | 1 => some .standby | 2 => some .setup | _ => none

/-- The position field at a place, its position clamped to 0..1000 (R31). -/
def positionAt (p : List Byte) (i : Nat) : Nat × Nat := (wordAt p i / 16384, min (wordAt p i % 1024) 1000)

/-- The content of a STATUS payload, clamped as R31 gives; `none` when it is inconsistent (R32). -/
def decodeStatus (p : List Byte) : Option StatusContent :=
  let sb := p.getD 6 0
  let nBat := flagBit (sb.getLsbD 2)
  let nA := flagBit (sb.getLsbD 1)
  let nB := flagBit (sb.getLsbD 0)
  let sum := p.getD 7 0
  if p.length = 8 + 2 * (nBat + nA + nB) then
    match stationOf (byteAt p 6 / 16 % 4) with
    | none => none
    | some station =>
      some {
        requests := BitVec.ofNat 16 (wordAt p 0)
        fanStep := byteAt p 2 / 64
        dimmer := byteAt p 2 % 64
        demand := min (wordAt p 3) 4095
        supply := min (byteAt p 5) 200
        shed := byteAt p 6 / 64
        station := station
        ign := sb.getLsbD 3
        faults := ⟨sum.getLsbD 7, sum.getLsbD 6, sum.getLsbD 5, sum.getLsbD 4, sum.getLsbD 3, sum.getLsbD 2⟩
        bulbLeft := sum.getLsbD 1
        bulbRight := sum.getLsbD 0
        battery := if sb.getLsbD 2 then some (clampInt (-600) 600 (signed16 (wordAt p 8))) else none
        posA := if sb.getLsbD 1 then some (positionAt p (8 + 2 * nBat)) else none
        posB := if sb.getLsbD 0 then some (positionAt p (8 + 2 * (nBat + nA))) else none }
  else none

/-! ## ANNOUNCE and FLASH payloads (R36, R111, Formats) -/

/-- The role flags of an ANNOUNCE. -/
def rolesByte (r : Roles) : Nat :=
  pack [(flagBit r.publishes.2, 1), (flagBit r.publishes.1, 1), (flagBit r.gauges, 1), (flagBit r.shunt, 1)]

/-- The role flags an ANNOUNCE carries in its byte 10. -/
def rolesOf (b : Byte) : Roles := ⟨b.getLsbD 3, b.getLsbD 2, (b.getLsbD 1, b.getLsbD 0)⟩

/-- The ANNOUNCE payload. -/
def announcePayload (uid : BitVec 64) (checksum : Word16) (r : Roles) : List Byte :=
  putUid uid ++ putWord checksum.toNat ++ [putByte (rolesByte r)]

/-- The FLASH payload: bits 7..6 side set, 5 bulb-out left, 4 bulb-out right, 3 fast rate in use. -/
def flashPayload (sides : SideSet) (bulbLeft bulbRight fast : Bool) : List Byte :=
  [putByte (pack [(0, 3), (flagBit fast, 1), (flagBit bulbRight, 1), (flagBit bulbLeft, 1), (sides.code, 2)])]

/-- A FLASH's side set, bulb-out flags and fast-rate flag. -/
structure FlashContent where
  sides     : Option SideSet
  bulbLeft  : Bool
  bulbRight : Bool
  fast      : Bool
  deriving DecidableEq, Repr

/-- The content of a FLASH payload's byte. -/
def decodeFlash (b : Byte) : FlashContent :=
  ⟨sideSetOf (b.toNat / 64), b.getLsbD 5, b.getLsbD 4, b.getLsbD 3⟩

/-! ## Conversion slots (R63, R64) -/

/-- What a slot of the pass converts. -/
inductive SlotInput where
  | supply | die | battery
  | channel (i : Fin 8)
  | sender (n : Fin 4)
  deriving DecidableEq, Repr

/-- The input of a slot (R63). -/
def slotInput (k : Nat) : SlotInput :=
  if k = 0 then .supply
  else if k = 1 then .die
  else if k = 2 then .battery
  else if k ≤ 10 then .channel (Fin.ofNat 8 (k - 3))
  else .sender (Fin.ofNat 4 (k - 11))

/-- The slot after one: slot 2 passes without a conversion while the shunt is disabled, and slot 14 is the last. -/
def nextSlot (shunt : Bool) (k : Nat) : Option Nat :=
  if k = 1 ∧ shunt = false then some 3 else if 14 ≤ k then none else some (k + 1)

/-- The sample a reading gives and its over-range mark (R64). A sender's reading has no value beyond its span
(notes/assumptions/13.md). -/
def takeReading (input : SlotInput) (x : Int) : Int × Bool :=
  match input with
  | .supply => (clampInt 0 2000 x, decide (x < 0) || decide (2000 < x))
  | .die => (clampInt (-40) 160 x, decide (x < -40) || decide (160 < x))
  | .battery => (clampInt (-600) 600 x, decide (x < -600) || decide (600 < x))
  | .channel _ => (clampInt 0 400 x, decide (x < 0) || decide (400 < x))
  | .sender _ => (clampInt 0 1023 x, false)

/-! ## Sender Tables and ladders (R49, R52, R160) -/

/-- The first `n` pairs of a list of two-byte fields. -/
def wordPairs : Nat → List Nat → List (Nat × Nat)
  | n + 1, a :: b :: t => (a, b) :: wordPairs n t
  | _, _ => []

/-- The points of a Sender Table. -/
def SenderEntry.points (e : SenderEntry) : List (Nat × Nat) := wordPairs e.count e.words

/-- The bands of a ladder. -/
def SenderEntry.bands (e : SenderEntry) : List (Nat × Nat) := wordPairs e.count e.words

/-- The reading that gives dimmer value 0 (R52). -/
def SenderEntry.rzero (e : SenderEntry) : Nat := e.words.getD 8 0

/-- The reading that gives dimmer value 63 (R52). -/
def SenderEntry.rfull (e : SenderEntry) : Nat := e.words.getD 9 0

/-- The point of lowest R. -/
def lowestPoint (first : Nat × Nat) (rest : List (Nat × Nat)) : Nat × Nat :=
  rest.foldl (fun b p => if p.1 < b.1 then p else b) first

/-- The point of highest R. -/
def highestPoint (first : Nat × Nat) (rest : List (Nat × Nat)) : Nat × Nat :=
  rest.foldl (fun b p => if b.1 < p.1 then p else b) first

/-- The position on the first segment, in table order, whose two points have `r` between them (R160). -/
def onSegments : List (Nat × Nat) → Int → Int
  | p :: q :: t, r =>
    if ((p.1 : Int) ≤ r ∧ r ≤ q.1) ∨ ((q.1 : Int) ≤ r ∧ r ≤ p.1) then
      (p.2 : Int) + roundDiv (((q.2 : Int) - p.2) * (r - p.1)) ((q.1 : Int) - p.1)
    else onSegments (q :: t) r
  | [p], _ => p.2
  | [], _ => 0

/-- The linearized position of a reading by a Sender Table (R160). -/
def linearize (points : List (Nat × Nat)) (r : Int) : Int :=
  match points with
  | [] => 0
  | p :: t =>
    if r < (lowestPoint p t).1 then (lowestPoint p t).2
    else if ((highestPoint p t).1 : Int) < r then (highestPoint p t).2
    else onSegments (p :: t) r

/-- The lowest band, from index `i` on, that holds a reading (R49). -/
def bandOf : List (Nat × Nat) → Nat → Int → Option Nat
  | [], _, _ => none
  | (lo, hi) :: t, i, r => if (lo : Int) ≤ r ∧ r ≤ hi then some i else bandOf t (i + 1) r

/-- A dimmer ladder's value for a reading (R52). -/
def dimmerValue (e : SenderEntry) (r : Int) : Nat :=
  (clampInt 0 63 (roundDiv ((r - e.rzero) * 63) ((e.rfull : Int) - e.rzero))).toNat

end Sys2Proof.Machine
end

