-- ==== Sys2Proof/Machine/Flags.lean ====
section
/-! DEFINITION. The flags and functions computed from the values the blocks hold: what counts of the Peer Table, the
Union and the effective functions (R56 to R61), the fault summary (R29), the comparisons with channel limits (R72,
R73), the crank condition (R135), the class orders (R133), and the contents of the frames the station composes. -/

namespace Sys2Proof.Machine

/-! ## The Peer Table as its readers see it (R27, R40) -/

/-- A record whose values count: Present or Stale (R27). -/
def PeerRecord.counts (r : PeerRecord) : Bool := decide (r.state = .present) || decide (r.state = .stale)

/-- A record in Present. -/
def PeerRecord.isPresent (r : PeerRecord) : Bool := decide (r.state = .present)

/-- The record of a station number. -/
def PeerTable.find (t : PeerTable) (n : Nat) : Option PeerRecord := t.records.find? (·.number = n)

/-- The table with the record of a number changed. -/
def PeerTable.modify (t : PeerTable) (n : Nat) (f : PeerRecord → PeerRecord) : PeerTable :=
  { t with records := t.records.map fun r => if r.number = n then f r else r }

/-- The battery current of the lowest-numbered Present record that holds one (R60); a Stale record's does not count
(notes/assumptions/48.md). -/
def PeerTable.battery (t : PeerTable) : Option Int :=
  (t.records.find? fun r => r.isPresent && r.battery.isSome).bind (·.battery)

/-! ## Function bits (Formats, Requestable functions) -/

/-- A requestable function, by its bit, is in the set. -/
def hasFn (u : RequestSet) (n : Nat) : Bool := u.getLsbD n

def fnSide : Nat := 0
def fnHead : Nat := 1
def fnMainSel : Nat := 2
def fnPass : Nat := 3
def fnFogRear : Nat := 4
def fnFogFront : Nat := 5
def fnTurnL : Nat := 6
def fnTurnR : Nat := 7
def fnHazard : Nat := 8
def fnStop : Nat := 9
def fnReverse : Nat := 10
def fnInterior : Nat := 11
def fnHorn : Nat := 12
def fnAux : Nat := 13
def fnStart : Nat := 14
def fnOilLow : Nat := 15

/-- The set of one function bit; a code above 15 names none. -/
def oneFn (n : Nat) : RequestSet := if n < 16 then BitVec.ofNat 16 (2 ^ n) else 0

/-! ## Union, fan step and dimmer (R56, R61) -/

/-- The Union: the Local Request Set with the requested sets of the records that count (R56). -/
def unionOf (requests : RequestSet) (t : PeerTable) : RequestSet :=
  t.records.foldl (fun u r => if r.counts then u ||| r.requests else u) requests

/-- The resolved fan step (R61). -/
def fanStepOf (own : Nat) (t : PeerTable) : Nat :=
  t.records.foldl (fun m r => if r.counts then max m r.fanStep else m) own

/-- The resolved dimmer (R61). -/
def dimmerOf (own : Nat) (t : PeerTable) : Nat :=
  t.records.foldl (fun m r => if r.counts then min m r.dimmer else m) own

/-- The effective function IGN (R55). -/
def ignOf (fromLine input : Bool) (t : PeerTable) : Bool :=
  input || (fromLine && t.records.any fun r => r.isPresent && r.ign)

/-- The harness load (R129). -/
def harnessOf (own : Nat) (t : PeerTable) : Nat :=
  satSum 65535 (t.records.foldl (fun n r => if r.counts then n + r.demand else n) own)

/-- The effective shed level (R125). -/
def effectiveShed (own : Nat) (t : PeerTable) : Nat :=
  t.records.foldl (fun m r => if r.counts then max m r.shed else m) own

/-- The panel level of a resolved dimmer (R57). -/
def panelLevel (d : Nat) : Nat := (roundDiv (((d : Int) + 1) * 1000) 64).toNat

/-! ## Battery current reference and charge fault (R60) -/

/-- The battery current reference, `none` when the battery current is not known (R60). -/
def State.batteryReference (s : State) : Option Int :=
  if s.cfg.shunt && s.meas.battery.valid then some s.meas.battery.avg else s.peers.battery

/-- The charge threshold (R60). -/
def State.chargeThreshold (s : State) : Int := if s.straps.sixVolt then 640 else 1280

/-- The station finds a charge fault (R60): with a reference by it alone, also while the supply record is not valid
(notes/assumptions/53.md). -/
def State.chargeFault (s : State) : Bool :=
  match s.batteryReference with
  | some i => decide (i ≤ -10)
  | none => s.meas.supply.valid && decide (s.meas.supply.avg < s.chargeThreshold)

/-! ## The effective functions (R57 to R60) -/

def effSide (u : RequestSet) : Bool := hasFn u fnSide || hasFn u fnHead
def effMain (u : RequestSet) : Bool := (hasFn u fnHead && hasFn u fnMainSel) || hasFn u fnPass
def effDip (u : RequestSet) : Bool := hasFn u fnHead && !effMain u
def effFlashL (u : RequestSet) (ign : Bool) : Bool :=
  hasFn u fnHazard || (hasFn u fnTurnL && ign && !hasFn u fnHazard)
def effFlashR (u : RequestSet) (ign : Bool) : Bool :=
  hasFn u fnHazard || (hasFn u fnTurnR && ign && !hasFn u fnHazard)

/-- The Effective Function Set of a Union, IGN, the flash cycle's On phase, a charge fault and an effective shed level
of 1 or more (R56 to R60). -/
def effectiveSet (u : RequestSet) (ign flashOn charge shed : Bool) : EffectiveSet where
  side := effSide u
  main := effMain u
  dip := effDip u
  panel := effSide u
  fogRear := hasFn u fnFogRear && (effDip u || effMain u)
  fogFront := hasFn u fnFogFront && effSide u
  flashL := effFlashL u ign
  flashR := effFlashR u ign
  stop := hasFn u fnStop && ign
  rev := hasFn u fnReverse && ign
  interior := hasFn u fnInterior
  horn := hasFn u fnHorn
  aux := hasFn u fnAux && ign
  ign := ign
  tellTurn := flashOn && (effFlashL u ign || effFlashR u ign)
  tellMain := effMain u
  tellCharge := ign && charge
  tellOil := ign && hasFn u fnOilLow
  tellShed := shed

/-- The set with its telltales taken away (R62). -/
def EffectiveSet.functions (e : EffectiveSet) : EffectiveSet :=
  { e with tellTurn := false, tellMain := false, tellCharge := false, tellOil := false, tellShed := false }

/-- The set holds no function other than telltales (R179, R187). -/
def EffectiveSet.quiet (e : EffectiveSet) : Bool := decide (e.functions = EffectiveSet.empty)

/-- An effective function by its code 0..18, in the order of R81. -/
def EffectiveSet.byCode (e : EffectiveSet) (n : Nat) : Bool :=
  match n with
  | 0 => e.side | 1 => e.main | 2 => e.dip | 3 => e.panel | 4 => e.fogRear | 5 => e.fogFront
  | 6 => e.flashL | 7 => e.flashR | 8 => e.stop | 9 => e.rev | 10 => e.interior | 11 => e.horn
  | 12 => e.aux | 13 => e.ign | 14 => e.tellTurn | 15 => e.tellMain | 16 => e.tellCharge
  | 17 => e.tellOil | 18 => e.tellShed | _ => false

/-- The code of PANEL_EFF in the order of R81. -/
def codePanel : Nat := 3

/-- The effective side set (R58). -/
def sideSetFrom (left right : Bool) : Option SideSet :=
  match left, right with
  | true, true => some .both
  | true, false => some .left
  | false, true => some .right
  | false, false => none

/-- A side is in the side set. -/
def SideSet.has : SideSet → Side → Bool
  | .both, _ => true
  | .left, .left => true
  | .right, .right => true
  | .left, .right => false
  | .right, .left => false

/-! ## Switch inputs (R43 to R48, R55) -/

/-- The raw state a pin level gives by the entry's polarity; an undriven pin reads open (R43). -/
def rawContact (closedToSupply : Bool) (level : PinLevel) : Contact :=
  match level, closedToSupply with
  | .earth, false => .closed
  | .supply, true => .closed
  | .earth, true => .opened
  | .supply, false => .opened
  | .undriven, _ => .opened

/-- The raw state of a switch input. -/
def State.raw (s : State) (i : Fin 8) : Contact :=
  rawContact s.cfg.switches[i].closedToSupply s.pins.switches[i]

/-- A switch input requests its target (R45, R46, R47). -/
def switchRequests (e : SwitchEntry) (x : SwitchState) : Bool :=
  e.enabled &&
    match e.mode with
    | 0 => decide (x.accepted = .closed)
    | 1 => x.toggle
    | 2 => decide (x.accepted = .closed) || x.hold.isSome
    | _ => false

/-- A sender input requests its target in Switch mode (R48). -/
def senderRequests (e : SenderEntry) (x : SenderSwitch) : Bool :=
  decide (e.mode = .switch) && decide (x.contact = .closed)

/-- The Local Request Set (R53). -/
def State.localRequests (s : State) : RequestSet :=
  allSenders.foldl
    (fun u n => if senderRequests s.cfg.senders[n] s.sw.senders[n] then u ||| oneFn s.cfg.senders[n].target else u)
    (allChannels.foldl
      (fun u i => if switchRequests s.cfg.switches[i] s.sw.inputs[i] then u ||| oneFn s.cfg.switches[i].target else u)
      0)

/-- The local fan-step request (R51). -/
def State.localFanStep (s : State) : Nat :=
  allSenders.foldl
    (fun m n =>
      if s.cfg.senders[n].mode = .ladder ∧ s.cfg.senders[n].target = 0
      then max m (s.sw.senders[n].position.getD 0) else m) 0

/-- The local dimmer value (R52). -/
def State.localDimmer (s : State) : Nat :=
  allSenders.foldl
    (fun m n =>
      if s.cfg.senders[n].mode = .ladder ∧ s.cfg.senders[n].target = 1
      then min m s.sw.senders[n].value else m) 63

/-- The station's IGN input: the accepted state of the IGN pin, undetermined counting as off (R55). -/
def State.ignInput (s : State) : Bool := decide (s.sw.ignAccepted = .closed)

/-! ## Comparison with channel limits (R72, R73) -/

/-- A sample exceeds the hard limit (R72). -/
def exceedsHard (e : ChannelEntry) (sample : Int) (beyond : Bool) : Bool := beyond || decide ((e.hardLimit : Int) < sample)

/-- A completed block is above the over limit (R73). -/
def aboveOver (e : ChannelEntry) (avg : Int) (beyond : Bool) : Bool := beyond || decide ((e.overLimit : Int) < avg)

/-- A completed block is below the open-load limit (R73). -/
def belowOpen (e : ChannelEntry) (avg : Int) : Bool := decide (0 < e.openLimit) && decide (avg < e.openLimit)

/-! ## Supply, crank and orders (R127, R133, R135) -/

/-- The supply average clamped to 400..1800 cV, or `nominal` while the supply record is not valid (R87, R147, R168,
R169). -/
def State.vs (s : State) (nominal : Nat) : Int :=
  if s.meas.supply.valid then clampInt 400 1800 s.meas.supply.avg else nominal

/-- The crank threshold (R135). -/
def State.crankThreshold (s : State) : Int := if s.straps.sixVolt then 450 else 900

/-- The crank condition (R135). -/
def State.crankCondition (s : State) : Bool :=
  s.res.ign && (hasFn s.res.union fnStart
    || (s.meas.supply.valid && decide (s.meas.supply.avg < s.crankThreshold)))

/-- The order the effective shed level gives a class (R133). -/
def orderOfLevel (e cls : Nat) : Order :=
  match e, cls with
  | 0, _ => .normal
  | 1, 2 => .limited
  | 1, 3 => .shed
  | 1, _ => .normal
  | 2, 2 => .shed
  | 2, 3 => .shed
  | 2, _ => .normal
  | _, 0 => .normal
  | _, _ => .shed

/-- The order of a class 1..3: the most severe of the effective shed level, crank hold (classes 2 and 3) and thermal
hold (classes 1, 2 and 3) (R133). -/
def orderOf (e : Nat) (crank thermal : Bool) (cls : Nat) : Order :=
  if thermal || (crank && decide (2 ≤ cls)) then .shed else orderOfLevel e cls

/-- The stagger delay in ms (R138). -/
def State.stagger (s : State) : Nat := s.straps.number * 50

/-! ## Flasher (R106, R117) -/

/-- The On half and Off half of a rate, in ms (R106). -/
def halfPeriod (p : Nat) (fast : Bool) : Nat := if fast then (roundDiv p 4).toNat else p / 2

/-- An own detection mark of a side. -/
def CycleMarks.own (m : CycleMarks) : Side → Bool
  | .left => m.ownLeft
  | .right => m.ownRight

/-- A received mark of a side. -/
def CycleMarks.received (m : CycleMarks) : Side → Bool
  | .left => m.receivedLeft
  | .right => m.receivedRight

/-- The station's own bulb-out flag of a side: an own detection in the cycle in progress or the one before (R117). -/
def Flasher.ownBulb (f : Flasher) (side : Side) : Bool := f.memory.current.own side || f.memory.before.own side

/-! ## Fault summary and composed frames (R28 to R30, R36, R111) -/

/-- The Fault List holds an unacknowledged entry of the kind. -/
def FaultList.open? (l : FaultList) (kind : FaultKind) : Bool :=
  l.entries.any fun e => decide (e.kind = kind) && !e.acked

/-- The fault groups of the fault summary (R29). -/
def FaultList.groups (l : FaultList) : FaultGroups where
  output := l.open? .trip || l.open? .fanLocked
  load := l.open? .openLoad || l.open? .bulbOut
  sender := l.open? .senderFault
  thermal := l.open? .thermal
  line := l.open? .duplicate || l.open? .lineIsolated
  station := l.open? .configDefault || l.open? .drainShed

/-- The sender position of a Resistive sender whose record is valid (R162); a READ too takes it as absent while the
record is not (notes/assumptions/51.md). -/
def State.senderPosition (s : State) (n : Fin 4) : Option Nat :=
  if s.cfg.senders[n].mode = .resistive ∧ s.meas.senders[n].base.valid = true then
    some (linearize s.cfg.senders[n].points s.meas.senders[n].base.avg).toNat
  else none

/-- The published position of a slot (1 A, 2 B): its sender's index and position (R30, R162). -/
def State.published (s : State) (slot : Nat) : Option (Nat × Nat) :=
  (allSenders.find? fun n => s.cfg.senders[n].publish = slot).bind fun n =>
    (s.senderPosition n).map fun p => (n.val, p)

/-- A sender input is configured to publish in the slot (R36). -/
def State.publishes (s : State) (slot : Nat) : Bool := allSenders.any fun n => decide (s.cfg.senders[n].publish = slot)

/-- The station state a STATUS carries (R28). -/
def StationState.carried : StationState → PeerStation
  | .starting | .awake | .asleep => .awake
  | .standby => .standby
  | .setup => .setup

/-- The content of a STATUS composed now (R28, R29, R30). -/
def State.statusContent (s : State) : StatusContent :=
  let setup := decide (s.ctl.state = .setup)
  { requests := if setup then 0 else s.sw.requests
    fanStep := if setup then 0 else s.sw.fanStep
    dimmer := if setup then 63 else s.sw.dimmer
    demand := s.out.demand
    supply := if s.meas.supply.valid then (roundDiv s.meas.supply.avg 10).toNat else 0
    shed := s.supply.localLevel
    station := s.ctl.state.carried
    ign := s.ignInput
    faults := s.faults.groups
    bulbLeft := s.flash.ownBulb .left
    bulbRight := s.flash.ownBulb .right
    battery := if s.cfg.shunt && s.meas.battery.valid then some s.meas.battery.avg else none
    posA := s.published 1
    posB := s.published 2 }

/-- The role flags the station announces (R36). -/
def State.roles (s : State) : Roles where
  shunt := s.cfg.shunt
  gauges := s.cfg.gauges.toList.any fun g => decide (g.kind ≠ .off)
  publishes := (s.publishes 1, s.publishes 2)

/-- The payload of an ANNOUNCE composed now (R36). -/
def State.announceContent (s : State) : List Byte := announcePayload s.uid s.cfg.checksum s.roles

/-- A STATUS is queued, or refused while Muted (R14). -/
def State.requestStatus (s : State) : State :=
  if s.line.sub = .muted then s else s.withLine (s.line.putStatus s.statusContent.payload)

/-- An ANNOUNCE is queued, or refused while Muted (R14, R36). -/
def State.requestAnnounce (s : State) : State :=
  if s.line.sub = .muted then s else s.withLine (s.line.putAnnounce s.announceContent)

/-- A FLASH of the cycle's side set is queued, or refused while Muted or Isolated (R15, R111). -/
def State.requestFlash (s : State) (sides : SideSet) : State :=
  if s.line.sub = .joined then
    s.withLine (s.line.putFlash
      (flashPayload sides (s.flash.ownBulb .left) (s.flash.ownBulb .right) s.flash.fast))
  else s

/-- The first kind of channel whose entry is Motor (R82, R144, notes/assumptions/23.md). -/
def State.motor (s : State) : Option (Fin 8) := allChannels.find? fun i => decide (s.cfg.channels[i].kind = .motor)

/-- The channel is the Motor channel. -/
def State.isMotor (s : State) (i : Fin 8) : Bool := decide (s.cfg.channels[i].kind = .motor)

end Sys2Proof.Machine
end

