-- ==== Sys2Proof/Machine/Store.lean ====
section
/-! DEFINITION. The configuration record: its decoding with every block's load-time rules (R191, R43, R49, R52, R79,
R82, R120, R127, R128, R130, R132, R144, R157, R158, R178), the staging image filled from the working configuration
(R188), and the validation of a commit (R189). -/

namespace Sys2Proof.Machine

/-! ## Loading -/

/-- A loaded value with the number of its fields that the load-time rules clamped, replaced or loaded as Off. -/
abbrev Counted (α : Type) := α × Nat

/-- A loaded number, counted when the rules changed it. -/
def counted (raw loaded : Nat) : Counted Nat := (loaded, flagBit (raw ≠ loaded))

/-- A number clamped to its range at load. -/
def loadNat (lo hi raw : Nat) : Counted Nat := counted raw (clampNat lo hi raw)

/-- N_I: the greatest allowed value not above the field, and 1 for 0 (R79). -/
def loadNi (raw : Nat) : Nat := if raw < 2 then 1 else if raw < 4 then 2 else if raw < 8 then 4 else 8

/-- The flash period: clamped, then truncated to a multiple of 10 ms (R120). -/
def loadPeriod (raw : Nat) : Nat := clampNat 600 900 raw / 10 * 10

/-- A Switch Map entry from its four bytes (R43). -/
def loadSwitch (b : List Byte) : Counted SwitchEntry :=
  let flags := b.getD 0 0
  let mode := byteAt b 1
  let target := byteAt b 2
  let hold := loadNat 0 60 (byteAt b 3)
  (⟨flags.getLsbD 0 && decide (mode ≤ 2) && decide (target ≤ 15), flags.getLsbD 1, flags.getLsbD 2, mode, target,
      hold.1⟩,
    flagBit (2 < mode) + flagBit (15 < target) + hold.2)

/-- Two-byte fields limited by place, from place `j` on, with the number changed. -/
def limitWords (limit : Nat → Nat) : Nat → List Nat → Counted (List Nat)
  | _, [] => ([], 0)
  | j, w :: t =>
    let r := limitWords limit (j + 1) t
    let x := min w (limit j)
    (x :: r.1, flagBit (w ≠ x) + r.2)

/-- Strictly monotone, all ascending. -/
def ascending : List Nat → Bool
  | a :: b :: t => decide (a < b) && ascending (b :: t)
  | _ => true

/-- Strictly monotone, all descending. -/
def descending : List Nat → Bool
  | a :: b :: t => decide (b < a) && descending (b :: t)
  | _ => true

/-- The R values of a table are strictly monotone along it (R158). -/
def monotone (points : List (Nat × Nat)) : Bool :=
  ascending (points.map Prod.fst) || descending (points.map Prod.fst)

/-- The limit of a Sender Table's field by its place: R 1023, P 1000, and none beyond the point count (R158). -/
def pointLimit (count j : Nat) : Nat := if j < 2 * count then (if j % 2 = 0 then 1023 else 1000) else 65535

/-- The limit of a ladder's field by its place: its bounds, Rzero and Rfull 1023 (R49). -/
def ladderLimit (count j : Nat) : Nat := if j < 2 * count ∨ j = 8 ∨ j = 9 then 1023 else 65535

/-- A sender entry from its thirty-six bytes, its publish slot still as the record holds it (R49, R52, R158). -/
def loadSender (b : List Byte) : Counted SenderEntry :=
  let mode := byteAt b 0
  let target := byteAt b 1
  let publish := byteAt b 2
  let count := byteAt b 3
  let words := (List.range 16).map fun j => wordAt b (4 + 2 * j)
  match mode with
  | 0 => (⟨.off, target, publish, count, words⟩, 0)
  | 1 =>
    let c := loadNat 2 8 count
    let w := limitWords (pointLimit c.1) 0 words
    let e : SenderEntry := ⟨.resistive, target, publish, c.1, w.1⟩
    if monotone e.points then (e, c.2 + w.2) else ({ e with mode := .off }, c.2 + w.2 + 1)
  | 2 =>
    if target ≤ 15 then (⟨.switch, target, publish, count, words⟩, 0)
    else (⟨.off, target, publish, count, words⟩, 1)
  | 3 =>
    let c := loadNat 1 4 count
    let w := limitWords (ladderLimit c.1) 0 words
    let e : SenderEntry := ⟨.ladder, target, publish, c.1, w.1⟩
    if 1 < target ∨ (target = 1 ∧ e.rzero = e.rfull) then ({ e with mode := .off }, c.2 + w.2 + 1)
    else (e, c.2 + w.2)
  | _ => (⟨.off, target, publish, count, words⟩, 1)

/-- The publish slots of the senders, lowest number first: a slot given for a sender that is not Resistive, named
already by a lower Resistive sender, or naming neither A nor B is loaded as none (R158). A sender loaded as Off for its
table is none that is Resistive (notes/assumptions/59.md). `a` and `b` say whether slots A and B are taken. -/
def loadSlots (a b : Bool) : List (Counted SenderEntry) → List (Counted SenderEntry)
  | [] => []
  | (e, n) :: t =>
    if e.publish = 0 then (e, n) :: loadSlots a b t
    else if e.mode = .resistive ∧ e.publish = 1 ∧ a = false then (e, n) :: loadSlots true b t
    else if e.mode = .resistive ∧ e.publish = 2 ∧ b = false then (e, n) :: loadSlots a true t
    else ({ e with publish := 0 }, n + 1) :: loadSlots a b t

/-- The channel kind of a code. -/
def channelKindOf (n : Nat) : ChannelKind :=
  match n with
  | 1 => .lamp | 2 => .flashLamp | 3 => .stopTurn | 4 => .plain | 5 => .motor | _ => .off

/-- A Channel Map entry from its nineteen bytes, before the rule of the second Motor (R82). Class 0 goes by the kind
the record holds, also where the function names none and the entry is loaded as Off (notes/assumptions/41.md). -/
def loadChannel (b : List Byte) : Counted ChannelEntry :=
  let kind := byteAt b 0
  let function := byteAt b 1
  let flashing := decide (kind = 2) || decide (kind = 3)
  let cls := loadNat 0 3 (byteAt b 3)
  let level := loadNat 1 1000 (wordAt b 4)
  let tail := loadNat 0 1000 (wordAt b 6)
  let hard := loadNat 10 400 (wordAt b 8)
  let overLimit := loadNat 1 400 (wordAt b 10)
  let overTime := loadNat 100 5000 (wordAt b 12)
  let openLimit := loadNat 0 400 (wordAt b 14)
  let inrush := loadNat 0 250 (byteAt b 16)
  let retry := loadNat 0 7 (byteAt b 17)
  ({ kind := if function ≤ 18 then channelKindOf kind else .off
     function := function
     side := if byteAt b 2 = 1 then .right else .left
     cls := if flashing then 0 else cls.1
     level := level.1
     tail := tail.1
     hardLimit := hard.1
     overLimit := overLimit.1
     overTime := overTime.1
     openLimit := openLimit.1
     inrush := inrush.1
     retryLimit := retry.1
     exhaustion := if byteAt b 18 = 1 then .persist else .latch },
    flagBit (5 < kind) + flagBit (18 < function) + flagBit (1 < byteAt b 2) + (if flashing then 0 else cls.2)
      + level.2 + tail.2 + hard.2 + overLimit.2 + overTime.2 + openLimit.2 + inrush.2 + retry.2
      + flagBit (1 < byteAt b 18))

/-- Only the lowest-numbered Motor entry is loaded as Motor (R82). One that is loaded as Off for its function is none
(notes/assumptions/54.md). -/
def loadMotors (seen : Bool) : List (Counted ChannelEntry) → List (Counted ChannelEntry)
  | [] => []
  | (e, n) :: t =>
    if e.kind = .motor then
      if seen then ({ e with kind := .off }, n + 1) :: loadMotors true t else (e, n) :: loadMotors true t
    else (e, n) :: loadMotors seen t

/-- The gauge kind of a code. -/
def gaugeKindOf (n : Nat) : GaugeKind :=
  match n with
  | 1 => .thermal | 2 => .coilEnd | 3 => .coilCentre | _ => .off

/-- The fields of a gauge's source that name none of the sources (R157). -/
def badSource (type number slot : Nat) : Nat :=
  match type with
  | 0 => flagBit (3 < number)
  | 1 => flagBit (15 < number) + flagBit (1 < slot)
  | 2 => 0
  | 3 => 0
  | _ => 1

/-- A Gauge Map entry from its fourteen bytes (R157). -/
def loadGauge (b : List Byte) : Counted GaugeEntry :=
  let kind := byteAt b 0
  let bad := badSource (byteAt b 1) (byteAt b 2) (byteAt b 3)
  let dfs := loadNat 1 1000 (wordAt b 4)
  let k := loadNat 1 256 (wordAt b 6)
  let fs := loadNat 50 600 (wordAt b 8)
  let lo := clampNat 0 2000 (wordAt b 10)
  let hi := clampNat 0 2000 (wordAt b 12)
  let vlo := counted (wordAt b 10) (if hi ≤ lo ∧ lo = 2000 then 1999 else lo)
  let vhi := counted (wordAt b 12) (if hi ≤ lo then (if lo = 2000 then 2000 else lo + 1) else hi)
  (⟨if bad = 0 then gaugeKindOf kind else .off, byteAt b 1, byteAt b 2, byteAt b 3, dfs.1, k.1, fs.1, vlo.1, vhi.1⟩,
    flagBit (3 < kind) + bad + dfs.2 + k.2 + fs.2 + vlo.2 + vhi.2)

/-- `n` consecutive pieces of `size` bytes. -/
def pieces (size : Nat) : Nat → List Byte → List (List Byte)
  | 0, _ => []
  | n + 1, b => b.take size :: pieces size n (b.drop size)

/-- Four loaded entries as a vector. -/
def vector4 {α : Type} (l : List (Counted α)) (d : α) : Vector α 4 :=
  #v[((l.map Prod.fst).getD 0 d), ((l.map Prod.fst).getD 1 d), ((l.map Prod.fst).getD 2 d),
    ((l.map Prod.fst).getD 3 d)]

/-- Eight loaded entries as a vector. -/
def vector8 {α : Type} (l : List (Counted α)) (d : α) : Vector α 8 :=
  #v[((l.map Prod.fst).getD 0 d), ((l.map Prod.fst).getD 1 d), ((l.map Prod.fst).getD 2 d),
    ((l.map Prod.fst).getD 3 d), ((l.map Prod.fst).getD 4 d), ((l.map Prod.fst).getD 5 d),
    ((l.map Prod.fst).getD 6 d), ((l.map Prod.fst).getD 7 d)]

/-- The counts of loaded entries. -/
def totalCount {α : Type} (l : List (Counted α)) : Nat := (l.map Prod.snd).sum

/-- The working configuration of a record with a good check: decoded field by field with the load-time rules, the
clamped-field count saturating at 255 (R191, notes/assumptions/14.md). -/
def loadRecord (b : List Byte) : WorkingConfig :=
  let ni := counted (byteAt b 1) (loadNi (byteAt b 1))
  let period := counted (wordAt b 2) (loadPeriod (wordAt b 2))
  let quiet := loadNat 5 255 (byteAt b 4)
  let allowance := loadNat 1 50 (byteAt b 5)
  let t1 := loadNat 0 2000 (wordAt b 6)
  let t2 := loadNat 0 t1.1 (wordAt b 8)
  let t3 := loadNat 0 t2.1 (wordAt b 10)
  let hyst := loadNat 0 200 (wordAt b 12)
  let d1 := loadNat 10 600 (wordAt b 14)
  let d2 := loadNat d1.1 600 (wordAt b 16)
  let capacity := loadNat 10 4095 (wordAt b 18)
  let v1 := loadNat 100 1800 (wordAt b 20)
  let v2 := loadNat v1.1 1800 (wordAt b 22)
  let v3 := loadNat v2.1 1800 (wordAt b 24)
  let ramp := loadNat 10 600 (wordAt b 26)
  let stall := loadNat 10 400 (wordAt b 28)
  let switches := (pieces 4 8 (b.drop 30)).map loadSwitch
  let senders := loadSlots false false ((pieces 36 4 (b.drop 62)).map loadSender)
  let channels := loadMotors false ((pieces 19 8 (b.drop 206)).map loadChannel)
  let gauges := (pieces 14 4 (b.drop 358)).map loadGauge
  { ignFromLine := (b.getD 0 0).getLsbD 0
    shunt := (b.getD 0 0).getLsbD 1
    ni := ni.1
    flashPeriod := period.1
    quiet := quiet.1
    allowance := allowance.1
    t1 := t1.1
    t2 := t2.1
    t3 := t3.1
    hyst := hyst.1
    d1 := d1.1
    d2 := d2.1
    capacity := capacity.1
    v1 := v1.1
    v2 := v2.1
    v3 := v3.1
    rampRate := ramp.1
    stallLimit := stall.1
    switches := vector8 switches SwitchEntry.default
    senders := vector4 senders SenderEntry.default
    channels := vector8 channels ChannelEntry.default
    gauges := vector4 gauges (GaugeEntry.default false)
    isDefault := false
    checksum := BitVec.ofNat 16 (wordAt b 510)
    clamped := min 255
      (ni.2 + period.2 + quiet.2 + allowance.2 + t1.2 + t2.2 + t3.2 + hyst.2 + d1.2 + d2.2 + capacity.2 + v1.2 + v2.2
        + v3.2 + ramp.2 + stall.2 + totalCount switches + totalCount senders + totalCount channels
        + totalCount gauges) }

/-- A record is accepted: not blank, and its check matches (R191). -/
def recordAccepted (b : List Byte) : Bool :=
  !(b.all fun x => decide (x = 0xFF)) && decide (crc16 (b.take 510) = BitVec.ofNat 16 (wordAt b 510))

/-- The configuration in force after a load, and whether it is the default one (R191). -/
def loadedConfig (store : Option Memory) (sixVolt : Bool) : WorkingConfig :=
  match store with
  | none => WorkingConfig.default sixVolt
  | some m => if recordAccepted (m.bytes 512) then loadRecord (m.bytes 512) else WorkingConfig.default sixVolt

/-! ## Filling the staging image (R188) -/

def SwitchEntry.bytes (e : SwitchEntry) : List Byte :=
  [putByte (pack [(flagBit e.enabled, 1), (flagBit e.closedToSupply, 1), (flagBit e.wakeEnable, 1)]),
    putByte e.mode, putByte e.target, putByte e.hold]

def SenderEntry.bytes (e : SenderEntry) : List Byte :=
  [putByte e.mode.code, putByte e.target, putByte e.publish, putByte e.count] ++ e.words.flatMap putWord

def ChannelEntry.bytes (e : ChannelEntry) : List Byte :=
  [putByte e.kind.code, putByte e.function, putByte e.side.code, putByte e.cls] ++ putWord e.level ++ putWord e.tail
    ++ putWord e.hardLimit ++ putWord e.overLimit ++ putWord e.overTime ++ putWord e.openLimit
    ++ [putByte e.inrush, putByte e.retryLimit, putByte e.exhaustion.code]

def GaugeEntry.bytes (e : GaugeEntry) : List Byte :=
  [putByte e.kind.code, putByte e.sourceType, putByte e.number, putByte e.slot] ++ putWord e.dfs ++ putWord e.k
    ++ putWord e.fs ++ putWord e.vlo ++ putWord e.vhi

/-- The 512 bytes of the record that holds the working configuration as it stands in force (R188). The two bytes of the
check are filled with the configuration checksum (notes/assumptions/58.md). -/
def WorkingConfig.bytes (c : WorkingConfig) : List Byte :=
  [putByte (pack [(flagBit c.ignFromLine, 1), (flagBit c.shunt, 1)]), putByte c.ni] ++ putWord c.flashPeriod
    ++ [putByte c.quiet, putByte c.allowance]
    ++ [c.t1, c.t2, c.t3, c.hyst, c.d1, c.d2, c.capacity, c.v1, c.v2, c.v3, c.rampRate, c.stallLimit].flatMap putWord
    ++ c.switches.toList.flatMap SwitchEntry.bytes
    ++ c.senders.toList.flatMap SenderEntry.bytes
    ++ c.channels.toList.flatMap ChannelEntry.bytes
    ++ c.gauges.toList.flatMap GaugeEntry.bytes
    ++ List.replicate 96 0
    ++ putWord c.checksum.toNat

/-! ## Validating a commit (R189) -/

/-- The R field of point `i` of the sender whose entry begins at `o`. -/
def pointR (b : List Byte) (o i : Nat) : Nat := wordAt b (o + 4 + 4 * i)

/-- The R of point `i` (1..7) breaks the strict order that the first two points give. -/
def breaksOrder (b : List Byte) (o i : Nat) : Bool :=
  if i = 1 then decide (pointR b o 0 = pointR b o 1)
  else if pointR b o 0 < pointR b o 1 then decide (pointR b o i ≤ pointR b o (i - 1))
  else decide (pointR b o (i - 1) ≤ pointR b o i)

/-- A Resistive sender below `n` names the publish slot. -/
def slotUsedBelow (b : List Byte) (n slot : Nat) : Bool :=
  (List.range n).any fun m => decide (byteAt b (62 + 36 * m) = 1) && decide (byteAt b (62 + 36 * m + 2) = slot)

/-- The checks of sender `n`'s entry, in ascending offset order: offset, and whether the field fails. -/
def senderChecks (b : List Byte) (n : Nat) : List (Nat × Bool) :=
  let o := 62 + 36 * n
  let mode := byteAt b o
  let slot := byteAt b (o + 2)
  let count := byteAt b (o + 3)
  [(o, decide (3 < mode)),
    (o + 2, decide (mode = 1) && (decide (slot = 1) || decide (slot = 2)) && slotUsedBelow b n slot),
    (o + 3, decide (mode = 1) && decide (count < 2))]
    ++ ([1, 2, 3, 4, 5, 6, 7].map fun i =>
        (o + 4 + 4 * i, decide (mode = 1) && decide (i < count) && breaksOrder b o i))
    ++ [(o + 22, decide (mode = 3) && decide (byteAt b (o + 1) = 1) && decide (wordAt b (o + 20) = wordAt b (o + 22)))]

/-- The checks of channel `c`'s entry. -/
def channelChecks (b : List Byte) (c : Nat) : List (Nat × Bool) :=
  let o := 206 + 19 * c
  let kind := byteAt b o
  [(o, decide (5 < kind) || (decide (kind = 5) && (List.range c).any fun m => decide (byteAt b (206 + 19 * m) = 5))),
    (o + 1, (decide (kind = 1) || decide (kind = 4)) && decide (18 < byteAt b (o + 1))),
    (o + 2, (decide (kind = 2) || decide (kind = 3)) && decide (1 < byteAt b (o + 2))),
    (o + 18, decide (1 < byteAt b (o + 18)))]

/-- The checks of gauge `g`'s entry. -/
def gaugeChecks (b : List Byte) (g : Nat) : List (Nat × Bool) :=
  let o := 358 + 14 * g
  let read := decide (byteAt b o ≠ 0)
  [(o, decide (3 < byteAt b o)),
    (o + 1, read && decide (3 < byteAt b (o + 1))),
    (o + 12, read && decide (byteAt b (o + 1) = 3) && decide (wordAt b (o + 12) ≤ wordAt b (o + 10)))]

/-- Every check of the record, in ascending offset order (notes/assumptions/15.md). -/
def recordChecks (b : List Byte) : List (Nat × Bool) :=
  ([0, 1, 2, 3, 4, 5, 6, 7].map fun e => (30 + 4 * e + 1, decide (2 < byteAt b (30 + 4 * e + 1))))
    ++ [0, 1, 2, 3].flatMap (senderChecks b)
    ++ [0, 1, 2, 3, 4, 5, 6, 7].flatMap (channelChecks b)
    ++ [0, 1, 2, 3].flatMap (gaugeChecks b)

/-- The offset of the first structural error, `none` when the image passes (R189). -/
def structuralError (b : List Byte) : Option Nat := ((recordChecks b).find? (·.2)).map Prod.fst

/-- The image with its check placed in bytes 510..511 (R190). -/
def Memory.withCheck (m : Memory) : Memory := m.writeAll 510 (putWord (crc16 (m.bytes 510)).toNat)

end Sys2Proof.Machine
end

