-- ==== Sys2Proof/Machine/Channels.lean ====
section
/-! DEFINITION. Output Channels: the command of each channel (R83 to R86), its duty (R87), its state machine under
commands, orders and holds (R88 to R91, R96, R97, R100, R101), trips (R95, R103), the open-load check's conditions
(R98), and the demand (R104). -/

namespace Sys2Proof.Machine

/-! ## Commands (R83 to R85) -/

/-- The flash function of a side is on (R84). -/
def EffectiveSet.flash (e : EffectiveSet) : Side → Bool
  | .left => e.flashL
  | .right => e.flashR

/-- A channel of the side is in flash service (R84). -/
def State.inFlashService (s : State) (side : Side) : Bool :=
  s.res.eff.flash side && decide (s.flash.phase ≠ .idle)

/-- The flash command of a channel in flash service (R84). -/
def State.flashCommand (s : State) : Command := if s.flash.phase = .on then .flashOn else .flashOff

/-- A Lamp channel's level before any cap (R83). -/
def State.lampLevel (s : State) (e : ChannelEntry) : Nat := if e.function = codePanel then s.res.panel else e.level

/-- The command of a channel entry (R83, R84, R85). Kinds Off and Motor have none here (R86). -/
def State.commandFor (s : State) (e : ChannelEntry) : Command :=
  match e.kind with
  | .lamp =>
    if s.res.eff.byCode e.function then
      .steady (if s.supply.order e.cls = .limited then min (s.lampLevel e) 500 else s.lampLevel e)
    else .off
  | .plain => if s.res.eff.byCode e.function then .steady 1000 else .off
  | .flashLamp => if s.inFlashService e.side then s.flashCommand else .off
  | .stopTurn =>
    if s.inFlashService e.side then s.flashCommand
    else if s.res.eff.stop then .steady 1000
    else if s.res.eff.side ∧ 0 < e.tail then .steady e.tail
    else .off
  | .off => .off
  | .motor => .off

/-- A command that energizes: steady or flash-on. -/
def Command.lit : Command → Bool
  | .steady _ => true
  | .flashOn => true
  | .off => false
  | .flashOff => false

/-! ## Duty (R87) -/

/-- The duty of a steady level: compensated below 1000 by the square of nominal over supply (R87). -/
def lampDuty (level : Nat) (vnom vs : Int) : Nat :=
  if 1000 ≤ level then 1000 else min 1000 (roundDiv ((level : Int) * (vnom * vnom)) (vs * vs)).toNat

/-- The duty of a channel's command and state outside Test (R87). -/
def State.dutyFor (s : State) (c : Channel) : Nat :=
  if c.state = .inrush ∨ c.state = .on then
    match c.command with
    | .flashOn => 1000
    | .steady l => lampDuty l s.vnom (s.vs s.vnom)
    | .off => 0
    | .flashOff => 0
  else 0

/-! ## The state machine (R88 to R91, R96, R97, R100, R101) -/

/-- A channel with its window, over, open-load and run timers and its retry wait stopped, in a state. -/
def Channel.goTo (c : Channel) (st : ChannelState) : Channel :=
  { c with state := st, window := none, runTimer := none, overTimer := none, retryWait := none, openTimer := none }

/-- Entry to On: the run timer starts (R90). -/
def Channel.enterOn (c : Channel) : Channel := { c.goTo .on with runTimer := some 10000 }

/-- Entry to Inrush with the entry's window; a window of 0 ms expires at entry (R89). -/
def Channel.energize (c : Channel) (e : ChannelEntry) : Channel :=
  if e.inrush = 0 then c.enterOn else { c.goTo .inrush with window := some e.inrush }

/-- A channel takes its new command: the retry count returns to 0 when the command becomes off (R94). -/
def Channel.take (c : Channel) (cmd : Command) : Channel :=
  { c with command := cmd, retry := if cmd = .off ∧ c.command ≠ .off then 0 else c.retry }

/-- From a state that holds the channel back, by the command then held (R96, R101). -/
def Channel.release (c : Channel) (e : ChannelEntry) : Channel × Bool :=
  match c.command with
  | .steady _ => (c.energize e, true)
  | .flashOn => (c.energize e, true)
  | .flashOff => (c.goTo .dark, false)
  | .off => (c.goTo .off, false)

/-- A channel in Inrush or On under its new command (R89, R90, R91). `before` is the command it had. -/
def Channel.lightOn (c : Channel) (e : ChannelEntry) (before : Command) (fresh : Bool) : Channel × Bool :=
  match c.command with
  | .steady _ => (c, false)
  | .flashOn => if fresh = true ∨ before ≠ .flashOn then (c.energize e, true) else (c, false)
  | .flashOff => (c.goTo .dark, false)
  | .off => (c.goTo .off, false)

/-- One channel under a new command, its class's order and hold, `fresh` saying that a new flash On phase begins. The
second part says whether the channel was energized (notes/assumptions/22.md). -/
def Channel.follow (c : Channel) (e : ChannelEntry) (order : Order) (hold fresh : Bool) (cmd : Command) :
    Channel × Bool :=
  let c' := c.take cmd
  match c.state with
  | .test => (c', false)
  | .locked =>
    if cmd = .off then (c'.goTo (if order = .shed then .shed else .off), false) else (c', false)
  | .shed => if order = .shed ∨ hold = true then (c', false) else c'.release e
  | .off =>
    if order = .shed then (c'.goTo .shed, false)
    else if hold = true then (c', false)
    else if cmd = .off then (c', false)
    else c'.release e
  | .inrush => if order = .shed then (c'.goTo .shed, false) else c'.lightOn e c.command fresh
  | .on => if order = .shed then (c'.goTo .shed, false) else c'.lightOn e c.command fresh
  | .dark =>
    if order = .shed then (c'.goTo .shed, false)
    else if cmd = .flashOff then (c', false)
    else c'.release e
  | .tripped =>
    if order = .shed then (c'.goTo .shed, false)
    else if cmd = .off then (c'.goTo .off, false)
    else (c', false)

/-- The open-load check runs: in On, steady, the limit above 0, and neither at the tail level nor capped by a limited
order (R98, notes/assumptions/26.md). -/
def State.openCheck (s : State) (i : Fin 8) : Bool :=
  let e := s.cfg.channels[i]
  let c := s.out.channels[i]
  decide (c.state = .on) && decide (0 < e.openLimit)
    && (match c.command with
        | .steady _ => true
        | .off => false
        | .flashOn => false
        | .flashOff => false)
    && !(decide (e.kind = .stopTurn) && !s.res.eff.stop)
    && !(decide (e.kind = .lamp) && decide (s.supply.order e.cls = .limited) && decide (500 < s.lampLevel e))

/-- The channel follows commands, orders and holds: one of kind Off has no command and stays Off (R86), and the Motor
channel's are the Fan Drive's. -/
def ChannelKind.follows : ChannelKind → Bool
  | .lamp | .flashLamp | .stopTurn | .plain => true
  | .off | .motor => false

/-- What channel `i` becomes when its inputs are as the state holds them. A channel that a limited order caps is capped
in Setup too (notes/assumptions/42.md). -/
def State.followChannel (s : State) (fresh : Bool) (i : Fin 8) : Channel × Bool :=
  let e := s.cfg.channels[i]
  let c := s.out.channels[i]
  if e.kind.follows = false then (c, false)
  else if s.drives then c.follow e (s.supply.order e.cls) (s.supply.held e.cls) fresh (s.commandFor e)
  else (c.take (s.commandFor e), false)

/-- The directed restart of a current block (R75). -/
def CurrentRecord.restart (r : CurrentRecord) : CurrentRecord :=
  { base := { r.base with sum := 0, count := 0, sumOver := false }, mark := .restarted }

/-- An armed channel that is energized with a window of 0 ms is restarted at the moment it comes on (R75). -/
def State.restartIfArmed (s : State) (energized : Bool) (i : Fin 8) : CurrentRecord :=
  let r := s.meas.channels[i]
  if energized = true ∧ s.cfg.channels[i].inrush = 0 ∧ r.mark = .armed then r.restart else r

/-- A channel's duty brought up to date, outside Test and for other kinds than Motor. -/
def State.redrive (s : State) (i : Fin 8) (c : Channel) : Channel :=
  if s.drives = true ∧ s.isMotor i = false then { c with duty := s.dutyFor c } else c

/-- A channel's open-load timer stopped while its check does not run (R98). -/
def State.openGate (s : State) (i : Fin 8) : Channel :=
  if s.openCheck i then s.out.channels[i] else { s.out.channels[i] with openTimer := none }

/-- Every channel follows its command, order and hold. -/
def State.stageChannels (fresh : Bool) (s : State) : State :=
  let r : Vector (Channel × Bool) 8 := Vector.ofFn fun i => s.followChannel fresh i
  let s1 := (s.withMeas { s.meas with channels := Vector.ofFn fun i => s.restartIfArmed r[i].2 i }).withOut
    { s.out with channels := Vector.ofFn fun i => s.redrive i r[i].1 }
  s1.withOut { s1.out with channels := Vector.ofFn fun i => s1.openGate i }

/-! ## Demand (R104) -/

/-- The channel counts in the demand. -/
def State.active (s : State) (i : Fin 8) : Bool :=
  if s.isMotor i then
    decide (s.fan.state = .ramping) || decide (s.fan.state = .running) || decide (s.fan.state = .test)
  else
    decide (s.out.channels[i].state = .inrush) || decide (s.out.channels[i].state = .on)
      || decide (s.out.channels[i].state = .test)

/-- What a channel adds to the demand: the averaged current of an active channel whose record is valid. -/
def State.channelDemand (s : State) (i : Fin 8) : Nat :=
  if s.active i && s.meas.channels[i].base.valid then s.meas.channels[i].base.avg.toNat else 0

/-- The demand: the averaged currents of the active channels, saturating at 4095 dA. -/
def State.demandNow (s : State) : Nat := satSum 4095 (allChannels.map s.channelDemand).sum

/-! ## Trips (R92, R95, R103, R151) -/

/-- One channel changed. -/
def State.setChannel (s : State) (i : Fin 8) (c : Channel) : State :=
  s.withOut { s.out with channels := s.out.channels.set i c }

/-- A channel's test ends: Off, duty 0, its timers stopped, with this result (R103). -/
def Channel.endTest (c : Channel) (result : TestResult) : Channel :=
  { c.goTo .off with duty := 0, testTimer := none, testResult := result }

/-- The wait a trip begins: `none` when the channel locks (R95). -/
def tripWait (e : ChannelEntry) (retry : Nat) : Timer :=
  if retry ≤ e.retryLimit then some 1000
  else match e.exhaustion with
    | .latch => none
    | .persist => some 10000

/-- A channel trips outside Test (R95). -/
def Channel.trip (c : Channel) (e : ChannelEntry) : Channel :=
  let retry := satInc 255 c.retry
  let c' := { c with duty := 0, retry := retry }
  match tripWait e retry with
  | some w => { c'.goTo .tripped with retryWait := some w }
  | none => c'.goTo .locked

/-- The Fan Drive at rest in a state: Veff 0 and every timer but the ramp update stopped (R146, R150, R155). -/
def Fan.rest (f : Fan) (st : FanState) : Fan :=
  { f with state := st, veff := 0, runTimer := none, grace := none, stallTimer := none, stallWait := none,
           retryWait := none, deferral := none, remembered := none }

/-- The Fan Drive after a trip of the Motor channel outside Test (R151). -/
def Fan.trip (f : Fan) (wait : Timer) : Fan :=
  match wait with
  | some w => { f.rest .tripped with retryWait := some w }
  | none => f.rest .locked

/-- A channel trips: in Test by R103, the Motor channel by R151, any other by R95. A TRIP entry is made. -/
def State.trip (s : State) (i : Fin 8) : State :=
  let e := s.cfg.channels[i]
  let c := s.out.channels[i]
  let s' :=
    if s.isMotor i then
      if s.fan.state = .test then
        (s.setChannel i (c.endTest .tripped)).withFan (s.fan.rest .off)
      else
        (s.setChannel i { c with duty := 0, retry := satInc 255 c.retry, overTimer := none }).withFan
          (s.fan.trip (tripWait e (satInc 255 c.retry)))
    else if c.state = .test then s.setChannel i (c.endTest .tripped)
    else s.setChannel i (c.trip e)
  s'.addFault .trip (some i.val)

/-- The channel is in a state whose hard limit applies (R92). -/
def State.hardApplies (s : State) (i : Fin 8) : Bool := s.active i

/-- The channel is in a state whose over limit applies: On and Test, for the Motor channel Test alone (R93, R86). -/
def State.overApplies (s : State) (i : Fin 8) : Bool :=
  if s.isMotor i then decide (s.fan.state = .test)
  else decide (s.out.channels[i].state = .on) || decide (s.out.channels[i].state = .test)

/-- A channel right after entry to Setup or Asleep: Off, command and open-load flag kept, timers stopped, retry count
0 (R105). -/
def Channel.stand (c : Channel) : Channel :=
  { c.goTo .off with duty := 0, retry := 0, testTimer := none }

end Sys2Proof.Machine
end

