-- ==== Sys2Proof/Machine/Drives.lean ====
section
/-! DEFINITION. The Flasher's entries to On (R107 to R112, R115, R118, R119), the Supply Manager's recomputation
(R124, R125, R133, R135, R138 to R140), the Fan Drive's state machine (R145 to R155) and the gauge update (R160 to
R169). -/

namespace Sys2Proof.Machine

/-! ## Flasher -/

/-- How the cycle comes to enter On. -/
inductive OnEntry where
  | start | expiry | change
  | align (fast : Bool)
  deriving DecidableEq, Repr

/-- The memory opens a new cycle (R118). -/
def BulbMemory.push (m : BulbMemory) : BulbMemory := ⟨CycleMarks.clear, m.current, m.before⟩

/-- A Present or Stale record holds the side's bulb-out flag (R119, condition 3). -/
def PeerTable.bulb (t : PeerTable) (side : Side) : Bool :=
  t.records.any fun r => r.counts && (match side with
    | .left => r.bulbLeft
    | .right => r.bulbRight)

/-- A side is fast at this entry to On (R119). -/
def sideFast (t : PeerTable) (m : BulbMemory) (kind : OnEntry) (side : Side) : Bool :=
  m.before.own side || m.earlier.own side || m.before.received side || m.earlier.received side
    || (match kind with
        | .start => t.bulb side
        | .expiry => false
        | .change => false
        | .align fast => fast)

/-- The channel is named for arming (R115). -/
def State.named (s : State) (sides : SideSet) (i : Fin 8) : Bool :=
  let e := s.cfg.channels[i]
  (decide (e.kind = .flashLamp) || decide (e.kind = .stopTurn)) && sides.has e.side && decide (0 < e.openLimit)

/-- The directed marks at an entry to On: the phase before ends and the named channels are armed (R74, R77). -/
def State.armMarks (s : State) (sides : SideSet) : State :=
  s.withMeas { s.meas with channels := Vector.ofFn fun i =>
    { s.meas.channels[i] with mark := if s.named sides i then .armed else .none } }

/-- The directed marks at the end of an On phase (R77). -/
def State.clearMarks (s : State) : State :=
  s.withMeas { s.meas with channels := Vector.ofFn fun i => { s.meas.channels[i] with mark := .none } }

/-- The cycle enters On with a side set (R107, R108, R109, R112). An alignment queues no FLASH. -/
def State.enterFlashOn (s : State) (sides : SideSet) (kind : OnEntry) : State :=
  let f := s.flash
  let opens : Bool := match kind with
    | .start => true
    | .expiry => true
    | .change => decide (f.phase = .off)
    | .align _ => decide (f.phase = .off)
  let memory := if opens then f.memory.push else f.memory
  let fast := (sides.has .left && sideFast s.peers memory kind .left)
    || (sides.has .right && sideFast s.peers memory kind .right)
  let s' := (s.armMarks sides).withFlash
    { f with phase := .on, sides := some sides, fast := fast, half := some (halfPeriod s.cfg.flashPeriod fast),
             memory := memory }
  match kind with
  | .start => s'.requestFlash sides
  | .expiry => s'.requestFlash sides
  | .change => s'.requestFlash sides
  | .align _ => s'

/-- The cycle goes Idle: the session ends, both reported flags clear, the memory is kept (R110). The rate stays as last
decided (notes/assumptions/57.md). -/
def State.flashIdle (s : State) : State :=
  s.clearMarks.withFlash
    { s.flash with phase := .idle, sides := none, half := none, reportedLeft := false, reportedRight := false }

/-- The side set handed on by the Function Resolver drives the cycle (R107, R109, R110). The second part says whether
a new On phase begins. -/
def State.stageFlasher (s : State) : State × Bool :=
  let sides := sideSetFrom (effFlashL s.res.union s.res.ign) (effFlashR s.res.union s.res.ign)
  if s.drives = false ∨ sides = s.flash.sides then (s, false)
  else match sides with
    | none => (s.flashIdle, false)
    | some x =>
      if s.flash.phase = .idle then
        ((s.withFlash { s.flash with reportedLeft := false, reportedRight := false }).enterFlashOn x .start, true)
      else (s.enterFlashOn x .change, true)

/-- A FLASH handed to the Flasher at the end of its slot aligns the cycle when its side set is the cycle's (R112). The
second part says whether it did. -/
def State.alignTo (s : State) (c : FlashContent) : State × Bool :=
  match c.sides, s.flash.sides with
  | some x, some y =>
    if s.drives = true ∧ s.flash.phase ≠ .idle ∧ x = y then (s.enterFlashOn x (.align c.fast), true) else (s, false)
  | _, _ => (s, false)

/-- A FLASH from another station enters its flags as received marks while the cycle is not Idle (R114). A frame whose
side-set value names none is not taken in (R112). -/
def State.takeReceived (s : State) (c : FlashContent) : State :=
  if s.drives = true ∧ s.flash.phase ≠ .idle ∧ c.sides.isSome = true then
    let m := s.flash.memory.current
    s.withFlash { s.flash with memory := { s.flash.memory with current :=
      { m with receivedLeft := m.receivedLeft || c.bulbLeft, receivedRight := m.receivedRight || c.bulbRight } } }
  else s

/-- A bulb-check value below the channel's open-load limit: the side is detected bulb-out, and reported once for each
flash session (R116). -/
def State.bulbOut (s : State) (side : Side) : State :=
  let f := s.flash
  let m := f.memory.current
  match side with
  | .left =>
    let s' := s.withFlash
      { f with memory := { f.memory with current := { m with ownLeft := true } }, reportedLeft := true }
    if f.reportedLeft then s' else s'.addFault .bulbOut (some 0)
  | .right =>
    let s' := s.withFlash
      { f with memory := { f.memory with current := { m with ownRight := true } }, reportedRight := true }
    if f.reportedRight then s' else s'.addFault .bulbOut (some 1)

/-! ## Supply Manager -/

/-- The timers of contributors (b) and (d) stopped and reset, and their levels 0 (R128, R130). -/
def Supply.ignOff (u : Supply) : Supply :=
  { ((((((u.setTimer .raise1 .stopped).setTimer .raise2 .stopped).setTimer .lower1 .stopped).setTimer .lower0
      .stopped).setTimer .overCapacity .stopped).setTimer .underCapacity .stopped) with
    b := 0, d := 0, drainTick := some 1000 }

/-- IGN comes on: the drain accumulator, its flag and contributor (c) return to 0 and the tick stops (R131, R132). -/
def Supply.ignOn (u : Supply) : Supply :=
  { u with c := 0, drain := 0, drainOver := false, drainTick := none }

/-- A class's hold when its order changes from `old` to `new` (R138, R139, R140, notes/assumptions/27.md). -/
def Hold.ordered (h : Hold) (starting : Bool) (delay : Nat) (old new : Order) : Hold :=
  if old = .shed ∧ new ≠ .shed then
    if starting then { h with timer := none }
    else if delay = 0 then ⟨false, none⟩ else ⟨true, some delay⟩
  else if old ≠ .shed ∧ new = .shed then
    if starting then { h with timer := none } else ⟨false, none⟩
  else h

/-- The class orders recomputed, with what each change does to the class's hold (R133, R138). -/
def State.stageOrders (s : State) : State :=
  let u := s.supply
  let new : Classes Order :=
    ⟨orderOf u.effective u.crank u.thermal 1, orderOf u.effective u.crank u.thermal 2,
      orderOf u.effective u.crank u.thermal 3⟩
  let starting := decide (s.ctl.state = .starting)
  s.withSupply { u with
    orders := new
    holds := ⟨u.holds.one.ordered starting s.stagger u.orders.one new.one,
      u.holds.two.ordered starting s.stagger u.orders.two new.two,
      u.holds.three.ordered starting s.stagger u.orders.three new.three⟩ }

/-- Crank hold by the crank condition: entered at once, its release timer started when the condition stops (R135). -/
def Supply.judgeCrank (u : Supply) (condition : Bool) : Supply :=
  if condition then { u with crank := true, release := none }
  else if u.crank = true ∧ u.release = none then { u with release := some 500 }
  else u

/-- The Supply Manager recomputed: IGN's effect on the contributors, the local and effective levels, crank hold, and
the orders (R124, R125, R128, R130 to R133, R135). `ignWas` is IGN as last handed on. -/
def State.stageSupply (ignWas : Bool) (s : State) : State :=
  let u := s.supply
  let u := if ignWas = true ∧ s.res.ign = false then u.ignOff
    else if ignWas = false ∧ s.res.ign = true then u.ignOn else u
  let localLevel := max (max u.a u.b) (max u.c u.d)
  let u := { u with localLevel := localLevel, effective := effectiveShed localLevel s.peers }
  (s.withSupply (u.judgeCrank s.crankCondition)).stageOrders

/-- Contributor (d)'s timers judged against a harness load (R130). -/
def Supply.judgeLoad (u : Supply) (capacity harness : Nat) : Supply :=
  (u.judge .overCapacity (decide (capacity < harness))).judge .underCapacity
    (decide ((harness : Int) < roundDiv ((capacity : Int) * 9) 10))

/-- The demand and the harness load recomputed, and contributor (d) judged while IGN is on (R104, R129, R130). -/
def State.stageLoad (s : State) : State :=
  let s := s.withOut { s.out with demand := s.demandNow }
  let u := { s.supply with harness := harnessOf s.out.demand s.peers }
  s.withSupply (if s.res.ign then u.judgeLoad s.cfg.capacity u.harness else u)

/-! ## Fan Drive -/

/-- The target voltage of a step (R145). -/
def fanVoltage (c : WorkingConfig) (step : Nat) : Nat :=
  match step with
  | 0 => 0 | 1 => c.v1 | 2 => c.v2 | _ => c.v3

/-- Entry to Ramping from 0 with its spin-up grace, and the deferral of a resumption (R148, R154, R155). -/
def Fan.startRamp (f : Fan) (resume : Bool) : Fan :=
  { f.rest .ramping with grace := some 2000, deferral := if resume then some 2000 else none }

/-- Entry to Suspended, the target remembered (R151 to R154). -/
def Fan.hang (f : Fan) : Fan := { f.rest .suspended with remembered := some f.resolved }

/-- Suspension of a turning channel, or Off when the target is 0 (R153). -/
def Fan.suspend (f : Fan) : Fan := if f.target = 0 then f.rest .off else f.hang

/-- A turning channel that no cause suspends: a deferral ends as the target falls to 0 (R155), and a Running channel
whose target step changes enters Ramping (R149). -/
def Fan.turn (f : Fan) (before : Nat) : Fan :=
  let f := if f.target = 0 ∧ before ≠ 0 then { f with deferral := none } else f
  if f.state = .running ∧ f.target ≠ before then { f with state := .ramping, runTimer := none } else f

/-- The Motor channel acts on its target, its causes and its hold (R148, R149, R151 to R155). `before` is the target
step it had; where a rule speaks of the target becoming 0 it is the change that counts (notes/assumptions/47.md). -/
def Fan.act (f : Fan) (before : Nat) (shed crank hold : Bool) : Fan :=
  let falls := decide (f.target = 0) && decide (before ≠ 0)
  match f.state with
  | .off =>
    if 0 < f.target ∧ shed = false ∧ crank = false ∧ hold = false then f.startRamp false else f
  | .ramping =>
    if crank = true ∨ (shed = true ∧ (f.deferral = none ∨ falls = true)) then f.suspend else f.turn before
  | .running =>
    if crank = true ∨ (shed = true ∧ (f.deferral = none ∨ falls = true)) then f.suspend else f.turn before
  | .suspended =>
    if falls then f.rest .off
    else if shed = false ∧ crank = false ∧ hold = false then f.startRamp true
    else { f with remembered := some f.resolved }
  | .stalled => if falls then f.rest .off else f
  | .tripped =>
    if falls then f.rest .off
    else if shed = true ∨ crank = true then f.hang
    else f
  | .locked => if falls then f.rest .off else f
  | .test => f

/-- The duty of an effective voltage (R147). -/
def fanDuty (veff : Nat) (vs : Int) : Nat := min 1000 (roundDiv ((veff : Int) * 1000) vs).toNat

/-- The target step of a resolved step, with the limited cap or without it (R145). -/
def fanTarget (resolved : Nat) (capped : Bool) : Nat := if capped then min resolved 1 else resolved

/-- A shed cause is held back in a deferral, and the fan goes on turning at a step above 0 (R155). -/
def Fan.defers (f : Fan) (resolved : Nat) (shed crank : Bool) : Bool :=
  decide (f.state = .ramping ∨ f.state = .running) && f.deferral.isSome && shed && !crank && decide (0 < resolved)

/-- Whether the limited cap stands: under a limited order (R145), and through a deferred shed cause as it stood at the
cause's arrival (R155, notes/assumptions/56.md). -/
def Fan.capNow (f : Fan) (resolved : Nat) (order : Order) (crank : Bool) : Bool :=
  if f.defers resolved (decide (order = .shed)) crank then f.capped else decide (order = .limited)

/-- The Motor channel's duty and retry count brought up to date (R147, R149). -/
def State.driveMotor (s : State) (m : Fin 8) (cleared : Bool) : State :=
  let c := s.out.channels[m]
  let c := if cleared then { c with retry := 0 } else c
  let c := if s.drives then
      { c with duty := if s.fan.state = .ramping ∨ s.fan.state = .running then fanDuty s.fan.veff (s.vs s.vnom)
                       else 0 }
    else c
  s.setChannel m c

/-- The Fan Drive recomputes its target, causes and hold, and acts (R145). -/
def State.stageFan (s : State) : State :=
  match s.motor with
  | none => s.withFan { s.fan with resolved := s.res.fanStep }
  | some m =>
    let cls := s.cfg.channels[m].cls
    let order := s.supply.order cls
    let before := s.fan.target
    let capped := s.fan.capNow s.res.fanStep order s.supply.crank
    let target := fanTarget s.res.fanStep capped
    let cleared := decide (target = 0) && decide (before ≠ 0)
    let f := { s.fan with
      resolved := s.res.fanStep, target := target, stallCount := if cleared then 0 else s.fan.stallCount
      capped := capped }
    let f := if s.drives then f.act before (decide (order = .shed)) s.supply.crank (s.supply.held cls) else f
    (s.withFan f).driveMotor m cleared

/-- One ramp update of the Fan Drive (R146). -/
def Fan.rampStep (f : Fan) (target rate : Nat) : Fan :=
  if f.state = .ramping then
    let v := if f.veff < target then min (f.veff + rate) target else max (f.veff - rate) target
    if v = target ∧ 0 < target then { f with veff := v, state := .running, runTimer := some 10000 }
    else if v = 0 ∧ target = 0 then f.rest .off
    else { f with veff := v }
  else f

/-! ## Gauge Unit -/

/-- The source status and source value of a gauge (R160, R163, R164, R165). -/
def State.gaugeSource (s : State) (g : GaugeEntry) : SourceStatus × Int :=
  match g.sourceType with
  | 0 =>
    let n : Fin 4 := Fin.ofNat 4 g.number
    if s.cfg.senders[n].mode ≠ .resistive then (.lost, 0)
    else if s.meas.senders[n].base.valid then
      (.normal, linearize s.cfg.senders[n].points s.meas.senders[n].base.avg)
    else (.waiting, 0)
  | 1 =>
    match s.peers.find g.number with
    | none => (.lost, 0)
    | some r =>
      match r.state, (if g.slot = 0 then r.posA else r.posB) with
      | .present, some p => (.normal, p.2)
      | .stale, some p => (.held, p.2)
      | _, _ => (.lost, 0)
  | 2 =>
    let known := s.batteryReference
    let i : Int := known.getD (clampInt (-600) 600 (-(s.supply.harness : Int)))
    let v := match g.kind with
      | .coilCentre => clampInt (-1000) 1000 (roundDiv (i * 1000) g.fs)
      | .thermal => clampInt 0 1000 (roundDiv ((i + g.fs) * 1000) (2 * g.fs))
      | .coilEnd => clampInt 0 1000 (roundDiv ((i + g.fs) * 1000) (2 * g.fs))
      | .off => 0
    (if known.isSome then .normal else .estimated, v)
  | _ =>
    if s.meas.supply.valid then
      (.normal, clampInt 0 1000 (roundDiv ((s.meas.supply.avg - g.vlo) * 1000) ((g.vhi : Int) - g.vlo)))
    else (.waiting, 0)

/-- The displayed position after one step of damping toward the target position (R167). -/
def damp (d p : Int) (k : Nat) : Int :=
  let step := truncDiv ((p - d) * k) 256
  if step ≠ 0 then d + step else if d < p then d + 1 else if p < d then d - 1 else d

/-- The reference voltage of thermal gauges (R168). -/
def State.vref (s : State) : Nat := if s.straps.sixVolt then 500 else 1000

/-- The duty of a thermal gauge before its clamp (R168). -/
def thermalDuty (d : Int) (dfs : Nat) (vref vs : Int) : Int :=
  roundDiv (roundDiv (d * dfs) 1000 * (vref * vref)) (vs * vs)

/-- The duty of a moving-coil gauge (R169). -/
def coilDuty (d : Int) (dfs : Nat) (vnom vs : Int) : Nat :=
  min 1000 (roundDiv (roundDiv (d.natAbs * dfs) 1000 * vnom) vs).toNat

/-- One gauge drive worked through source, damping and drive (R159, R166 to R169, notes/assumptions/31.md). -/
def State.workGauge (s : State) (g : GaugeEntry) (x : Gauge) : Gauge :=
  let src := s.gaugeSource g
  let p := if s.res.ign then src.2 else 0
  let d := damp x.displayed p g.k
  match g.kind with
  | .off => x
  | .thermal =>
    let raw := thermalDuty d g.dfs s.vref (s.vs s.vref)
    { status := src.1, source := src.2, target := p, displayed := d, duty := (min raw 1000).toNat,
      direction := .pinA, under := decide (1000 < raw) }
  | .coilEnd =>
    { status := src.1, source := src.2, target := p, displayed := d, duty := coilDuty d g.dfs s.vnom (s.vs s.vnom),
      direction := .pinA, under := false }
  | .coilCentre =>
    { status := src.1, source := src.2, target := p, displayed := d, duty := coilDuty d g.dfs s.vnom (s.vs s.vnom),
      direction := if d = 0 then .none else if 0 < d then .pinA else .pinB, under := false }

end Sys2Proof.Machine
end

