-- ==== Sys2Proof/Machine/Settle.lean ====
section
/-! DEFINITION. The hand-ons between the blocks: after a command has changed what one block holds, every block that
reads the change recomputes from the values then held, in one fixed order (notes/assumptions/6.md); and the entries
to Starting, Setup and Asleep, the wake and the resets (R175, R176, R180 to R182). -/

namespace Sys2Proof.Machine

/-! ## The hand-ons (R62) -/

/-- The Local Request Set, fan-step request and dimmer value recomputed from the inputs (R51, R52, R53). -/
def State.recomputeLocal (s : State) : State :=
  s.withSw { s.sw with requests := s.localRequests, fanStep := s.localFanStep, dimmer := s.localDimmer }

/-- The Union, IGN, the resolved fan step and dimmer with the panel level (R55, R56, R57, R61). -/
def State.stageUnion (s : State) : State :=
  let dimmer := dimmerOf s.sw.dimmer s.peers
  s.withRes { s.res with
    union := unionOf s.sw.requests s.peers
    ign := ignOf s.cfg.ignFromLine s.ignInput s.peers
    fanStep := fanStepOf s.sw.fanStep s.peers
    dimmer := dimmer
    panel := panelLevel dimmer }

/-- The Effective Function Set (R56 to R60). -/
def State.stageEffective (s : State) : State :=
  s.withRes { s.res with
    eff := effectiveSet s.res.union s.res.ign (decide (s.flash.phase = .on)) s.chargeFault
      (decide (1 ≤ s.supply.effective)) }

/-- The period of the periodic STATUS timer in a station state (R22). -/
def statusPeriod : StationState → Nat
  | .starting | .awake | .asleep => 100
  | .standby | .setup => 500

/-- The periodic STATUS timer loaded for a station state; it does not run at a strap-invalid station (R22). -/
def State.loadPeriodic (s : State) (st : StationState) : State :=
  s.withLine { s.line with periodic := if s.strapInvalid then none else some (statusPeriod st) }

/-- The quiet timer at its full period (R178). -/
def State.quietPeriod (s : State) : Timer := some (s.cfg.quiet * 1000)

/-- The quiet timer is reloaded while the station is in Standby (R178). -/
def State.reloadQuiet (s : State) : State :=
  if s.ctl.state = .standby then s.withCtl { s.ctl with quiet := s.quietPeriod } else s

/-- Entry to Awake (R177). -/
def State.enterAwake (s : State) : State :=
  (s.withCtl { s.ctl with state := .awake, quiet := none }).loadPeriodic .awake

/-- Entry to Standby, its quiet timer at the full period (R177, R178). -/
def State.enterStandby (s : State) : State :=
  (s.withCtl { s.ctl with state := .standby, quiet := s.quietPeriod }).loadPeriodic .standby

/-- Station Control follows IGN between Awake and Standby (R177), and reloads its quiet timer at a change of the
functions in force (R178). `before` is the Effective Function Set as last handed on. -/
def State.stageControl (before : EffectiveSet) (s : State) : State :=
  match s.ctl.state, s.res.ign with
  | .awake, false => s.enterStandby
  | .standby, true => s.enterAwake
  | _, _ => if before.functions = s.res.eff.functions then s else s.reloadQuiet

/-- A value whose change queues an extra STATUS has changed (R22, R28). -/
def State.statusChanged (before s : State) : Bool :=
  decide (before.sw.requests ≠ s.sw.requests) || decide (before.sw.fanStep ≠ s.sw.fanStep)
    || decide (before.sw.dimmer ≠ s.sw.dimmer) || decide (before.supply.localLevel ≠ s.supply.localLevel)
    || decide (before.ignInput ≠ s.ignInput) || decide (before.res.ign ≠ s.res.ign)
    || decide (before.ctl.state ≠ s.ctl.state)

/-- The extra STATUS of R22. -/
def State.stageStatus (s before : State) : State := if before.statusChanged s then s.requestStatus else s

/-- The hand-ons from the Function Resolver to the channels and the fan, once the flash cycle is as it is. `fresh`
says that a new On phase begins. -/
def State.stageLoads (fresh : Bool) (s : State) : State :=
  ((s.stageEffective.stageChannels fresh).stageFan).stageLoad

/-- Every hand-on that follows a change, `before` being the state before the command and `fresh` saying that the
command itself began an On phase. -/
def State.settle (s before : State) (fresh : Bool) : State :=
  let s1 := s.stageUnion.stageSupply s.res.ign
  let s2 := s1.stageFlasher
  let s3 := s2.1.stageLoads (fresh || s2.2)
  (s3.stageControl before.res.eff).stageStatus before

/-! ## Entry to Starting (R176) -/

/-- The debounce timers of the enabled inputs and of the IGN pin start (R44, R55). -/
def State.startDebounce (s : State) : State :=
  s.withSw { s.sw with
    inputs := Vector.ofFn fun i => SwitchState.init (if s.cfg.switches[i].enabled then some 20 else none)
    ignDebounce := some 20 }

/-- Entry to Starting: the join window and every block's timers start, the energize holds go on, and a STATUS is
queued, with an ANNOUNCE after a reset (R36, R139, R176). A strap-invalid station's gauge update timer does not start
(R171, notes/assumptions/45.md), and the Effective Function Set that a wake clears (R62) is recomputed here, so TELL_SHED
is on at once where contributor (c) stands (notes/assumptions/49.md). -/
def State.enterStarting (s : State) (announce : Bool) : State :=
  let s := s.withCtl { s.ctl with state := .starting, join := some 250, quiet := none, wake := .none, clock := 0 }
  let s := s.startDebounce.loadPeriodic .starting
  let s := s.withMeas { s.meas with passTimer := some 4, slot := some 0 }
  let s := s.withFan { s.fan with ramp := some 100 }
  let s := s.withGauges { s.gauges with update := if s.strapInvalid then none else some 100 }
  let s := s.withSupply { s.supply with
    drainTick := some 1000, holds := ⟨⟨true, none⟩, ⟨true, none⟩, ⟨true, none⟩⟩ }
  let s := (s.settle s false).requestStatus
  if announce then s.requestAnnounce else s

/-! ## The values of a reset and of a wake (R175) -/

/-- Switch Inputs after a reset or a wake (R54). -/
def SwitchInputs.init : SwitchInputs :=
  { inputs := Vector.replicate 8 (SwitchState.init none), senders := Vector.replicate 4 SenderSwitch.init,
    requests := 0, fanStep := 0, dimmer := 63, ignAccepted := .undetermined, ignDebounce := none }

/-- The blocks whose values a reset and a wake share (section 10.2): Peer Table records, Switch Inputs, resolver,
records, channels, flash cycle, fan, gauges. -/
def State.clearBlocks (s : State) : State :=
  { s with
    peers := { s.peers with records := PeerTable.initRecords s.straps.number }
    sw := SwitchInputs.init
    res := Resolver.init
    meas := Measurement.init
    out := ⟨Vector.replicate 8 Channel.init, 0⟩
    flash := Flasher.init
    fan := Fan.init
    gauges := ⟨Vector.replicate 4 Gauge.init, none⟩ }

/-- The Line Interface after a reset (R24). -/
def Line.init : Line :=
  { view := .busy, sub := .joined, isoWait := none, probing := false, run := 0, queue := Queue.empty,
    inFlight := none, spacing := none, periodic := none, counters := LineCounters.zero }

/-- The value of a strap pin (R173). -/
def StrapLevel.value : StrapLevel → Nat
  | .earth => 0 | .supply => 1 | .bl => 2 | .ign => 3

/-- The straps latched (R173). -/
def latchStraps (p : StrapPins) : Straps :=
  ⟨4 * StrapLevel.value p.addrA + StrapLevel.value p.addrB, decide (p.sysv = .earth)⟩

/-- The configuration loaded from the store; the default configuration comes with a CONFIG_DEFAULT entry (R191). -/
def State.loadConfig (s : State) : State :=
  let c := loadedConfig s.store s.straps.sixVolt
  if c.isDefault then (s.withCfg c).addFault .configDefault none else s.withCfg c

/-- The five steps of a reset from the straps on (R175): every block's value, the configuration, the Resume Record,
Starting. `supply` is the Supply Manager's value and `cause` the Resume Record's. -/
def State.takeReset (s : State) (straps : StrapPins) (supply : Supply) (cause : ResumeCause) : State :=
  let s := (s.withStraps (latchStraps straps)).clearBlocks
  let s : State := { s with
    peers := { s.peers with changed := 0, inconsistent := 0 }
    line := Line.init
    supply := supply
    svc := ⟨0, none, false, false⟩
    faults := ⟨[], false⟩
    ctl := ⟨true, .starting, none, none, .none, cause, none, 0⟩ }
  s.loadConfig.enterStarting true

/-- Entry to Starting at a wake: the wake values, without an ANNOUNCE (R24, R142, R181). -/
def State.wakeUp (s : State) (cause : ResumeCause) (index : Option Nat) : State :=
  let u := s.supply
  let s := s.clearBlocks
  let s : State := { s with
    line := { s.line with
      view := .busy
      queue := s.line.queue.emptied
      inFlight := none
      spacing := none
      run := 0
      probing := false
      isoWait := if s.line.sub = .isolated then some 1000 else none }
    supply := { Supply.init with c := u.c, drain := u.drain, drainOver := u.drainOver }
    ctl := { s.ctl with cause := cause, inputIndex := index } }
  s.enterStarting false

/-! ## Power (R175) -/

/-- The station is held in reset: every output and gauge pin off, the line released, a programming abandoned, the
Transmit Queue empty as it is after every reset (R24, R105, R175, R190, notes/assumptions/21.md). -/
def State.powerDown (s : State) : State :=
  { s with
    ctl := { s.ctl with powered := false, wake := .none }
    store := if s.svc.programming then none else s.store
    svc := { s.svc with programming := false, restartOrdered := false }
    line := { s.line with view := .busy, inFlight := none, queue := s.line.queue.emptied }
    out := ⟨Vector.replicate 8 Channel.init, 0⟩
    fan := Fan.init
    gauges := ⟨Vector.replicate 4 Gauge.init, none⟩ }

/-! ## Setup and Asleep (R105, R122, R141, R156, R171, R180, R182) -/

/-- A gauge set to rest: P and D 0, duty 0, both pins at earth (R171), and the under-driven flag clear, as D is 0
(R168). Its source value and status stay (notes/assumptions/44.md). -/
def Gauge.atRest (g : Gauge) : Gauge :=
  { g with target := 0, displayed := 0, duty := 0, direction := .none, under := false }

/-- Every channel and the fan Off, every gauge at rest, the flash cycle Idle (R105, R122, R156, R171). -/
def State.standDown (s : State) : State :=
  let s := s.flashIdle
  let s := s.withOut { s.out with channels := Vector.ofFn fun i => s.out.channels[i].stand }
  let s := s.withFan { s.fan.rest .off with stallCount := 0 }
  s.withGauges ⟨Vector.ofFn fun i => s.gauges.drives[i].atRest, none⟩

/-- Entry to Setup (R182): the staging image is filled, the holds go off, and a STATUS is queued. -/
def State.enterSetup (s : State) : State :=
  let before := s
  let s := s.standDown
  let s := s.withSupply { s.supply with holds := ⟨⟨false, none⟩, ⟨false, none⟩, ⟨false, none⟩⟩ }
  let s := s.withSvc { s.svc with staging := some (Memory.ofBytes s.cfg.bytes) }
  let s := (s.withCtl { s.ctl with state := .setup, quiet := none }).loadPeriodic .setup
  s.settle before false

/-- A record as the sleeping Measurement Unit leaves it (R78). -/
def Record.asleep (r : Record) : Record :=
  { r with avg := 0, valid := false, overRange := false, sum := 0, count := 0, sumOver := false }

/-- The Measurement Unit stopped (R78). -/
def Measurement.asleep (m : Measurement) : Measurement :=
  { m with
    passTimer := none
    slot := none
    supply := m.supply.asleep
    die := m.die.asleep
    battery := m.battery.asleep
    channels := Vector.ofFn fun i => ⟨m.channels[i].base.asleep, .none⟩
    senders := Vector.ofFn fun i => ⟨m.senders[i].base.asleep, 0, 0, false, false⟩
    minAvg := 0 }

/-- Switch Inputs takes its sleep references; debounce and hold timers stop (R54). -/
def SwitchInputs.asleep (w : SwitchInputs) : SwitchInputs :=
  { w with
    inputs := Vector.ofFn fun i =>
      { w.inputs[i] with sleepRef := w.inputs[i].accepted, debounce := none, hold := none }
    ignDebounce := none }

/-- The Supply Manager stopped: contributors, accumulator and its flag kept (R141), and the class orders as they stood
(notes/assumptions/50.md). -/
def Supply.asleep (u : Supply) : Supply :=
  { u with
    timers := Vector.replicate 12 .stopped
    drainTick := none
    crank := false
    release := none
    thermal := false
    holds := ⟨⟨false, none⟩, ⟨false, none⟩, ⟨false, none⟩⟩ }

/-- The Line Interface stopped: the queue emptied, a frame in flight ended, the sub-state and counters kept (R24). -/
def Line.asleep (l : Line) : Line :=
  { l with view := .busy, isoWait := none, probing := false, run := 0, queue := l.queue.emptied, inFlight := none,
           spacing := none, periodic := none }

/-- Entry to Asleep (R180). A REPLY that carries a restart orders it as it is removed with the queue (R187). -/
def State.enterAsleep (s : State) : State :=
  let before := s.line.queue
  let s := s.standDown
  let s := s.withOut { s.out with demand := 0 }
  let s := s.withFan { s.fan with ramp := none }
  let s := s.withMeas s.meas.asleep
  let s := s.withPeers { s.peers with records := s.peers.records.map fun r => { r with ageing := none } }
  let s := s.withSw s.sw.asleep
  let s := s.withSupply s.supply.asleep
  let s := s.withLine s.line.asleep
  let s := s.withCtl { s.ctl with state := .asleep, join := none, quiet := none, wake := .none }
  s.orderIfLeft before

end Sys2Proof.Machine
end

