-- ==== Sys2Proof/Machine/ChannelCommands.lean ====
section
/-! DEFINITION. The timers of the output channels (R89, R90, R93, R96, R98, R103). -/

namespace Sys2Proof.Machine

/-- INRUSH_WINDOW_EXPIRY (R89), with the directed restart of an armed channel (R75). -/
def execInrushWindowExpiry (channel : Fin 8) (s : State) : Out :=
  let c := s.out.channels[channel]
  let r := s.meas.channels[channel]
  .next (if s.up = true ∧ c.state = .inrush ∧ c.window.isSome = true then
      let t := s.setChannel channel c.enterOn
      let t := if r.mark = .armed then
          t.withMeas { t.meas with channels := t.meas.channels.set channel r.restart }
        else t
      t.settle s false
    else s)

/-- RUN_TIMER_EXPIRY (R90, R94). -/
def execRunTimerExpiry (channel : Fin 8) (s : State) : Out :=
  let c := s.out.channels[channel]
  .next (if s.up = true ∧ c.runTimer.isSome = true then
      s.setChannel channel { c with retry := 0, runTimer := none }
    else s)

/-- OVER_TIMER_EXPIRY (R93): the channel trips. -/
def execOverTimerExpiry (channel : Fin 8) (s : State) : Out :=
  .next (if s.up = true ∧ s.overApplies channel = true ∧ s.out.channels[channel].overTimer.isSome = true then
      (s.trip channel).settle s false
    else s)

/-- What a channel becomes at the end of its retry wait (R96). -/
def State.retryNow (s : State) (i : Fin 8) : Channel × Bool :=
  let e := s.cfg.channels[i]
  if s.supply.held e.cls then (s.out.channels[i].goTo .off, false) else s.out.channels[i].release e

/-- RETRY_WAIT_EXPIRY (R96). -/
def execRetryWaitExpiry (channel : Fin 8) (s : State) : Out :=
  let c := s.out.channels[channel]
  .next (if s.up = true ∧ c.state = .tripped ∧ c.retryWait.isSome = true then
      let r := s.retryNow channel
      let t := s.setChannel channel r.1
      (t.withMeas { t.meas with channels := t.meas.channels.set channel (s.restartIfArmed r.2 channel) }).settle s false
    else s)

/-- OPEN_LOAD_TIMER_EXPIRY (R98): the flag is set, with its entry, or cleared. -/
def execOpenLoadTimerExpiry (channel : Fin 8) (s : State) : Out :=
  let c := s.out.channels[channel]
  .next (if s.up = true ∧ c.openTimer.isSome = true then
      let t := s.setChannel channel { c with openTimer := none, openFlag := !c.openFlag }
      if c.openFlag then t else t.addFault .openLoad (some channel.val)
    else s)

/-- TEST_DURATION_EXPIRY (R103, R156). -/
def execTestDurationExpiry (channel : Fin 8) (s : State) : Out :=
  let c := s.out.channels[channel]
  .next (if s.up = true ∧ c.testTimer.isSome = true then
      let t := s.setChannel channel (c.endTest .completed)
      (if s.isMotor channel then t.withFan (s.fan.rest .off) else t).settle s false
    else s)

end Sys2Proof.Machine
end

