-- ==== Sys2Proof/Machine/FanCommands.lean ====
section
/-! DEFINITION. The timers of the Fan Drive (R146, R149 to R152, R155). -/

namespace Sys2Proof.Machine

/-- RAMP_UPDATE (R146). -/
def execRampUpdate (s : State) : Out :=
  .next (if s.up = true ∧ s.fan.ramp.isSome = true then
      (s.withFan { s.fan.rampStep (fanVoltage s.cfg s.fan.target) s.cfg.rampRate with ramp := some 100 }).settle s
        false
    else s)

/-- FAN_RUN_TIMER_EXPIRY (R149): the retry count of the Motor channel returns to 0. -/
def execFanRunTimerExpiry (s : State) : Out :=
  .next (if s.up = true ∧ s.fan.runTimer.isSome = true then
      let t := s.withFan { s.fan with runTimer := none }
      match s.motor with
      | some m => t.setChannel m { s.out.channels[m] with retry := 0 }
      | none => t
    else s)

/-- SPIN_UP_GRACE_EXPIRY (R150). -/
def execSpinUpGraceExpiry (s : State) : Out :=
  .next (if s.up then s.withFan { s.fan with grace := none } else s)

/-- The Fan Drive after a stall (R150). -/
def Fan.stall (f : Fan) : Fan :=
  let n := satInc 3 f.stallCount
  if 3 ≤ n then { f.rest .locked with stallCount := n }
  else { f.rest .stalled with stallCount := n, stallWait := some 5000 }

/-- STALL_TIMER_EXPIRY (R150). -/
def execStallTimerExpiry (s : State) : Out :=
  .next (if s.up = true ∧ (s.fan.state = .ramping ∨ s.fan.state = .running) ∧ s.fan.stallTimer.isSome = true then
      let t := s.withFan s.fan.stall
      (if s.fan.stall.state = .locked then t.addFault .fanLocked (s.motor.map Fin.val) else t).settle s false
    else s)

/-- The fan at the end of a stall wait or a retry wait, whatever its target (R151, R152, notes/assumptions/47.md). -/
def State.fanAfterWait (s : State) : Fan :=
  match s.motor with
  | none => s.fan
  | some m =>
    let cls := s.cfg.channels[m].cls
    if s.supply.order cls = .shed ∨ s.supply.crank = true then s.fan.hang
    else if s.supply.held cls then s.fan.rest .off
    else s.fan.startRamp false

/-- STALL_WAIT_EXPIRY (R152). -/
def execStallWaitExpiry (s : State) : Out :=
  .next (if s.up = true ∧ s.fan.state = .stalled ∧ s.fan.stallWait.isSome = true then
      (s.withFan s.fanAfterWait).settle s false
    else s)

/-- FAN_RETRY_WAIT_EXPIRY (R151). -/
def execFanRetryWaitExpiry (s : State) : Out :=
  .next (if s.up = true ∧ s.fan.state = .tripped ∧ s.fan.retryWait.isSome = true then
      (s.withFan s.fanAfterWait).settle s false
    else s)

/-- DEFERRAL_END (R155): a shed cause that holds suspends the fan. -/
def execDeferralEnd (s : State) : Out :=
  .next (if s.up = true ∧ s.fan.deferral.isSome = true then
      (s.withFan { s.fan with deferral := none }).settle s false
    else s)

end Sys2Proof.Machine
end

