-- ==== Sys2Proof/Machine/FlashCommands.lean ====
section
/-! DEFINITION. The half timer of the flash cycle (R108). -/

namespace Sys2Proof.Machine

/-- The cycle enters Off (R108): the directed marks of the phase just ended are cleared (R77). -/
def State.enterFlashOff (s : State) : State :=
  s.clearMarks.withFlash
    { s.flash with phase := .off, half := some (halfPeriod s.cfg.flashPeriod s.flash.fast) }

/-- HALF_TIMER_EXPIRY (R108). -/
def execHalfTimerExpiry (s : State) : Out :=
  .next (if s.up = true ∧ s.flash.half.isSome = true then
      match s.flash.phase, s.flash.sides with
      | .on, _ => s.enterFlashOff.settle s false
      | .off, some x => (s.enterFlashOn x .expiry).settle s true
      | .off, none => s
      | .idle, _ => s
    else s)

end Sys2Proof.Machine
end

