-- ==== Sys2Proof/Machine/GaugeCommands.lean ====
section
/-! DEFINITION. The gauge update (R159, R170). -/

namespace Sys2Proof.Machine

/-- Every drive worked from the values then held (R159). -/
def State.workGauges (s : State) : Vector Gauge 4 :=
  Vector.ofFn fun i => s.workGauge s.cfg.gauges[i] s.gauges.drives[i]

/-- GAUGE_UPDATE (R159): the timer reloads, and outside crank hold every drive is worked (R170). -/
def execGaugeUpdate (s : State) : Out :=
  .next (if s.up = true ∧ s.gauges.update.isSome = true then
      s.withGauges
        ⟨if s.supply.crank = false ∧ s.drives = true then s.workGauges else s.gauges.drives, some 100⟩
    else s)

end Sys2Proof.Machine
end

