-- ==== Sys2Proof/Machine/InputCommands.lean ====
section
/-! DEFINITION. The commands of the switch inputs and the IGN pin (R43 to R47, R53, R55). -/

namespace Sys2Proof.Machine

/-- The debounce timer after the raw state has changed to `raw` (R44). -/
def debounceAfter (raw accepted : Contact) : Timer := if raw = accepted then none else some 20

/-- One switch input's state changed. -/
def State.setInput (s : State) (i : Fin 8) (x : SwitchState) : State :=
  s.withSw { s.sw with inputs := s.sw.inputs.set i x }

/-- SWITCH_RAW_CHANGE (R43, R44). The pin's level is the world's and changes in every state; an enabled input follows
it while the station is up. -/
def execSwitchRawChange (input : Fin 8) (level : PinLevel) (s : State) : Out :=
  let t := s.withPins { s.pins with switches := s.pins.switches.set input level }
  let x := t.sw.inputs[input]
  .next (if s.up = true ∧ s.cfg.switches[input].enabled = true ∧ t.raw input ≠ s.raw input then
      t.setInput input { x with debounce := debounceAfter (t.raw input) x.accepted }
    else t)

/-- A switch input whose accepted state takes the raw state, as a settling or as a transition (R44 to R47). -/
def SwitchState.accept (x : SwitchState) (e : SwitchEntry) (raw : Contact) : SwitchState :=
  let y := { x with accepted := raw, debounce := none }
  if x.accepted = .undetermined ∨ x.accepted = raw then y
  else match raw with
    | .closed =>
      { y with toggle := if e.mode = 1 then !x.toggle else x.toggle,
               hold := if e.mode = 2 then none else x.hold }
    | .opened =>
      { y with hold := if e.mode = 2 ∧ 0 < e.hold then some (e.hold * 1000) else x.hold }
    | .undetermined => y

/-- The change of an accepted state is a transition, a switch input change (R44, R53). -/
def SwitchState.transits (x : SwitchState) (raw : Contact) : Bool :=
  decide (x.accepted ≠ .undetermined) && decide (x.accepted ≠ raw)

/-- DEBOUNCE_EXPIRY (R44). -/
def execDebounceExpiry (input : Fin 8) (s : State) : Out :=
  let x := s.sw.inputs[input]
  .next (if s.up = true ∧ x.debounce.isSome = true then
      let t := s.setInput input (x.accept s.cfg.switches[input] (s.raw input))
      let t := if x.transits (s.raw input) then t.reloadQuiet else t
      t.recomputeLocal.settle s false
    else s)

/-- HOLD_TIMER_EXPIRY (R47). -/
def execHoldTimerExpiry (input : Fin 8) (s : State) : Out :=
  let x := s.sw.inputs[input]
  .next (if s.up = true ∧ x.hold.isSome = true then
      (s.setInput input { x with hold := none }).recomputeLocal.settle s false
    else s)

/-- The IGN pin's raw state. -/
def ignContact (level : Bool) : Contact := if level then .closed else .opened

/-- IGN_PIN_CHANGE (R55). -/
def execIgnPinChange (level : Bool) (s : State) : Out :=
  let t := s.withPins { s.pins with ign := level }
  .next (if s.up = true ∧ s.pins.ign ≠ level then
      t.withSw { t.sw with ignDebounce := debounceAfter (ignContact level) t.sw.ignAccepted }
    else t)

/-- IGN_DEBOUNCE_EXPIRY (R55). -/
def execIgnDebounceExpiry (s : State) : Out :=
  .next (if s.up = true ∧ s.sw.ignDebounce.isSome = true then
      (s.withSw { s.sw with ignAccepted := ignContact s.pins.ign, ignDebounce := none }).settle s false
    else s)

end Sys2Proof.Machine
end

