-- ==== Sys2Proof/Machine/LineCommands.lean ====
section
/-! DEFINITION. The commands of the body line (chapter 1): what the receiver makes of the line, the attempts of the
entry in flight, the Isolated wait and the STATUS timing. A command whose moment has not come has no effect
(notes/assumptions/2.md). -/

namespace Sys2Proof.Machine

/-- What the receiver takes the line for. -/
def State.setView (s : State) (v : LineView) : State := s.withLine { s.line with view := v }

/-- BREAK (R2): the frame being received is discarded and the line is busy until it is idle. -/
def execLineBreak (s : State) : Out := .next (if s.up then s.setView .busy else s)

/-- TRUNCATED_FRAME (R3). -/
def execTruncatedFrame (s : State) : Out := .next (if s.up then s.setView .busy else s)

/-- LINE_IDLE (R3): 12 recessive bit times have been seen, and no frame of the station's own is under way. -/
def execLineIdle (s : State) : Out :=
  .next (if s.up = true ∧ s.line.inFlight = none then s.setView .idle else s)

/-- A frame may begin here: the station decodes the line, which is idle, and has nothing in flight (R3, R7). -/
def State.atIdle (s : State) : Bool := s.up && decide (s.line.view = .idle) && s.line.inFlight.isNone

/-- The eligible entry takes the line: on an idle line, with nothing in flight (R7, notes/assumptions/8.md). -/
def State.takeLine (s : State) : State :=
  if s.atIdle then
    match s.line.choose s.strapInvalid with
    | some c => s.withLine (s.line.offer c.1 c.2)
    | none => s
  else s

/-- FRAME_OFFER (R7). -/
def execFrameOffer (s : State) : Out := .next s.takeLine

/-- JOIN_START_BIT (R7): the station takes another station's start bit as its own. With nothing eligible it receives the
frame that begins, so an entry that becomes eligible later waits for the next idle. -/
def execJoinStartBit (s : State) : Out :=
  .next (if s.atIdle = true ∧ s.line.choose s.strapInvalid = none then s.setView .receiving else s.takeLine)

/-- The line after a lost arbitration: the entry stays in the queue and the station receives the rest (R8). -/
def Line.lose (l : Line) : Line :=
  { l with view := .receiving, inFlight := none,
           counters := { l.counters with arbitrationLosses := satInc 65535 l.counters.arbitrationLosses } }

/-- ARBITRATION_LOSS (R8). -/
def execArbitrationLoss (s : State) : Out :=
  .next (match s.line.inFlight with
    | some _ => if s.up then s.withLine s.line.lose else s
    | none => s)

/-- The collisions counter (R9, R23). -/
def Line.countCollision (l : Line) : Line :=
  { l with counters := { l.counters with collisions := satInc 65535 l.counters.collisions } }

/-- COLLISION (R9): a failed attempt, and the finding of a duplicate when an ANNOUNCE collides
(notes/assumptions/10.md). -/
def execCollision (s : State) : Out :=
  .next (match s.line.inFlight with
    | some f =>
      if s.up then
        let t := (s.withLine s.line.countCollision).attemptFailed f
        if f.kind = .announce then t.findDuplicate else t
      else s
    | none => s)

/-- The objections received counter (R11, R23). -/
def Line.countObjection (l : Line) : Line :=
  { l with counters := { l.counters with objectionsReceived := satInc 65535 l.counters.objectionsReceived } }

/-- ATTEMPT_OBJECTED (R11). -/
def execAttemptObjected (s : State) : Out :=
  .next (match s.line.inFlight with
    | some f => if s.up then (s.withLine s.line.countObjection).attemptFailed f else s
    | none => s)

/-- A FLASH handed to the Flasher, with the hand-ons of an alignment (R112, R121). `before` is the state before the
command. -/
def State.flashHanded (s before : State) (c : FlashContent) : State :=
  let r := s.alignTo c
  if r.2 then r.1.settle before true else s

/-- ATTEMPT_SUCCESS (R11): the entry leaves the queue; the station's own FLASH goes to its own Flasher (R112). -/
def execAttemptSuccess (s : State) : Out :=
  .next (match s.line.inFlight with
    | some f =>
      if s.up then
        let t := (s.withLine (s.line.succeed f)).orderIfLeft s.line.queue
        if f.kind = .flash then t.flashHanded s (decodeFlash (f.content.headD 0)) else t
      else s
    | none => s)

/-- STUCK_LINE (R20): reception is suspended; a Joined station enters Isolated, an Isolated one restarts its wait
(notes/assumptions/11.md). -/
def execStuckLine (s : State) : Out :=
  .next (if s.up then
      let t := s.setView .busy
      match t.line.sub with
      | .joined => t.enterIsolated
      | .isolated => t.withLine { t.line with isoWait := some 1000, probing := false }
      | .muted => t
    else s)

/-- ISOLATION_WAIT_EXPIRY (R21): the probe STATUS is placed and is due. -/
def execIsolationWaitExpiry (s : State) : Out :=
  .next (if s.up = true ∧ s.line.sub = .isolated ∧ s.line.isoWait.isSome = true then
      (s.withLine { s.line with isoWait := none, probing := true }).requestStatus
    else s)

/-- PERIODIC_STATUS_TIMER (R22). -/
def execPeriodicStatusTimer (s : State) : Out :=
  .next (if s.up = true ∧ s.line.periodic.isSome = true then s.requestStatus.loadPeriodic s.ctl.state else s)

/-- STATUS_SPACING_END (R22). -/
def execStatusSpacingEnd (s : State) : Out :=
  .next (if s.up then s.withLine { s.line with spacing := none } else s)

end Sys2Proof.Machine
end

