-- ==== Sys2Proof/Machine/MeasureCommands.lean ====
section
/-! DEFINITION. The pass and its samples (chapter 4), with what each reading block does at a completion: the supply
and balance contributors (R127, R128), thermal hold (R137), the over and open-load timing (R93, R98), stall detection
(R150), the bulb check (R76, R116), and the sender inputs used as switches and ladders (R48 to R52, R70, R161). -/

namespace Sys2Proof.Machine

/-- PASS_TIMER (R63): a pass begins at slot 0. -/
def execPassTimer (s : State) : Out :=
  .next (if s.up = true ∧ s.meas.passTimer.isSome = true then
      s.withMeas { s.meas with passTimer := some 4, slot := some 0 }
    else s)

/-- A sample joins its block of `len` passes (R64, R65, R66). The second part says whether the block completes. -/
def Record.take (r : Record) (len : Nat) (x : Int) (beyond : Bool) : Record × Bool :=
  if len ≤ r.count + 1 then
    ({ latest := x, latestOver := beyond, avg := roundDiv (r.sum + x) len, valid := true,
       overRange := r.sumOver || beyond, sum := 0, count := 0, sumOver := false }, true)
  else
    ({ r with latest := x, latestOver := beyond, sum := r.sum + x, count := r.count + 1,
              sumOver := r.sumOver || beyond }, false)

/-! ## Supply, die temperature and battery shunt -/

/-- The six timers of contributor (a) judged at a supply average (R127). -/
def Supply.judgeSupply (u : Supply) (c : WorkingConfig) (v : Int) : Supply :=
  (((((u.judge .entry1 (decide (v < c.t1))).judge .entry2 (decide (v < c.t2))).judge .entry3
    (decide (v < c.t3))).judge .exit1 (decide ((c.t1 : Int) + c.hyst ≤ v))).judge .exit2
    (decide ((c.t2 : Int) + c.hyst ≤ v))).judge .exit3 (decide ((c.t3 : Int) + c.hyst ≤ v))

/-- A completed supply block: the crank condition first, and contributor (a) outside crank hold (R127, R135,
notes/assumptions/12.md). -/
def State.supplyCompleted (s : State) : State :=
  let u := s.supply.judgeCrank s.crankCondition
  s.withSupply (if u.crank then u else u.judgeSupply s.cfg s.meas.supply.avg)

/-- A supply sample, with the supply minimum record (R69). Between a completion and the next block's first sample the
minimum's latest sample is the completed block's lowest (notes/assumptions/39.md). -/
def State.sampleSupply (s : State) (x : Int) (beyond : Bool) : State :=
  let r := s.meas.supply
  let low := if r.count = 0 then x else min s.meas.minLatest x
  let n := r.take 16 x beyond
  let t := s.withMeas { s.meas with
    supply := n.1, minLatest := low, minAvg := if n.2 then low else s.meas.minAvg }
  if n.2 then t.supplyCompleted.settle s false else t

/-- Thermal hold judged at a completed die-temperature block (R137), at a strap-invalid station too
(notes/assumptions/40.md). -/
def State.judgeThermal (s : State) : State :=
  let v := s.meas.die.avg
  if s.supply.thermal then
    if v < 125 then s.withSupply { s.supply with thermal := false } else s
  else if 140 ≤ v then (s.withSupply { s.supply with thermal := true }).addFault .thermal none
  else s

/-- A die-temperature sample. -/
def State.sampleDie (s : State) (x : Int) (beyond : Bool) : State :=
  let n := s.meas.die.take 16 x beyond
  let t := s.withMeas { s.meas with die := n.1 }
  if n.2 then t.judgeThermal.settle s false else t

/-- The four timers of contributor (b) judged at a battery current (R128). -/
def Supply.judgeBattery (u : Supply) (c : WorkingConfig) (i : Int) : Supply :=
  (((u.judge .raise1 (decide (i < -(c.d1 : Int)))).judge .raise2 (decide (i < -(c.d2 : Int)))).judge .lower1
    (decide (-((c.d2 : Int) - 10) < i))).judge .lower0 (decide (-((c.d1 : Int) - 10) < i))

/-- A battery-shunt sample, converted only while the shunt is enabled (R63, R68). -/
def State.sampleBattery (s : State) (x : Int) (beyond : Bool) : State :=
  if s.cfg.shunt then
    let n := s.meas.battery.take 16 x beyond
    let t := s.withMeas { s.meas with battery := n.1 }
    if n.2 then
      (t.withSupply (if t.res.ign then t.supply.judgeBattery t.cfg n.1.avg else t.supply)).settle s false
    else t
  else s

/-! ## Channel currents -/

/-- The over timer at a completion (R93). -/
def overTimerAt (t : Timer) (above : Bool) (period : Nat) : Timer :=
  if above then t.or (some period) else none

/-- The open-load timer at a completion: it runs while the result disagrees with the flag (R98). -/
def openTimerAt (t : Timer) (below flag : Bool) : Timer := if below != flag then t.or (some 500) else none

/-- The comparisons of a completed current block handed to the channel (R73, R93, R98). -/
def State.compareCurrent (s : State) (i : Fin 8) : State :=
  let e := s.cfg.channels[i]
  let c := s.out.channels[i]
  let b := s.meas.channels[i].base
  let c := if s.overApplies i then
      { c with overTimer := overTimerAt c.overTimer (aboveOver e b.avg b.overRange) e.overTime }
    else c
  let c := if s.isMotor i = false ∧ s.openCheck i = true then
      { c with openTimer := openTimerAt c.openTimer (belowOpen e b.avg) c.openFlag }
    else c
  s.setChannel i c

/-- Stall detection at a completed block of the Motor channel (R150). -/
def State.judgeStall (s : State) (i : Fin 8) : State :=
  if s.isMotor i = true ∧ (s.fan.state = .ramping ∨ s.fan.state = .running) ∧ s.fan.grace = none then
    let b := s.meas.channels[i].base
    s.withFan { s.fan with
      stallTimer := overTimerAt s.fan.stallTimer (b.overRange || decide ((s.cfg.stallLimit : Int) < b.avg)) 1500 }
  else s

/-- The bulb check at a completed directed block (R76, R116), also of a channel that has tripped since its restart
(notes/assumptions/43.md). -/
def State.checkBulb (s : State) (i : Fin 8) : State :=
  let r := s.meas.channels[i]
  if r.mark = .restarted then
    let t := s.withMeas { s.meas with channels := s.meas.channels.set i { r with mark := .none } }
    if r.base.avg < s.cfg.channels[i].openLimit then t.bulbOut s.cfg.channels[i].side else t
  else s

/-- What the readers of a completed current block do (R67). -/
def State.currentCompleted (s : State) (i : Fin 8) : State := ((s.compareCurrent i).judgeStall i).checkBulb i

/-- A current sample: the hard limit at once, then the block (R65, R72, R92, notes/assumptions/13.md). -/
def State.sampleChannel (s : State) (i : Fin 8) (x : Int) (beyond : Bool) : State :=
  let n := s.meas.channels[i].base.take s.cfg.ni x beyond
  let t := s.withMeas { s.meas with channels := s.meas.channels.set i { s.meas.channels[i] with base := n.1 } }
  let trips := exceedsHard s.cfg.channels[i] x beyond && s.hardApplies i
  let t := if trips then t.trip i else t
  let t := if n.2 then t.currentCompleted i else t
  if trips || n.2 then t.settle s false else t

/-! ## Senders -/

/-- The Open and Short conditions at a completed sender block (R70). -/
def SenderRecord.judge (r : SenderRecord) : SenderRecord :=
  let isOpen := decide (1020 ≤ r.base.avg)
  let isShort := decide (r.base.avg ≤ 2)
  let openCount := if isOpen then satInc 2 r.openCount else 0
  let shortCount := if isShort then satInc 2 r.shortCount else 0
  { r with
    openCount := openCount
    shortCount := shortCount
    openFlag := isOpen && (r.openFlag || decide (openCount = 2))
    shortFlag := isShort && (r.shortFlag || decide (shortCount = 2)) }

/-- A condition has been flagged at this completion (R161). -/
def SenderRecord.flagged (old new : SenderRecord) : Bool :=
  (!old.openFlag && new.openFlag) || (!old.shortFlag && new.shortFlag)

/-- The class of a Switch-mode sender (R48). -/
def contactOf (avg : Int) : Contact := if avg < 20 then .closed else .opened

/-- A ladder at a completed block (R49, R50, R52). -/
def SenderSwitch.decode (x : SenderSwitch) (e : SenderEntry) (avg : Int) : SenderSwitch :=
  match bandOf e.bands 0 avg with
  | some p => { x with position := some p, value := if e.target = 1 then dimmerValue e avg else x.value,
                       outOfBand := 0 }
  | none => { x with outOfBand := satInc 3 x.outOfBand }

/-- A sender's Switch Inputs state at a completed block, by its mode (R71). -/
def SenderSwitch.next (x : SenderSwitch) (e : SenderEntry) (avg : Int) : SenderSwitch :=
  match e.mode with
  | .switch => { x with contact := contactOf avg }
  | .ladder => x.decode e avg
  | .off => x
  | .resistive => x

/-- A switch input change of a sender: a change of class, of a decoded position or of a dimmer value (R53,
notes/assumptions/24.md). -/
def SenderSwitch.changed (old new : SenderSwitch) : Bool :=
  (decide (old.contact ≠ .undetermined) && decide (old.contact ≠ new.contact))
    || decide (old.position ≠ new.position) || decide (old.value ≠ new.value)

/-- A SENDER_FAULT entry falls due: a Resistive sender flagged (R161), a ladder out of band for 500 ms (R50). -/
def senderFaultDue (e : SenderEntry) (old new : SenderRecord) (x y : SenderSwitch) : Bool :=
  match e.mode with
  | .resistive => old.flagged new
  | .ladder => decide (x.outOfBand < 3) && decide (y.outOfBand = 3)
  | .off => false
  | .switch => false

/-- What the readers of a completed sender block do (R67), at a strap-invalid station too (notes/assumptions/40.md). -/
def State.senderCompleted (s : State) (n : Fin 4) : State :=
  let e := s.cfg.senders[n]
  let old := s.meas.senders[n]
  let new := old.judge
  let x := s.sw.senders[n]
  let y := x.next e old.base.avg
  let t := s.withMeas { s.meas with senders := s.meas.senders.set n new }
  let t := t.withSw { t.sw with senders := t.sw.senders.set n y }
  let t := if senderFaultDue e old new x y then t.addFault .senderFault (some n.val) else t
  let t := if x.changed y then t.reloadQuiet else t
  t.recomputeLocal

/-- A sender sample. -/
def State.sampleSender (s : State) (n : Fin 4) (x : Int) (beyond : Bool) : State :=
  let m := s.meas.senders[n].base.take 64 x beyond
  let t := s.withMeas { s.meas with senders := s.meas.senders.set n { s.meas.senders[n] with base := m.1 } }
  if m.2 then (t.senderCompleted n).settle s false else t

/-! ## The sample of a slot -/

/-- The sample of an input taken in. -/
def State.sampleInput (s : State) (input : SlotInput) (x : Int) (beyond : Bool) : State :=
  match input with
  | .supply => s.sampleSupply x beyond
  | .die => s.sampleDie x beyond
  | .battery => s.sampleBattery x beyond
  | .channel i => s.sampleChannel i x beyond
  | .sender n => s.sampleSender n x beyond

/-- SAMPLE (R64): the conversion of the present slot completes and the pass goes on to its next slot. -/
def execSample (reading : Int) (s : State) : Out :=
  .next (match s.meas.slot with
    | some k =>
      if s.up then
        let v := takeReading (slotInput k) reading
        (s.withMeas { s.meas with slot := nextSlot s.cfg.shunt k }).sampleInput (slotInput k) v.1 v.2
      else s
    | none => s)

end Sys2Proof.Machine
end

