-- ==== Sys2Proof/WellFormed.lean ====
section
/-! DEFINITION. Which commands the specification describes: the checks a command's operands meet before it can
reach the block (R6's table of station numbers and payload lengths, R4's Head, R185's command codes). A command
that fails a check still has a meaning (notes/assumptions/3.md); the checks say which terms the table's rows name. -/

namespace Sys2Proof

/-- A station's number on its own frames: 0..14 (R6). -/
def stationNumberOk (n : Fin 16) : Bool := n.val < 15

/-- The payload lengths R6 allows a STATUS. -/
def statusLengthOk (n : Nat) : Bool := n = 8 || n = 10 || n = 12 || n = 14

/-- A SERVICE payload is 1..8 bytes (R6): byte 0 and up to seven argument bytes. -/
def serviceArgsOk (args : List Byte) : Bool := args.length ≤ 7

/-- The command codes that name a command: 1..12 (Formats, SERVICE and REPLY). -/
def commandCodeNamed (c : Fin 16) : Bool := 1 ≤ c.val && c.val ≤ 12

/-- The operands are ones the row's frame or event can carry. -/
def Instr.wellFormed : Instr → Bool
  | .objectedFrame _ head payload _ _ => payload.length = head.toNat % 16
  | .statusFrame n p => stationNumberOk n && statusLengthOk p.length
  | .announceFrame n p => stationNumberOk n && p.length = 11
  | .flashFrame n p => stationNumberOk n && p.length = 1
  | .replyFrame n p => stationNumberOk n && (1 ≤ p.length && p.length ≤ 15)
  | .identify _ a | .read _ a | .faultCall _ a | .faultAck _ a | .faultClear _ a | .setupEnter _ a
  | .storeWriteLowHalf _ a | .storeWriteHighHalf _ a | .storeCommit _ a | .testOutput _ a | .setupExit _ a
  | .restart _ a => serviceArgsOk a
  | .unknownCommand _ c a => serviceArgsOk a && !commandCodeNamed c
  | .lineBreak | .truncatedFrame | .joinStartBit | .frameOffer | .arbitrationLoss | .collision | .attemptObjected
  | .attemptSuccess | .stuckLine | .isolationWaitExpiry | .periodicStatusTimer | .statusSpacingEnd
  | .ageingTimerExpiry _ | .switchRawChange _ _ | .debounceExpiry _ | .holdTimerExpiry _ | .ignPinChange _
  | .ignDebounceExpiry | .passTimer | .sample _ | .inrushWindowExpiry _ | .runTimerExpiry _ | .overTimerExpiry _
  | .retryWaitExpiry _ | .openLoadTimerExpiry _ | .testDurationExpiry _ | .halfTimerExpiry
  | .persistenceTimerExpiry _ | .drainTick | .crankReleaseExpiry | .holdTimerEnd _ | .rampUpdate
  | .fanRunTimerExpiry | .spinUpGraceExpiry | .stallTimerExpiry | .stallWaitExpiry | .fanRetryWaitExpiry
  | .deferralEnd | .gaugeUpdate | .powerFail | .powerOnReset _ | .serviceRestart _ | .joinWindowExpiry
  | .quietTimerExpiry | .lineWake | .inputWake _ | .ignWake | .wakePulseEnd | .wakeWaitExpiry
  | .stationClockTick | .programmingEnd | .lineIdle => true

end Sys2Proof
end

