-- ==== Sys2Proof/Machine/PeerCommands.lean ====
section
/-! DEFINITION. Received frames: the objected frame (R10, R12), the duplicate check (R19), the intake of STATUS,
ANNOUNCE and FLASH (R31, R32, R37 to R39, R112, R114) and the ageing of a record (R33, R34). -/

namespace Sys2Proof.Machine

/-- The station receives a frame that ends now: it decodes the line, drives no frame of its own, and has taken the
frame's Claim on an idle line or has lost arbitration to it (R3, R8, notes/assumptions/8.md). -/
def State.receives (s : State) : Bool :=
  s.up && s.line.inFlight.isNone && decide (s.line.view ≠ .busy)

/-- The station objects to a frame; a strap-invalid station lays no objection (R1, R10, R23). -/
def State.raiseObjection (s : State) : State :=
  if s.strapInvalid then s
  else s.withLine { s.line with counters :=
    { s.line.counters with objectionsRaised := satInc 65535 s.line.counters.objectionsRaised } }

/-- A check mismatch is counted (R5, R23). -/
def State.countCheckError (s : State) : State :=
  s.withLine { s.line with counters :=
    { s.line.counters with checkErrors := satInc 65535 s.line.counters.checkErrors } }

/-- The Check read differs from the one computed (R5). -/
def checkMismatch (claim head : Byte) (payload : List Byte) (check : Byte) : Bool :=
  decide (check ≠ crc8 (claim :: head :: payload))

/-- OBJECTED_FRAME (R12): discarded by every receiver; one that found a fault in it has objected (R10). -/
def execObjectedFrame (claim head : Byte) (payload : List Byte) (check : Byte) (framing : Bool) (s : State) : Out :=
  .next (if s.receives then
      let t := s.setView .busy
      let mismatch := checkMismatch claim head payload check
      let t := if framing || !formatOk claim head || mismatch then t.raiseObjection else t
      if mismatch then t.countCheckError else t
    else s)

/-- The duplicate check of an unobjected frame (R19). -/
def State.duplicateCheck (s : State) (sender : Fin 16) : State :=
  if sender.val = s.straps.number then s.findDuplicate else s

/-- A frame of a station ends unobjected: `format` says that R6's table allows it. A frame the table does not allow is
objected to (notes/assumptions/3.md). -/
def State.receive (s : State) (sender : Fin 16) (format : Bool) (hand : State → State) : State :=
  if s.receives then
    if format then hand ((s.setView .busy).duplicateCheck sender) else (s.setView .busy).raiseObjection
  else s

/-- The expected interval of a peer by its announced state (R33). -/
def expectedInterval : PeerStation → Nat
  | .awake => 100
  | .standby => 500
  | .setup => 500

/-- A record after a STATUS is taken in (R31). -/
def PeerRecord.takeStatus (r : PeerRecord) (c : StatusContent) : PeerRecord :=
  { r with
    state := .present
    requests := c.requests
    fanStep := c.fanStep
    dimmer := c.dimmer
    demand := c.demand
    supply := c.supply
    shed := c.shed
    station := c.station
    ign := c.ign
    faults := c.faults
    battery := c.battery
    posA := c.posA
    posB := c.posB
    bulbLeft := c.bulbLeft
    bulbRight := c.bulbRight
    missed := 0
    ageing := some (expectedInterval c.station) }

/-- A STATUS handed to the Peer Table (R31, R32). `before` is the state before the command. One with the station's own
number has no record, and is not counted when it is inconsistent (R25, notes/assumptions/37.md). -/
def State.takeStatus (s before : State) (n : Nat) (payload : List Byte) : State :=
  if (s.peers.find n).isSome then
    match decodeStatus payload with
    | some c => (s.withPeers (s.peers.modify n fun r => r.takeStatus c)).settle before false
    | none => s.withPeers { s.peers with inconsistent := satInc 65535 s.peers.inconsistent }
  else s

/-- STATUS_FRAME (R31). -/
def execStatusFrame (sender : Fin 16) (payload : List Byte) (s : State) : Out :=
  .next (s.receive sender (stationNumberOk sender && statusLengthOk payload.length)
    fun t => t.takeStatus s sender.val payload)

/-- The record's peer has been replaced by a device of another identity (R38). -/
def PeerRecord.replacedBy (r : PeerRecord) (uid : BitVec 64) : Bool :=
  decide (r.state ≠ .absent) && r.uid.isSome && decide (r.uid ≠ some uid)

/-- A record after an ANNOUNCE (R37, R38). -/
def PeerRecord.takeAnnounce (r : PeerRecord) (uid : BitVec 64) (checksum : Word16) (roles : Roles) : PeerRecord :=
  let r' := { r with uid := some uid, checksum := some checksum, roles := some roles }
  if r.replacedBy uid then { r' with battery := none, posA := none, posB := none } else r'

/-- An ANNOUNCE handed to the Peer Table (R37, R38). -/
def State.takeAnnounce (s before : State) (n : Nat) (payload : List Byte) : State :=
  match s.peers.find n with
  | none => s
  | some r =>
    let uid := uidAt payload 0
    let t := s.peers.modify n fun x =>
      x.takeAnnounce uid (BitVec.ofNat 16 (wordAt payload 8)) (rolesOf (payload.getD 10 0))
    (s.withPeers (if r.replacedBy uid then { t with changed := satInc 65535 t.changed } else t)).settle before false

/-- ANNOUNCE_FRAME (R37). -/
def execAnnounceFrame (sender : Fin 16) (payload : List Byte) (s : State) : Out :=
  .next (s.receive sender (stationNumberOk sender && decide (payload.length = 11))
    fun t => t.takeAnnounce s sender.val payload)

/-- A record's bulb-out flags after a FLASH (R39). -/
def PeerRecord.takeFlash (r : PeerRecord) (c : FlashContent) : PeerRecord :=
  { r with bulbLeft := c.bulbLeft, bulbRight := c.bulbRight }

/-- A FLASH of another station handed to the Peer Table, the Transmit Queue and the Flasher (R12, R16, R39, R112,
R114). -/
def State.takeFlash (s before : State) (n : Nat) (byte : Byte) : State :=
  let c := decodeFlash byte
  let s := s.withPeers (s.peers.modify n fun r => r.takeFlash c)
  let r := (s.withLine (s.line.withdraw byte)).alignTo c
  (r.1.takeReceived c).settle before r.2

/-- FLASH_FRAME (R112). -/
def execFlashFrame (sender : Fin 16) (payload : List Byte) (s : State) : Out :=
  .next (s.receive sender (stationNumberOk sender && decide (payload.length = 1))
    fun t => t.takeFlash s sender.val (payload.headD 0))

/-- REPLY_FRAME (R12, R19): the duplicate check alone. -/
def execReplyFrame (sender : Fin 16) (payload : List Byte) (s : State) : Out :=
  .next (s.receive sender (stationNumberOk sender && decide (1 ≤ payload.length) && decide (payload.length ≤ 15))
    fun t => t)

/-- A record at an expiry of its ageing timer (R33, R34). -/
def PeerRecord.age (r : PeerRecord) : PeerRecord :=
  if 10 ≤ r.missed + 1 then { r with missed := 10, state := .lost, ageing := none }
  else
    { r with
      missed := r.missed + 1
      state := if 3 ≤ r.missed + 1 ∧ r.state = .present then .stale else r.state
      ageing := some (expectedInterval r.station) }

/-- AGEING_TIMER_EXPIRY (R33). -/
def execAgeingTimerExpiry (number : Fin 15) (s : State) : Out :=
  .next (match s.peers.find number.val with
    | some r =>
      if s.up = true ∧ r.ageing.isSome = true then
        (s.withPeers (s.peers.modify number.val PeerRecord.age)).settle s false
      else s
    | none => s)

end Sys2Proof.Machine
end

