-- ==== Sys2Proof/Machine/ServiceReads.lean ====
section
/-! DEFINITION. The data of a READ reply, by class, index and page (R186, Formats). A byte to which the layout gives a
place and the specification no value is a free byte (notes/assumptions/20.md). -/

namespace Sys2Proof.Machine

/-- The free byte at a place of this reply. -/
def State.freeAt (s : State) (k : Nat) : Byte := Config.freeByte (s.free + k)

/-- The free bytes one READ may use. -/
def freeStep : Nat := 8

/-- One bit of a byte for each flag, from bit 0 upward. -/
def flagsByte (l : List Bool) : Byte := putByte (pack (l.map fun b => (flagBit b, 1)))

/-- A field that is absent is sent as 0xFF. -/
def optByte (x : Option Nat) : Byte := (x.map putByte).getD 0xFF

/-- An absent position is sent as 0xFFFF. -/
def positionBytes (x : Option (List Byte)) : List Byte := x.getD [0xFF, 0xFF]

/-- The bytes of a measurement record. -/
def measurementBytes (latest avg : Int) (valid beyond isOpen isShort : Bool) (mark : Mark)
    (position : Option (List Byte)) : List Byte :=
  putSigned latest ++ putSigned avg
    ++ [putByte (pack [(flagBit valid, 1), (flagBit beyond, 1), (flagBit isOpen, 1), (flagBit isShort, 1),
      (mark.code, 2)])]
    ++ positionBytes position

/-- The bytes of a record without sender conditions or a mark. -/
def Record.bytes (r : Record) : List Byte := measurementBytes r.latest r.avg r.valid r.overRange false false .none none

/-- Class 0: a measurement record, indexed as R66 gives. -/
def State.readMeasurement (s : State) (i : Nat) : List Byte :=
  let m := s.meas
  if i = 0 then m.supply.bytes
  else if i = 1 then m.die.bytes
  else if i = 2 then m.battery.bytes
  else if i ≤ 10 then
    let r := m.channels[Fin.ofNat 8 (i - 3)]
    measurementBytes r.base.latest r.base.avg r.base.valid r.base.overRange false false r.mark none
  else if i ≤ 14 then
    let n := Fin.ofNat 4 (i - 11)
    let r := m.senders[n]
    measurementBytes r.base.latest r.base.avg r.base.valid r.base.overRange r.openFlag r.shortFlag .none
      ((s.senderPosition n).map putWord)
  else measurementBytes m.minLatest m.minAvg m.supply.valid m.supply.overRange false false .none none

/-- The command and level bytes of a channel: a channel of kind Off or Motor has no such command (R86), and a command
that is not steady has no level. -/
def State.commandBytes (s : State) (i : Fin 8) : List Byte :=
  let c := s.out.channels[i]
  let free := [s.freeAt 1, s.freeAt 2]
  match s.cfg.channels[i].kind with
  | .off => s.freeAt 0 :: free
  | .motor => s.freeAt 0 :: free
  | .lamp | .flashLamp | .stopTurn | .plain =>
    putByte c.command.code ::
      (match c.command with
        | .steady l => putWord l
        | .off => free
        | .flashOn => free
        | .flashOff => free)

/-- Class 1, page 0: a channel. -/
def State.readChannel (s : State) (i : Fin 8) : List Byte :=
  let c := s.out.channels[i]
  putByte (if s.isMotor i then s.fan.state.code else c.state.code) :: s.commandBytes i
    ++ putWord c.duty
    ++ [putByte c.retry, putByte (pack [(flagBit c.openFlag, 1), (c.testResult.code, 2)])]

/-- Class 1, page 1: the Motor channel. -/
def State.readMotor (s : State) : List Byte :=
  let f := s.fan
  [putByte f.resolved, putByte f.target] ++ putWord f.veff
    ++ [putByte f.stallCount, flagsByte [f.deferral.isSome], optByte f.remembered]

/-- Class 2, page 0: what a peer's STATUS frames left, each field in its STATUS layout (section 11.5). -/
def State.readPeerStatus (s : State) (r : PeerRecord) : List Byte :=
  [putByte r.state.code, putByte r.missed] ++ putWord r.requests.toNat
    ++ [putByte (pack [(r.dimmer, 6), (r.fanStep, 2)])]
    ++ putWord r.demand
    ++ [putByte r.supply,
        putByte (stateByte r.shed r.station r.ign r.battery.isSome r.posA.isSome r.posB.isSome),
        putByte (summaryByte r.faults r.bulbLeft r.bulbRight),
        flagsByte [r.bulbRight, r.bulbLeft]]
    ++ ((r.battery.map putSigned).getD [s.freeAt 0, s.freeAt 1])

/-- Free bytes in place of an absent identity field. -/
def State.freeBytes (s : State) (n : Nat) : List Byte := (List.range n).map s.freeAt

/-- Class 2, page 1: what a peer's ANNOUNCE left, the role flags packed from bit 0 in the order of R26, and which optional
fields are present. -/
def State.readPeerIdentity (s : State) (r : PeerRecord) : List Byte :=
  ((r.uid.map putUid).getD (s.freeBytes 8))
    ++ ((r.checksum.map fun c => putWord c.toNat).getD (s.freeBytes 2))
    ++ [(r.roles.map fun x => flagsByte [x.shunt, x.gauges, x.publishes.1, x.publishes.2]).getD (s.freeAt 0),
        flagsByte [r.uid.isSome, r.checksum.isSome, r.roles.isSome, r.battery.isSome, r.posA.isSome, r.posB.isSome]]

/-- Class 2, page 2: the published positions and the table's two counts. -/
def State.readPeerPositions (s : State) (r : PeerRecord) : List Byte :=
  positionBytes (r.posA.map putPosition) ++ positionBytes (r.posB.map putPosition) ++ putWord s.peers.changed
    ++ putWord s.peers.inconsistent

/-- Class 3: a gauge (R172). -/
def State.readGauge (s : State) (i : Fin 4) : List Byte :=
  let g := s.gauges.drives[i]
  [putByte s.cfg.gauges[i].kind.code, putByte g.status.code] ++ putSigned g.source ++ putSigned g.target
    ++ putSigned g.displayed ++ putWord g.duty ++ [putByte (pack [(g.direction.code, 2), (flagBit g.under, 1)])]

/-- Class 4: the line counters, with the sub-state and the run on page 0. -/
def State.readLine (s : State) (page : Nat) : List Byte :=
  let c := s.line.counters
  if page = 0 then
    putWord c.framesSent ++ putWord c.arbitrationLosses ++ putWord c.collisions ++ putWord c.objectionsReceived
      ++ [putByte s.line.sub.code, putByte s.line.run]
  else putWord c.objectionsRaised ++ putWord c.checkErrors ++ putWord c.framesDropped ++ putWord c.isolationEntries

/-- Class 5: the shed status, with the flash cycle (R143). The own bulb-out flags keep their STATUS layout, left above
right (section 11.5). -/
def State.readShed (s : State) : List Byte :=
  let u := s.supply
  let f := s.flash
  putWord (pack [(u.a, 2), (u.b, 2), (u.c, 2), (u.d, 1)])
    ++ [putByte (pack [(u.localLevel, 2), (u.effective, 2)]), flagsByte [u.crank, u.thermal]]
    ++ putWord (pack [(u.orders.one.code, 2), (u.orders.two.code, 2), (u.orders.three.code, 2),
      (flagBit u.holds.one.on, 1), (flagBit u.holds.two.on, 1), (flagBit u.holds.three.on, 1)])
    ++ putWord u.harness ++ putQuad u.drain
    ++ [flagsByte [u.drainOver],
        putByte (pack [(f.phase.code, 2), (sideSetCode f.sides, 2), (flagBit f.fast, 1),
          (flagBit (f.ownBulb .right), 1), (flagBit (f.ownBulb .left), 1)])]

/-- The remaining time of the quiet timer in whole seconds: the whole period while it runs, since the READ itself has
reloaded it (R178, R184), and a free byte while it is stopped. -/
def State.quietByte (s : State) : Byte :=
  match s.ctl.quiet with
  | some ms => putByte (ms / 1000)
  | none => s.freeAt 0

/-- Class 6: the station record (R183). -/
def State.readStation (s : State) : List Byte :=
  [putByte s.ctl.cause.code, optByte s.ctl.inputIndex] ++ putWord s.ctl.clock
    ++ [putByte s.ctl.state.code, flagsByte [s.ctl.join.isSome], s.quietByte,
        putByte (pack [(s.straps.number, 4), (flagBit s.straps.sixVolt, 1)]),
        flagsByte [s.cfg.isDefault], putByte s.cfg.clamped]
    ++ putWord s.svc.ignored
    ++ [putByte (pack [(s.faults.entries.length, 4), (flagBit s.faults.overflow, 1)])]

/-- The bytes of a fault entry (class 7). -/
def FaultEntry.bytes (e : FaultEntry) : List Byte :=
  [putByte e.kind.code, optByte e.index] ++ putWord e.first ++ [putByte e.occurrences, flagsByte [e.acked]]

/-- The values of an item, `none` when the class, index or page is out of range (R186). A class without pages of its
own takes page 0 (notes/assumptions/18.md). -/
def State.readItem (s : State) (cls index page : Nat) : Option (List Byte) :=
  match cls with
  | 0 => if index ≤ 15 ∧ page = 0 then some (s.readMeasurement index) else none
  | 1 =>
    if index ≤ 7 then
      if page = 0 then some (s.readChannel (Fin.ofNat 8 index))
      else if page = 1 ∧ s.isMotor (Fin.ofNat 8 index) = true then some s.readMotor
      else none
    else none
  | 2 =>
    match s.peers.find index, page with
    | some r, 0 => some (s.readPeerStatus r)
    | some r, 1 => some (s.readPeerIdentity r)
    | some r, 2 => some (s.readPeerPositions r)
    | _, _ => none
  | 3 => if index ≤ 3 ∧ page = 0 then some (s.readGauge (Fin.ofNat 4 index)) else none
  | 4 => if index = 0 ∧ page ≤ 1 then some (s.readLine page) else none
  | 5 => if index = 0 ∧ page = 0 then some s.readShed else none
  | 6 => if index = 0 ∧ page = 0 then some s.readStation else none
  | 7 => if page = 0 then (s.faults.entries[index]?).map FaultEntry.bytes else none
  | _ => none

end Sys2Proof.Machine
end

