-- ==== Sys2Proof/Machine/ServiceCommands.lean ====
section
/-! DEFINITION. The commands of the service tool (chapter 11): the taking of a SERVICE frame (R184), the REPLY and its
result codes in the order of R185's checks, and each command's effect (R103, R186 to R190, R193). -/

namespace Sys2Proof.Machine

/-- The result codes of a REPLY (R185, Formats). -/
inductive ResultCode where
  | ok | notInSetup | busy | badArgument | refused | unknown
  deriving DecidableEq, Repr

/-- The value of a result code in a REPLY (Formats). -/
def ResultCode.code : ResultCode → Nat
  | .ok => 0 | .notInSetup => 1 | .busy => 2 | .badArgument => 3 | .refused => 4 | .unknown => 5

/-- Byte 0 of a REPLY: the result code and the command's echo. -/
def replyHead (result : ResultCode) (command : Nat) : Byte := putByte (result.code * 16 + command)

/-- A REPLY is queued (R17, R185). -/
def State.reply (s : State) (command : Nat) (result : ResultCode) (data : List Byte) : State :=
  s.withLine (s.line.putReply (replyHead result command :: data) false)

/-- A REPLY that would need a full slot: the frame is ignored and counted (R184). -/
def State.ignore (s : State) : State := s.withSvc { s.svc with ignored := satInc 65535 s.svc.ignored }

/-- The frame is addressed to this station's number. -/
def State.addressed (s : State) (target : Fin 16) : Bool := decide (target.val = s.straps.number)

/-- The station takes the command (R184): its own number, or 15 for a command that may be broadcast. A strap-invalid
station takes none. -/
def State.takes (s : State) (target : Fin 16) (broadcast : Bool) : Bool :=
  !s.strapInvalid && (s.addressed target || (broadcast && decide (target.val = 15)))

/-- The quiet timer at a frame addressed to the station or to 15, taken or not (R178, R184). -/
def State.heard (s : State) (target : Fin 16) : State :=
  if s.addressed target || decide (target.val = 15) then s.reloadQuiet else s

/-- A SERVICE frame ends unobjected (R12, R184): `serve` is the command's effect when the station takes it. A payload
longer than R6 allows is objected to. -/
def State.service (s : State) (target : Fin 16) (broadcast : Bool) (args : List Byte) (serve : State → State) : State :=
  if s.receives then
    if serviceArgsOk args then
      let t := (s.setView .busy).heard target
      if t.takes target broadcast then serve t else t
    else (s.setView .busy).raiseObjection
  else s

/-- A command that needs a REPLY slot (R184, notes/assumptions/29.md). -/
def State.withSlot (s : State) (serve : State → State) : State := if s.line.replyFull then s.ignore else serve s

/-- IDENTIFY (R186): the REPLY and an ANNOUNCE. -/
def State.serveIdentify (s : State) (args : List Byte) : State :=
  if args.length = 0 then (s.reply 1 .ok (s.announceContent ++ [putByte s.ctl.state.code])).requestAnnounce
  else s.reply 1 .badArgument []

/-- IDENTIFY, code 1. -/
def execIdentify (target : Fin 16) (args : List Byte) (s : State) : Out :=
  .next (s.service target true args fun t => t.withSlot fun t => t.serveIdentify args)

/-- READ (R186). A READ moves on the counter of the free bytes. -/
def State.serveRead (s : State) (args : List Byte) : State :=
  match args with
  | [cls, index, page] =>
    match s.readItem cls.toNat index.toNat page.toNat with
    | some data => (s.reply 2 .ok data).withFree (s.free + freeStep)
    | none => s.reply 2 .badArgument []
  | _ => s.reply 2 .badArgument []

/-- READ, code 2. -/
def execRead (target : Fin 16) (args : List Byte) (s : State) : Out :=
  .next (s.service target false args fun t => t.withSlot fun t => t.serveRead args)

/-- The oldest unacknowledged entry from place `i` on, with its place (R193). -/
def oldestOpen : List FaultEntry → Nat → Option (FaultEntry × Nat)
  | [], _ => none
  | e :: t, i => if e.acked then oldestOpen t (i + 1) else some (e, i)

/-- FAULT CALL (R193): a broadcast draws a REPLY only from a station with an unacknowledged entry. One whose length does
not fit is answered BAD_ARGUMENT, broadcast too (R185, notes/assumptions/46.md). -/
def State.serveFaultCall (s : State) (target : Fin 16) (args : List Byte) : State :=
  if args.length = 0 then
    match oldestOpen s.faults.entries 0 with
    | some (e, place) => s.reply 3 .ok (e.bytes ++ [putByte place])
    | none => if s.addressed target then s.reply 3 .ok [] else s
  else s.reply 3 .badArgument []

/-- FAULT_CALL, code 3. -/
def execFaultCall (target : Fin 16) (args : List Byte) (s : State) : Out :=
  .next (s.service target true args fun t => t.withSlot fun t => t.serveFaultCall target args)

/-- The list with the entry at a place acknowledged. -/
def ackAt : List FaultEntry → Nat → List FaultEntry
  | [], _ => []
  | e :: t, 0 => { e with acked := true } :: t
  | e :: t, n + 1 => e :: ackAt t n

/-- FAULT ACK (R193). -/
def State.serveFaultAck (s : State) (args : List Byte) : State :=
  match args with
  | [place] =>
    if place.toNat < s.faults.entries.length then
      (s.withFaults { s.faults with entries := ackAt s.faults.entries place.toNat }).reply 4 .ok []
    else s.reply 4 .badArgument []
  | _ => s.reply 4 .badArgument []

/-- FAULT_ACK, code 4. -/
def execFaultAck (target : Fin 16) (args : List Byte) (s : State) : Out :=
  .next (s.service target false args fun t => t.withSlot fun t => t.serveFaultAck args)

/-- FAULT CLEAR (R193). -/
def State.serveFaultClear (s : State) (args : List Byte) : State :=
  if args.length = 0 then
    (s.withFaults ⟨s.faults.entries.filter fun e => !e.acked, false⟩).reply 5 .ok []
  else s.reply 5 .badArgument []

/-- FAULT_CLEAR, code 5. -/
def execFaultClear (target : Fin 16) (args : List Byte) (s : State) : Out :=
  .next (s.service target false args fun t => t.withSlot fun t => t.serveFaultClear args)

/-- The conditions of SETUP ENTER (R187). -/
def State.maySetup (s : State) : Bool := decide (s.ctl.state = .standby) && !s.res.ign && s.res.eff.quiet

/-- SETUP ENTER (R187). -/
def State.serveSetupEnter (s : State) (args : List Byte) : State :=
  if args.length ≠ 0 then s.reply 6 .badArgument []
  else if s.ctl.state = .setup then s.reply 6 .ok []
  else if s.maySetup then (s.reply 6 .ok []).enterSetup
  else s.reply 6 .refused []

/-- SETUP_ENTER, code 6. -/
def execSetupEnter (target : Fin 16) (args : List Byte) (s : State) : Out :=
  .next (s.service target false args fun t => t.withSlot fun t => t.serveSetupEnter args)

/-- The bytes of a STORE WRITE at their offset, when they fit below the check (R188). A write of the low half runs on into
the high one (notes/assumptions/55.md). -/
def storeBytes (base : Nat) (args : List Byte) : Option (Nat × List Byte) :=
  match args with
  | [] => none
  | offset :: data =>
    if 1 ≤ data.length ∧ data.length ≤ 6 ∧ base + offset.toNat + data.length ≤ 510 then
      some (base + offset.toNat, data)
    else none

/-- STORE WRITE (R188), `base` being the half's first offset. -/
def State.serveStoreWrite (s : State) (command base : Nat) (args : List Byte) : State :=
  if s.ctl.state ≠ .setup then s.reply command .notInSetup []
  else if s.svc.programming then s.reply command .busy []
  else match storeBytes base args with
    | none => s.reply command .badArgument []
    | some w =>
      (s.withSvc { s.svc with staging := s.svc.staging.map fun m => m.writeAll w.1 w.2 }).reply command .ok []

/-- STORE_WRITE_LOW_HALF, code 7. -/
def execStoreWriteLowHalf (target : Fin 16) (args : List Byte) (s : State) : Out :=
  .next (s.service target false args fun t => t.withSlot fun t => t.serveStoreWrite 7 0 args)

/-- STORE_WRITE_HIGH_HALF, code 8. -/
def execStoreWriteHighHalf (target : Fin 16) (args : List Byte) (s : State) : Out :=
  .next (s.service target false args fun t => t.withSlot fun t => t.serveStoreWrite 8 256 args)

/-- The bytes of the staging image. -/
def State.stagingBytes (s : State) : List Byte := (s.svc.staging.getD ⟨[]⟩).bytes 512

/-- STORE COMMIT (R189, R190): a valid image gets its check and programming begins; the OK REPLY follows at its end.
Arguments draw BAD_ARGUMENT without an offset (notes/assumptions/52.md). -/
def State.serveStoreCommit (s : State) (args : List Byte) : State :=
  if s.ctl.state ≠ .setup then s.reply 9 .notInSetup []
  else if s.svc.programming then s.reply 9 .busy []
  else if args.length ≠ 0 then s.reply 9 .badArgument []
  else match structuralError s.stagingBytes with
    | some offset => s.reply 9 .badArgument (putWord offset)
    | none => s.withSvc { s.svc with staging := s.svc.staging.map Memory.withCheck, programming := true }

/-- STORE_COMMIT, code 9. -/
def execStoreCommit (target : Fin 16) (args : List Byte) (s : State) : Out :=
  .next (s.service target false args fun t => t.withSlot fun t => t.serveStoreCommit args)

/-- PROGRAMMING_END (R190). -/
def execProgrammingEnd (s : State) : Out :=
  .next (if s.up = true ∧ s.svc.programming = true then
      ((s.withStore s.svc.staging).withSvc { s.svc with programming := false }).withSlot
        fun t => t.reply 9 .ok []
    else s)

/-- A channel driven in Test (R103, R156): its state, for the Motor channel the fan's. -/
def State.enterTest (s : State) (i : Fin 8) (duty ms : Nat) : State :=
  let c := s.out.channels[i]
  if s.isMotor i then
    (s.setChannel i { c with duty := duty, testTimer := some ms }).withFan (s.fan.rest .test)
  else if c.state = .test then s.setChannel i { c with duty := duty, testTimer := some ms }
  else s.setChannel i { c.goTo .test with duty := duty, testTimer := some ms }

/-- TEST OUTPUT (R103, R186). `before` is the state before the command. -/
def State.serveTestOutput (s before : State) (args : List Byte) : State :=
  if s.ctl.state ≠ .setup then s.reply 10 .notInSetup []
  else if args.length = 5 ∧ byteAt args 0 ≤ 7 ∧ wordAt args 1 ≤ 1000 ∧ 1 ≤ wordAt args 3 ∧ wordAt args 3 ≤ 5000 then
    ((s.reply 10 .ok []).enterTest (Fin.ofNat 8 (byteAt args 0)) (wordAt args 1) (wordAt args 3)).settle before false
  else s.reply 10 .badArgument []

/-- TEST_OUTPUT, code 10. -/
def execTestOutput (target : Fin 16) (args : List Byte) (s : State) : Out :=
  .next (s.service target false args fun t => t.withSlot fun t => t.serveTestOutput s args)

/-- The OK REPLY that orders a service restart when it leaves the queue; an Isolated station orders it at once
(R187). -/
def State.replyRestart (s : State) (command : Nat) : State :=
  let t := s.withLine (s.line.putReply [replyHead .ok command] true)
  if s.line.sub = .isolated then t.orderRestart else t

/-- SETUP EXIT (R187). -/
def State.serveSetupExit (s : State) (args : List Byte) : State :=
  if s.ctl.state ≠ .setup then s.reply 11 .notInSetup []
  else if args.length ≠ 0 then s.reply 11 .badArgument []
  else s.replyRestart 11

/-- SETUP_EXIT, code 11. -/
def execSetupExit (target : Fin 16) (args : List Byte) (s : State) : Out :=
  .next (s.service target false args fun t => t.withSlot fun t => t.serveSetupExit args)

/-- RESTART (R187). -/
def State.serveRestart (s : State) (args : List Byte) : State :=
  if args.length ≠ 0 then s.reply 12 .badArgument [] else s.replyRestart 12

/-- RESTART, code 12. -/
def execRestart (target : Fin 16) (args : List Byte) (s : State) : Out :=
  .next (s.service target true args fun t => t.withSlot fun t => t.serveRestart args)

/-- UNKNOWN_COMMAND (R185): a code that names no command (notes/assumptions/30.md). -/
def execUnknownCommand (target : Fin 16) (code : Fin 16) (args : List Byte) (s : State) : Out :=
  .next (if commandCodeNamed code then s
    else s.service target false args fun t => t.withSlot fun t => t.reply code.val .unknown [])

end Sys2Proof.Machine
end

