-- ==== Sys2Proof/Machine/StationCommands.lean ====
section
/-! DEFINITION. Station Control's commands: power, the resets, the join window, sleep and the wakes (R175 to R183). -/

namespace Sys2Proof.Machine

/-- POWER_FAIL (R175): VBAT falls below 3.5 V and the station is held in reset. -/
def execPowerFail (s : State) : Out := .next (if s.ctl.powered then s.powerDown else s)

/-- POWER_ON_RESET (R175): VBAT reaches 3.5 V. -/
def execPowerOnReset (straps : StrapPins) (s : State) : Out :=
  .next (s.powerDown.takeReset straps Supply.init .powerOn)

/-- SERVICE_RESTART (R175, R187): taken when it has been ordered; the drain accumulator and its flag are kept. -/
def execServiceRestart (straps : StrapPins) (s : State) : Out :=
  .next (if s.ctl.powered = true ∧ s.svc.restartOrdered = true then
      s.takeReset straps { Supply.init with drain := s.supply.drain, drainOver := s.supply.drainOver } .service
    else s)

/-- The hold timer of a class started with the stagger delay; a delay of 0 ms expires at once (R138, R139). -/
def startHold (delay : Nat) : Hold := if delay = 0 then ⟨false, none⟩ else ⟨true, some delay⟩

/-- JOIN_WINDOW_EXPIRY (R176): the station leaves Starting for Awake or Standby by IGN. The join window of a
strap-invalid station does not end (R174, notes/assumptions/28.md). -/
def execJoinWindowExpiry (s : State) : Out :=
  .next (if s.up = true ∧ s.strapInvalid = false ∧ s.ctl.state = .starting ∧ s.ctl.join.isSome = true then
      let t := s.withCtl { s.ctl with join := none }
      let t := if t.res.ign then t.enterAwake else t.enterStandby
      let h := startHold s.stagger
      (t.withSupply { t.supply with holds := ⟨h, h, h⟩ }).settle s false
    else s)

/-- A Present peer announces Awake (R179). -/
def PeerTable.anyAwake (t : PeerTable) : Bool := t.records.any fun r => r.isPresent && decide (r.station = .awake)

/-- The sleep conditions (R179). -/
def State.maySleep (s : State) : Bool := s.res.eff.quiet && !s.res.ign && !s.peers.anyAwake

/-- QUIET_TIMER_EXPIRY (R179): Asleep when the conditions hold, else the timer is reloaded. -/
def execQuietTimerExpiry (s : State) : Out :=
  .next (if s.up = true ∧ s.ctl.state = .standby ∧ s.ctl.quiet.isSome = true then
      if s.maySleep then s.enterAsleep else s.reloadQuiet
    else s)

/-- The station sleeps with no wake decided (R181). -/
def State.sleeping (s : State) : Bool :=
  s.live && decide (s.ctl.state = .asleep) && decide (s.ctl.wake = .none)

/-- LINE_WAKE (R181): Starting at once. -/
def execLineWake (s : State) : Out := .next (if s.sleeping then s.wakeUp .line none else s)

/-- A local wake: the Resume Record is written and the wake pulse begins (R181). -/
def State.wakeLocally (s : State) (cause : ResumeCause) (index : Option Nat) : State :=
  s.withCtl { s.ctl with wake := .pulse, cause := cause, inputIndex := index }

/-- A sleep reference, undetermined counting as open (R54, notes/assumptions/25.md). -/
def Contact.settled : Contact → Contact
  | .undetermined => .opened
  | .opened => .opened
  | .closed => .closed

/-- A wake-enabled input's raw state differs from its sleep reference (R54). -/
def State.inputWakes (s : State) (i : Fin 8) : Bool :=
  s.cfg.switches[i].enabled && s.cfg.switches[i].wakeEnable && decide (s.raw i ≠ s.sw.inputs[i].sleepRef.settled)

/-- INPUT_WAKE (R181): the input has differed for 20 ms. -/
def execInputWake (input : Fin 8) (s : State) : Out :=
  .next (if s.sleeping = true ∧ s.inputWakes input = true then s.wakeLocally .input (some input.val) else s)

/-- IGN_WAKE (R181): the IGN pin has been on for 20 ms. -/
def execIgnWake (s : State) : Out :=
  .next (if s.sleeping = true ∧ s.pins.ign = true then s.wakeLocally .ign none else s)

/-- WAKE_PULSE_END (R181): the 2 ms pulse ends and the 20 ms wait begins. -/
def execWakePulseEnd (s : State) : Out :=
  .next (if s.live = true ∧ s.ctl.state = .asleep ∧ s.ctl.wake = .pulse then
      s.withCtl { s.ctl with wake := .wait }
    else s)

/-- WAKE_WAIT_EXPIRY (R181): Starting with the cause already written. -/
def execWakeWaitExpiry (s : State) : Out :=
  .next (if s.live = true ∧ s.ctl.state = .asleep ∧ s.ctl.wake = .wait then s.wakeUp s.ctl.cause s.ctl.inputIndex
    else s)

/-- STATION_CLOCK_TICK (R183). -/
def execStationClockTick (s : State) : Out :=
  .next (if s.up then s.withCtl { s.ctl with clock := satInc 65535 s.ctl.clock } else s)

end Sys2Proof.Machine
end

