-- ==== Sys2Proof/Machine/SupplyCommands.lean ====
section
/-! DEFINITION. The timers of the Supply Manager (R126 to R132, R135, R138). -/

namespace Sys2Proof.Machine

/-- The effect of a persistence timer: raise to a level or lower to one (R126, R127, R128, R130). -/
def Supply.effect (u : Supply) : PersTimer → Supply
  | .entry1 => { u with a := max u.a 1 }
  | .entry2 => { u with a := max u.a 2 }
  | .entry3 => { u with a := max u.a 3 }
  | .exit1 => { u with a := min u.a 0 }
  | .exit2 => { u with a := min u.a 1 }
  | .exit3 => { u with a := min u.a 2 }
  | .raise1 => { u with b := max u.b 1 }
  | .raise2 => { u with b := max u.b 2 }
  | .lower1 => { u with b := min u.b 1 }
  | .lower0 => { u with b := min u.b 0 }
  | .overCapacity => { u with d := max u.d 1 }
  | .underCapacity => { u with d := min u.d 0 }

/-- The timer runs and advances: crank hold freezes contributor (a)'s (R127). -/
def Supply.advances (u : Supply) (t : PersTimer) : Bool :=
  decide (u.timer t = .running) && !(persOfSupply t && u.crank)

/-- PERSISTENCE_TIMER_EXPIRY (R126). -/
def execPersistenceTimerExpiry (timer : PersTimer) (s : State) : Out :=
  .next (if s.up = true ∧ s.supply.advances timer = true then
      (s.withSupply ((s.supply.setTimer timer .expired).effect timer)).settle s false
    else s)

/-- The greatest value of the drain accumulator (R131). -/
def drainMax : Nat := 2147483647

/-- An amount taken by the drain accumulator: not below 0, and with the overflow flag when it would pass the top
(R131). -/
def Supply.takeDrain (u : Supply) (amount : Int) : Supply :=
  let x := (u.drain : Int) + amount
  { u with drain := min (max x 0).toNat drainMax, drainOver := u.drainOver || decide ((drainMax : Int) < x) }

/-- The amount of a drain tick, `none` in case 3 (R131). -/
def State.drainAmount (s : State) : Option Int :=
  if s.cfg.shunt then some (if s.meas.battery.valid then -s.meas.battery.avg else 0)
  else if s.peers.battery.isSome then none
  else some s.supply.harness

/-- The drain allowance in dA·s (R132). -/
def State.allowance (s : State) : Nat := s.cfg.allowance * 36000

/-- A drain tick (R131, R132). -/
def State.drainStep (s : State) : State :=
  match s.drainAmount with
  | none => s.withSupply { s.supply with c := 0 }
  | some x =>
    let u := s.supply.takeDrain x
    if s.allowance < u.drain then
      let t := s.withSupply { u with c := 3 }
      if s.supply.c = 0 then t.addFault .drainShed none else t
    else s.withSupply u

/-- DRAIN_TICK (R131). -/
def execDrainTick (s : State) : Out :=
  .next (if s.up = true ∧ s.supply.drainTick.isSome = true then
      let t := s.drainStep
      (t.withSupply { t.supply with drainTick := some 1000 }).settle s false
    else s)

/-- CRANK_RELEASE_EXPIRY (R135). -/
def execCrankReleaseExpiry (s : State) : Out :=
  .next (if s.up = true ∧ s.supply.release.isSome = true then
      (s.withSupply { s.supply with crank := false, release := none }).settle s false
    else s)

/-- HOLD_TIMER_END (R138). -/
def execHoldTimerEnd (cls : HeldClass) (s : State) : Out :=
  .next (if s.up = true ∧ (s.supply.holds.get cls).timer.isSome = true then
      (s.withSupply { s.supply with holds := s.supply.holds.set cls ⟨false, none⟩ }).settle s false
    else s)

end Sys2Proof.Machine
end

