-- ==== Sys2Proof/Machine/Dispatch.lean ====
section
/-! DEFINITION. The dispatcher: one arm per command, one direct call of its meaning. -/

namespace Sys2Proof.Machine

/-- A command's effect on everything but the queue of waiting commands. -/
def exec (i : Instr) (s : State) : Host.Outcome State Fault Refusal :=
  match i with
  | .lineBreak => Sys2Proof.Machine.execLineBreak s
  | .truncatedFrame => Sys2Proof.Machine.execTruncatedFrame s
  | .joinStartBit => Sys2Proof.Machine.execJoinStartBit s
  | .frameOffer => Sys2Proof.Machine.execFrameOffer s
  | .arbitrationLoss => Sys2Proof.Machine.execArbitrationLoss s
  | .collision => Sys2Proof.Machine.execCollision s
  | .attemptObjected => Sys2Proof.Machine.execAttemptObjected s
  | .attemptSuccess => Sys2Proof.Machine.execAttemptSuccess s
  | .objectedFrame claim head payload check framing => Sys2Proof.Machine.execObjectedFrame claim head payload check framing s
  | .statusFrame sender payload => Sys2Proof.Machine.execStatusFrame sender payload s
  | .announceFrame sender payload => Sys2Proof.Machine.execAnnounceFrame sender payload s
  | .flashFrame sender payload => Sys2Proof.Machine.execFlashFrame sender payload s
  | .replyFrame sender payload => Sys2Proof.Machine.execReplyFrame sender payload s
  | .stuckLine => Sys2Proof.Machine.execStuckLine s
  | .isolationWaitExpiry => Sys2Proof.Machine.execIsolationWaitExpiry s
  | .periodicStatusTimer => Sys2Proof.Machine.execPeriodicStatusTimer s
  | .statusSpacingEnd => Sys2Proof.Machine.execStatusSpacingEnd s
  | .ageingTimerExpiry number => Sys2Proof.Machine.execAgeingTimerExpiry number s
  | .switchRawChange input level => Sys2Proof.Machine.execSwitchRawChange input level s
  | .debounceExpiry input => Sys2Proof.Machine.execDebounceExpiry input s
  | .holdTimerExpiry input => Sys2Proof.Machine.execHoldTimerExpiry input s
  | .ignPinChange level => Sys2Proof.Machine.execIgnPinChange level s
  | .ignDebounceExpiry => Sys2Proof.Machine.execIgnDebounceExpiry s
  | .passTimer => Sys2Proof.Machine.execPassTimer s
  | .sample reading => Sys2Proof.Machine.execSample reading s
  | .inrushWindowExpiry channel => Sys2Proof.Machine.execInrushWindowExpiry channel s
  | .runTimerExpiry channel => Sys2Proof.Machine.execRunTimerExpiry channel s
  | .overTimerExpiry channel => Sys2Proof.Machine.execOverTimerExpiry channel s
  | .retryWaitExpiry channel => Sys2Proof.Machine.execRetryWaitExpiry channel s
  | .openLoadTimerExpiry channel => Sys2Proof.Machine.execOpenLoadTimerExpiry channel s
  | .testDurationExpiry channel => Sys2Proof.Machine.execTestDurationExpiry channel s
  | .halfTimerExpiry => Sys2Proof.Machine.execHalfTimerExpiry s
  | .persistenceTimerExpiry timer => Sys2Proof.Machine.execPersistenceTimerExpiry timer s
  | .drainTick => Sys2Proof.Machine.execDrainTick s
  | .crankReleaseExpiry => Sys2Proof.Machine.execCrankReleaseExpiry s
  | .holdTimerEnd cls => Sys2Proof.Machine.execHoldTimerEnd cls s
  | .rampUpdate => Sys2Proof.Machine.execRampUpdate s
  | .fanRunTimerExpiry => Sys2Proof.Machine.execFanRunTimerExpiry s
  | .spinUpGraceExpiry => Sys2Proof.Machine.execSpinUpGraceExpiry s
  | .stallTimerExpiry => Sys2Proof.Machine.execStallTimerExpiry s
  | .stallWaitExpiry => Sys2Proof.Machine.execStallWaitExpiry s
  | .fanRetryWaitExpiry => Sys2Proof.Machine.execFanRetryWaitExpiry s
  | .deferralEnd => Sys2Proof.Machine.execDeferralEnd s
  | .gaugeUpdate => Sys2Proof.Machine.execGaugeUpdate s
  | .powerFail => Sys2Proof.Machine.execPowerFail s
  | .powerOnReset straps => Sys2Proof.Machine.execPowerOnReset straps s
  | .serviceRestart straps => Sys2Proof.Machine.execServiceRestart straps s
  | .joinWindowExpiry => Sys2Proof.Machine.execJoinWindowExpiry s
  | .quietTimerExpiry => Sys2Proof.Machine.execQuietTimerExpiry s
  | .lineWake => Sys2Proof.Machine.execLineWake s
  | .inputWake input => Sys2Proof.Machine.execInputWake input s
  | .ignWake => Sys2Proof.Machine.execIgnWake s
  | .wakePulseEnd => Sys2Proof.Machine.execWakePulseEnd s
  | .wakeWaitExpiry => Sys2Proof.Machine.execWakeWaitExpiry s
  | .stationClockTick => Sys2Proof.Machine.execStationClockTick s
  | .identify target args => Sys2Proof.Machine.execIdentify target args s
  | .read target args => Sys2Proof.Machine.execRead target args s
  | .faultCall target args => Sys2Proof.Machine.execFaultCall target args s
  | .faultAck target args => Sys2Proof.Machine.execFaultAck target args s
  | .faultClear target args => Sys2Proof.Machine.execFaultClear target args s
  | .setupEnter target args => Sys2Proof.Machine.execSetupEnter target args s
  | .storeWriteLowHalf target args => Sys2Proof.Machine.execStoreWriteLowHalf target args s
  | .storeWriteHighHalf target args => Sys2Proof.Machine.execStoreWriteHighHalf target args s
  | .storeCommit target args => Sys2Proof.Machine.execStoreCommit target args s
  | .programmingEnd => Sys2Proof.Machine.execProgrammingEnd s
  | .testOutput target args => Sys2Proof.Machine.execTestOutput target args s
  | .setupExit target args => Sys2Proof.Machine.execSetupExit target args s
  | .restart target args => Sys2Proof.Machine.execRestart target args s
  | .unknownCommand target code args => Sys2Proof.Machine.execUnknownCommand target code args s
  | .lineIdle => Sys2Proof.Machine.execLineIdle s

end Sys2Proof.Machine
end

