-- ==== Sys2Proof/Safety.lean ====
section
/-! DEFINITION. What a run keeps: the conditions on a state that every step keeps, in the terms the claims use, each
with the rule that states it. -/

namespace Sys2Proof.Machine

/-- The state a command leaves, `none` when it stops. -/
def stateAfter (o : Out) : Option State :=
  match o with
  | .next s => some s
  | .fault _ => none
  | .refused _ => none

/-- A condition holds of a state a step answers. -/
def Kept (p : State → Prop) : Prop := ∀ s t : State, p s → step s = .next t → p t

/-- The store and the staging image are in their canonical form. -/
def State.BuffersWf (s : State) : Prop := s.store.all Memory.wf = true ∧ s.svc.staging.all Memory.wf = true

/-- Two FLASH entries: ages rise and the side sets differ (R13, R15). -/
def flashApart (x y : Entry) : Prop := x.age < y.age ∧ sideBits x.content ≠ sideBits y.content

/-- The Transmit Queue: at most two FLASH, of different side sets, and two REPLY, each kind in the order of its ages
(R13, R15); while Muted the STATUS,
ANNOUNCE and FLASH slots are empty (R14, R15, R19), and while Isolated the FLASH slots are (R15, R21). -/
structure State.QueueOk (s : State) : Prop where
  flashCount : s.line.queue.flash.length ≤ 2
  replyCount : s.line.queue.reply.length ≤ 2
  flashApart : s.line.queue.flash.Pairwise flashApart
  flashAges  : ∀ e ∈ s.line.queue.flash, e.age < s.line.queue.nextAge
  replyApart : s.line.queue.reply.Pairwise fun x y => x.age < y.age
  replyAges  : ∀ e ∈ s.line.queue.reply, e.age < s.line.queue.nextAge
  muted      : s.line.sub = .muted →
    s.line.queue.status = none ∧ s.line.queue.announce = none ∧ s.line.queue.flash = []
  isolated   : s.line.sub = .isolated → s.line.queue.flash = []

/-- The Peer Table holds one record for each number 0..14 but the station's own, ascending; none at a strap-invalid
station (R25). -/
def State.PeersOk (s : State) : Prop :=
  s.peers.records.map PeerRecord.number = (PeerTable.initRecords s.straps.number).map PeerRecord.number

/-- A record whose values count: Present or Stale (R27). -/
def PeerRecord.Counted (r : PeerRecord) : Prop := r.state = .present ∨ r.state = .stale

/-- A running station's Union, IGN, resolved fan step, resolved dimmer and panel level are those of its own inputs and
the peers that count (R55, R56, R57, R61). -/
structure State.ResolverOk (s : State) : Prop where
  union   : s.up = true → ∀ n : Nat, s.res.union.getLsbD n = true ↔
    s.sw.requests.getLsbD n = true ∨ ∃ r ∈ s.peers.records, r.Counted ∧ r.requests.getLsbD n = true
  ign     : s.up = true → (s.res.ign = true ↔ s.sw.ignAccepted = .closed ∨
    (s.cfg.ignFromLine = true ∧ ∃ r ∈ s.peers.records, r.state = .present ∧ r.ign = true))
  fanStep : s.up = true → s.sw.fanStep ≤ s.res.fanStep ∧
    (∀ r ∈ s.peers.records, r.Counted → r.fanStep ≤ s.res.fanStep) ∧
    (s.res.fanStep = s.sw.fanStep ∨ ∃ r ∈ s.peers.records, r.Counted ∧ s.res.fanStep = r.fanStep)
  dimmer  : s.up = true → s.res.dimmer ≤ s.sw.dimmer ∧
    (∀ r ∈ s.peers.records, r.Counted → s.res.dimmer ≤ r.dimmer) ∧
    (s.res.dimmer = s.sw.dimmer ∨ ∃ r ∈ s.peers.records, r.Counted ∧ s.res.dimmer = r.dimmer)
  panel   : s.up = true → (s.res.panel : Int) = roundDiv (((s.res.dimmer : Int) + 1) * 1000) 64

/-- A running station's Effective Function Set is the one the table after R56 gives for its Union, IGN, flash phase,
charge fault and effective shed level (R57 to R60); DIP_EFF and MAIN_EFF are never both set (R57). The battery current
reference is a Present peer's alone, a fault is found by it while the supply record is not valid too, and TELL_SHED stands
from the moment of a wake, as the model reads it (notes/assumptions/48.md, notes/assumptions/53.md,
notes/assumptions/49.md). -/
structure State.EffectiveOk (s : State) : Prop where
  beams     : ¬(s.res.eff.main = true ∧ s.res.eff.dip = true)
  lighting  : s.up = true → (s.res.eff.side ↔ s.res.union.getLsbD 0 ∨ s.res.union.getLsbD 1) ∧
    (s.res.eff.main ↔ (s.res.union.getLsbD 1 ∧ s.res.union.getLsbD 2) ∨ s.res.union.getLsbD 3) ∧
    (s.res.eff.dip ↔ s.res.union.getLsbD 1 ∧ ¬s.res.eff.main) ∧
    (s.res.eff.panel ↔ s.res.eff.side) ∧
    (s.res.eff.fogRear ↔ s.res.union.getLsbD 4 ∧ (s.res.eff.dip ∨ s.res.eff.main)) ∧
    (s.res.eff.fogFront ↔ s.res.union.getLsbD 5 ∧ s.res.eff.side)
  flashing  : s.up = true →
    (s.res.eff.flashL ↔ s.res.union.getLsbD 8 ∨ (s.res.union.getLsbD 6 ∧ s.res.ign ∧ ¬s.res.union.getLsbD 8)) ∧
    (s.res.eff.flashR ↔ s.res.union.getLsbD 8 ∨ (s.res.union.getLsbD 7 ∧ s.res.ign ∧ ¬s.res.union.getLsbD 8))
  passed    : s.up = true → (s.res.eff.stop ↔ s.res.union.getLsbD 9 ∧ s.res.ign) ∧
    (s.res.eff.rev ↔ s.res.union.getLsbD 10 ∧ s.res.ign) ∧ (s.res.eff.interior ↔ s.res.union.getLsbD 11) ∧
    (s.res.eff.horn ↔ s.res.union.getLsbD 12) ∧ (s.res.eff.aux ↔ s.res.union.getLsbD 13 ∧ s.res.ign) ∧
    (s.res.eff.ign ↔ s.res.ign)
  telltales : s.up = true →
    (s.res.eff.tellTurn ↔ s.flash.phase = .on ∧ (s.res.eff.flashL ∨ s.res.eff.flashR)) ∧
    (s.res.eff.tellMain ↔ s.res.eff.main) ∧ (s.res.eff.tellOil ↔ s.res.ign ∧ s.res.union.getLsbD 15) ∧
    (s.res.eff.tellShed ↔ 1 ≤ s.supply.effective)
  charge    : s.up = true → (s.res.eff.tellCharge ↔ s.res.ign ∧
    match s.batteryReference with
    | some i => i ≤ -10
    | none => s.meas.supply.valid ∧ s.meas.supply.avg < (if s.straps.sixVolt then 640 else 1280))

/-- The cycle's side set is empty exactly when the cycle is Idle, and the half timer runs exactly when it is not; where
the cycle runs, its side set is the effective side set (R58, R106, R110). -/
structure State.FlashOk (s : State) : Prop where
  sides     : s.flash.sides = none ↔ s.flash.phase = .idle
  half      : s.flash.half = none ↔ s.flash.phase = .idle
  effective : s.up = true → s.drives = true →
    s.flash.sides = sideSetFrom (effFlashL s.res.union s.res.ign) (effFlashR s.res.union s.res.ign)

/-- In Asleep every channel and gauge drive is off and the Transmit Queue is empty (R180). -/
structure State.StillAsleep (s : State) : Prop where
  channels : s.ctl.state = .asleep → ∀ i : Fin 8, s.out.channels[i].state = .off ∧ s.out.channels[i].duty = 0
  fan      : s.ctl.state = .asleep → s.fan.state = .off
  gauges   : s.ctl.state = .asleep → ∀ i : Fin 4, s.gauges.drives[i].duty = 0 ∧ s.gauges.drives[i].direction = .none
  queue    : s.ctl.state = .asleep → s.line.queue.status = none ∧ s.line.queue.announce = none
    ∧ s.line.queue.flash = [] ∧ s.line.queue.reply = [] ∧ s.line.inFlight = none

/-- Every channel duty and gauge duty lies within 0..1000 (R87, R168, R169). -/
def State.DutiesOk (s : State) : Prop :=
  (∀ i : Fin 8, s.out.channels[i].duty ≤ 1000) ∧ (∀ i : Fin 4, s.gauges.drives[i].duty ≤ 1000)

/-- The Motor channel turns only while there is one, in a state whose channels act, and while crank hold is not in
force (R145, R153, R156); while its class is ordered shed it turns only in a deferral (R153, R155); where channels do
not act it is Off or in Test; its effective voltage is 0 while it does not turn (R146); its target step is the resolved
step, capped at 1 while the cap stands: under a limited order (R145), and through a deferred shed order as it stood
(R155, notes/assumptions/56.md); its duty is the effective voltage over the supply while it turns, and 0
while it does not (R147). -/
structure State.FanOk (s : State) : Prop where
  turning  : s.fan.state = .ramping ∨ s.fan.state = .running →
    s.motor.isSome = true ∧ s.supply.crank = false ∧ s.drives = true
  deferred : ∀ m, s.motor = some m → s.fan.state = .ramping ∨ s.fan.state = .running →
    s.supply.order s.cfg.channels[m].cls = .shed → s.fan.deferral.isSome = true
  still    : s.drives = false → s.fan.state = .off ∨ s.fan.state = .test
  rest     : ¬(s.fan.state = .ramping ∨ s.fan.state = .running) → s.fan.veff = 0
  target   : s.up = true → ∀ m, s.motor = some m →
    s.fan.target = (if s.fan.capped then min s.res.fanStep 1 else s.res.fanStep)
  cap      : s.up = true → ∀ m, s.motor = some m →
    ((s.fan.state = .ramping ∨ s.fan.state = .running) ∧ s.supply.order s.cfg.channels[m].cls = .shed) ∨
      (s.fan.capped = true ↔ s.supply.order s.cfg.channels[m].cls = .limited)
  duty     : s.up = true → s.drives = true → ∀ m, s.motor = some m → (s.out.channels[m].duty : Int) =
    (if s.fan.state = .ramping ∨ s.fan.state = .running
      then min 1000 (roundDiv ((s.fan.veff : Int) * 1000) (s.vs s.vnom)) else 0)

/-- A running station's Local Request Set holds the targets of the switch inputs and Switch-mode senders that request
(R45 to R48, R53); its local fan-step request is the highest decoded position of the fan ladders, and its local dimmer
value the lowest value of the dimmer ladders (R51, R52). -/
structure State.InputsOk (s : State) : Prop where
  requests : s.up = true → ∀ n : Nat, n < 16 → (s.sw.requests.getLsbD n = true ↔
    (∃ i : Fin 8, s.cfg.switches[i].enabled = true ∧ s.cfg.switches[i].target = n ∧
      ((s.cfg.switches[i].mode = 0 ∧ s.sw.inputs[i].accepted = .closed) ∨
        (s.cfg.switches[i].mode = 1 ∧ s.sw.inputs[i].toggle = true) ∨
        (s.cfg.switches[i].mode = 2 ∧ (s.sw.inputs[i].accepted = .closed ∨ s.sw.inputs[i].hold.isSome = true)))) ∨
    (∃ i : Fin 4, s.cfg.senders[i].mode = .switch ∧ s.cfg.senders[i].target = n ∧ s.sw.senders[i].contact = .closed))
  fanStep  : s.up = true →
    (∀ i : Fin 4, s.cfg.senders[i].mode = .ladder → s.cfg.senders[i].target = 0 →
      s.sw.senders[i].position.getD 0 ≤ s.sw.fanStep) ∧
    (s.sw.fanStep = 0 ∨ ∃ i : Fin 4, s.cfg.senders[i].mode = .ladder ∧ s.cfg.senders[i].target = 0 ∧
      s.sw.senders[i].position = some s.sw.fanStep)
  dimmer   : s.up = true →
    (∀ i : Fin 4, s.cfg.senders[i].mode = .ladder → s.cfg.senders[i].target = 1 → s.sw.dimmer ≤ s.sw.senders[i].value) ∧
    s.sw.dimmer ≤ 63 ∧
    (s.sw.dimmer = 63 ∨ ∃ i : Fin 4, s.cfg.senders[i].mode = .ladder ∧ s.cfg.senders[i].target = 1 ∧
      s.sw.senders[i].value = s.sw.dimmer)

/-- The channel of this number flashes: its side's flash function is on and the cycle is not Idle (R84). -/
def State.Flashes (s : State) (i : Fin 8) : Prop :=
  (match s.cfg.channels[i].side with
    | .left => s.res.eff.flashL = true
    | .right => s.res.eff.flashR = true) ∧ s.flash.phase ≠ .idle

/-- A running station's channel commands are those R83 to R85 give; where channels act, a channel lights only under a
lit command, is Dark only under flash-off, waits in Off only under a hold (R88), stands in Shed, Locked or Test while
its class is ordered shed (R97, R100), leaves Shed when neither order nor hold keeps it (R101), and drives the duty of
R87. A channel of kind Off stays Off but for Test (R86). The Motor channel is the Fan Drive's (`FanOk`). That a limited
order caps a Lamp's command in Setup too is the model's choice (notes/assumptions/42.md), and that a Locked channel whose
command goes off under a shed order stands in Shed its reading (notes/assumptions/22.md). -/
structure State.ChannelsOk (s : State) : Prop where
  still    : ∀ i : Fin 8, s.cfg.channels[i].kind = .off →
    s.out.channels[i].state = .off ∨ s.out.channels[i].state = .test
  unused   : s.up = true → ∀ i : Fin 8, s.cfg.channels[i].kind = .off → s.out.channels[i].command = .off
  lampOff  : s.up = true → ∀ i : Fin 8, s.cfg.channels[i].kind = .lamp ∨ s.cfg.channels[i].kind = .plain →
    s.res.eff.byCode s.cfg.channels[i].function = false → s.out.channels[i].command = .off
  lampOn   : s.up = true → ∀ i : Fin 8, s.cfg.channels[i].kind = .lamp →
    s.res.eff.byCode s.cfg.channels[i].function = true → ∀ l : Nat,
    l = (if s.cfg.channels[i].function = codePanel then s.res.panel else s.cfg.channels[i].level) →
    s.out.channels[i].command = .steady (if s.supply.order s.cfg.channels[i].cls = .limited ∧ 500 < l then 500 else l)
  plainOn  : s.up = true → ∀ i : Fin 8, s.cfg.channels[i].kind = .plain →
    s.res.eff.byCode s.cfg.channels[i].function = true → s.out.channels[i].command = .steady 1000
  flashing : s.up = true → ∀ i : Fin 8, s.cfg.channels[i].kind = .flashLamp ∨ s.cfg.channels[i].kind = .stopTurn →
    s.Flashes i → s.out.channels[i].command = (if s.flash.phase = .on then .flashOn else .flashOff)
  flashOff : s.up = true → ∀ i : Fin 8, s.cfg.channels[i].kind = .flashLamp → ¬s.Flashes i →
    s.out.channels[i].command = .off
  stopTurn : s.up = true → ∀ i : Fin 8, s.cfg.channels[i].kind = .stopTurn → ¬s.Flashes i →
    s.out.channels[i].command = (if s.res.eff.stop = true then .steady 1000
      else if s.res.eff.side = true ∧ 0 < s.cfg.channels[i].tail then .steady s.cfg.channels[i].tail else .off)
  lit      : s.up = true → s.drives = true → ∀ i : Fin 8, s.cfg.channels[i].kind ≠ .motor →
    s.out.channels[i].state = .inrush ∨ s.out.channels[i].state = .on →
    s.out.channels[i].command = .flashOn ∨ ∃ l, s.out.channels[i].command = .steady l
  dark     : s.up = true → s.drives = true → ∀ i : Fin 8, s.cfg.channels[i].kind ≠ .motor →
    s.out.channels[i].state = .dark → s.out.channels[i].command = .flashOff
  waiting  : s.up = true → s.drives = true → ∀ i : Fin 8, s.cfg.channels[i].kind ≠ .motor →
    s.out.channels[i].state = .off →
    s.out.channels[i].command = .off ∨ s.supply.held s.cfg.channels[i].cls = true
  shed     : s.up = true → s.drives = true → ∀ i : Fin 8, s.cfg.channels[i].kind ≠ .motor →
    s.cfg.channels[i].kind ≠ .off → s.supply.order s.cfg.channels[i].cls = .shed →
    s.out.channels[i].state = .shed ∨ s.out.channels[i].state = .locked ∨ s.out.channels[i].state = .test
  released : s.up = true → s.drives = true → ∀ i : Fin 8, s.cfg.channels[i].kind ≠ .motor →
    s.out.channels[i].state = .shed →
    s.supply.order s.cfg.channels[i].cls = .shed ∨ s.supply.held s.cfg.channels[i].cls = true
  duty     : s.up = true → s.drives = true → ∀ i : Fin 8, s.cfg.channels[i].kind ≠ .motor →
    (s.out.channels[i].duty : Int) =
      if s.out.channels[i].state = .inrush ∨ s.out.channels[i].state = .on then
        match s.out.channels[i].command with
        | .flashOn => 1000
        | .steady l => if 1000 ≤ l then 1000 else
          min 1000 (roundDiv ((l : Int) * (s.vnom * s.vnom)) (s.vs s.vnom * s.vs s.vnom))
        | .off => 0
        | .flashOff => 0
      else 0

/-- The Fault List holds at most 8 entries, no two of one kind and index, each with 1..255 occurrences (R192). -/
structure State.FaultsOk (s : State) : Prop where
  count       : s.faults.entries.length ≤ 8
  apart       : s.faults.entries.Pairwise fun x y => ¬(x.kind = y.kind ∧ x.index = y.index)
  occurrences : ∀ e ∈ s.faults.entries, 1 ≤ e.occurrences ∧ e.occurrences ≤ 255

/-- A strap-invalid station stays in Starting and drives nothing: nothing is in flight, the flash cycle is Idle, the
channels and the fan are off and the gauges at earth (R174). -/
structure State.InvalidStill (s : State) : Prop where
  state    : s.strapInvalid = true → s.ctl.state = .starting
  inFlight : s.strapInvalid = true → s.line.inFlight = none
  flash    : s.strapInvalid = true → s.flash.phase = .idle
  channels : s.strapInvalid = true → ∀ i : Fin 8, s.out.channels[i].state = .off ∧ s.out.channels[i].duty = 0
  fan      : s.strapInvalid = true → s.fan.state = .off
  gauges   : s.strapInvalid = true →
    ∀ i : Fin 4, s.gauges.drives[i].duty = 0 ∧ s.gauges.drives[i].direction = .none

/-- A running station's demand is the sum of the valid averaged currents of its channels in Inrush, On and Test and of
the Motor channel while it is Ramping, Running or in Test, at most 4095 (R104); its harness load and effective level
take in the counted peers (R125, R129), its local level is the maximum of its contributors (R124), and its class orders
are the most severe of effective level, crank hold and thermal hold (R133). -/
structure State.SupplyOk (s : State) : Prop where
  demand     : s.up = true → s.out.demand = min ((List.finRange 8).map fun i =>
    if s.meas.channels[i].base.valid = true ∧
        ((s.cfg.channels[i].kind ≠ .motor ∧
            (s.out.channels[i].state = .inrush ∨ s.out.channels[i].state = .on ∨ s.out.channels[i].state = .test)) ∨
          (s.cfg.channels[i].kind = .motor ∧
            (s.fan.state = .ramping ∨ s.fan.state = .running ∨ s.fan.state = .test)))
      then s.meas.channels[i].base.avg.toNat else 0).sum 4095
  harness    : s.up = true → s.supply.harness =
    min (s.out.demand + ((s.peers.records.filter (·.counts)).map (·.demand)).sum) 65535
  localLevel : s.up = true →
    s.supply.localLevel = max (max s.supply.a s.supply.b) (max s.supply.c s.supply.d)
  effective  : s.up = true → s.supply.localLevel ≤ s.supply.effective ∧
    (∀ r ∈ s.peers.records, r.Counted → r.shed ≤ s.supply.effective) ∧
    (s.supply.effective = s.supply.localLevel ∨ ∃ r ∈ s.peers.records, r.Counted ∧ s.supply.effective = r.shed)
  orders     : s.up = true → s.supply.orders = {
    one := if s.supply.thermal = true ∨ 3 ≤ s.supply.effective then .shed else .normal
    two := if s.supply.thermal = true ∨ s.supply.crank = true ∨ 2 ≤ s.supply.effective then .shed
      else if s.supply.effective = 1 then .limited else .normal
    three := if s.supply.thermal = true ∨ s.supply.crank = true ∨ 1 ≤ s.supply.effective then .shed else .normal }

/-- A running station in Awake has IGN on and one in Standby has IGN off (R177); the quiet timer runs in Standby alone,
held at its full period as the model holds no elapsed time (R178, notes/assumptions/1.md); and the periodic STATUS timer
runs at 100 ms in Starting and Awake and at 500 ms in Standby and Setup, but not at a strap-invalid station (R22). -/
structure State.StationOk (s : State) : Prop where
  awake    : s.up = true → s.ctl.state = .awake → s.res.ign = true
  standby  : s.up = true → s.ctl.state = .standby → s.res.ign = false ∧ s.ctl.quiet = some (s.cfg.quiet * 1000)
  quiet    : s.up = true → s.ctl.state ≠ .standby → s.ctl.quiet = none
  periodic : s.up = true → s.line.periodic = (if s.straps.number = 15 then none
    else if s.ctl.state = .starting ∨ s.ctl.state = .awake then some 100 else some 500)

/-! ## What the claims say beside the invariants -/

/-- What the hand-ons leave in Station Control: they change the station state and the quiet timer at most. -/
structure CtlKept (c d : Control) : Prop where
  powered    : d.powered = c.powered
  join       : d.join = c.join
  wake       : d.wake = c.wake
  cause      : d.cause = c.cause
  inputIndex : d.inputIndex = c.inputIndex
  clock      : d.clock = c.clock

/-- What the hand-ons leave in the Line Interface: they queue a STATUS or a FLASH and load the periodic timer at
most. -/
structure LineKept (l m : Line) : Prop where
  view     : m.view = l.view
  sub      : m.sub = l.sub
  isoWait  : m.isoWait = l.isoWait
  probing  : m.probing = l.probing
  run      : m.run = l.run
  spacing  : m.spacing = l.spacing
  announce : m.queue.announce = l.queue.announce
  reply    : m.queue.reply = l.queue.reply
  flying   : m.inFlight.map (fun f => (f.kind, f.age, f.content)) =
    l.inFlight.map (fun f => (f.kind, f.age, f.content))
  counters : m.counters = { l.counters with framesDropped := m.counters.framesDropped }

/-- What the hand-ons leave in the Measurement Unit: they change the directed marks, and the block in progress of a
channel they restart, at most. -/
structure MeasKept (m n : Measurement) : Prop where
  passTimer : n.passTimer = m.passTimer
  slot      : n.slot = m.slot
  supply    : n.supply = m.supply
  die       : n.die = m.die
  battery   : n.battery = m.battery
  senders   : n.senders = m.senders
  minLatest : n.minLatest = m.minLatest
  minAvg    : n.minAvg = m.minAvg
  latest    : ∀ i : Fin 8, n.channels[i].base.latest = m.channels[i].base.latest
  marked    : ∀ i : Fin 8, n.channels[i].base.latestOver = m.channels[i].base.latestOver
  avg       : ∀ i : Fin 8, n.channels[i].base.avg = m.channels[i].base.avg
  valid     : ∀ i : Fin 8, n.channels[i].base.valid = m.channels[i].base.valid
  overRange : ∀ i : Fin 8, n.channels[i].base.overRange = m.channels[i].base.overRange

/-- What the hand-ons leave in a channel. -/
structure ChannelKept (c d : Channel) : Prop where
  openFlag   : d.openFlag = c.openFlag
  testTimer  : d.testTimer = c.testTimer
  testResult : d.testResult = c.testResult

/-- What the hand-ons that follow a change leave as the change left it. They recompute the resolver, the flash cycle,
the commands, states, duties and the demand of the channels, the levels, orders and holds, the fan, the station state
and the STATUS and FLASH queued; a STATUS they queue (R22) has the content composed from the state they end in, which is the
model's choice (notes/assumptions/6.md). -/
structure HandedOn (u t : State) : Prop where
  pins     : t.pins = u.pins
  uid      : t.uid = u.uid
  store    : t.store = u.store
  straps   : t.straps = u.straps
  cfg      : t.cfg = u.cfg
  ctl      : CtlKept u.ctl t.ctl
  line     : LineKept u.line t.line
  status   : t.line.queue.status = u.line.queue.status ∨
    (t.line.sub ≠ .muted ∧ t.line.queue.status.map (·.content) = some t.statusContent.payload)
  peers    : t.peers = u.peers
  sw       : t.sw = u.sw
  meas     : MeasKept u.meas t.meas
  channels : ∀ i : Fin 8, ChannelKept u.out.channels[i] t.out.channels[i]
  level    : t.supply.a = u.supply.a
  thermal  : t.supply.thermal = u.supply.thermal
  ramp     : t.fan.ramp = u.fan.ramp
  gauges   : t.gauges = u.gauges
  svc      : t.svc = u.svc
  faults   : t.faults = u.faults
  free     : t.free = u.free
  pending  : t.pending = u.pending

/-- The entry may be offered: it is queued, no STATUS during its spacing, while Isolated the STATUS of a due probe
alone, and nothing at a strap-invalid station (R13, R21, R22). -/
structure Line.Eligible (l : Line) (strapInvalid : Bool) (kind : FrameKind) (e : Entry) : Prop where
  valid    : strapInvalid = false
  queued   : match kind with
    | .status => l.queue.status = some e ∧ l.spacing = none
    | .announce => l.queue.announce = some e
    | .flash => e ∈ l.queue.flash
    | .reply => e ∈ l.queue.reply
    | .service => False
  isolated : l.sub = .isolated → l.probing = true ∧ kind = .status

/-- The side set that the inputs and peers now ask for is the cycle's, so the hand-ons leave the cycle as it is. -/
def State.FlashAgrees (s : State) : Prop :=
  let union := unionOf s.sw.requests s.peers
  let ign := ignOf s.cfg.ignFromLine s.ignInput s.peers
  sideSetFrom (effFlashL union ign) (effFlashR union ign) = s.flash.sides

/-- The channels named for an On phase with side set `x` are those of kind FlashLamp or StopTurn, of a side of the set,
with an open-load limit above 0; their marks are armed, or restarted already where the window is 0 ms, and every other
mark is none (R74, R75, R115). -/
def State.MarksArmed (s : State) (x : SideSet) (t : State) : Prop :=
  ∀ i : Fin 8,
    ((s.cfg.channels[i].kind = .flashLamp ∨ s.cfg.channels[i].kind = .stopTurn) ∧
      (x = .both ∨ (x = .left ∧ s.cfg.channels[i].side = .left) ∨ (x = .right ∧ s.cfg.channels[i].side = .right)) ∧
      0 < s.cfg.channels[i].openLimit → t.meas.channels[i].mark = .armed ∨
        (t.meas.channels[i].mark = .restarted ∧ s.cfg.channels[i].inrush = 0)) ∧
    (¬((s.cfg.channels[i].kind = .flashLamp ∨ s.cfg.channels[i].kind = .stopTurn) ∧
      (x = .both ∨ (x = .left ∧ s.cfg.channels[i].side = .left) ∨ (x = .right ∧ s.cfg.channels[i].side = .right)) ∧
      0 < s.cfg.channels[i].openLimit) → t.meas.channels[i].mark = .none)

/-- The Claims, Heads and payload lengths R6's table allows together, by its rows. -/
def FormatAllowed (claim head : Byte) : Prop :=
  (head = 0x11 ∧ 0x10 ≤ claim.toNat ∧ claim.toNat ≤ 0x1E) ∨
  ((head = 0x28 ∨ head = 0x2A ∨ head = 0x2C ∨ head = 0x2E) ∧ 0x50 ≤ claim.toNat ∧ claim.toNat ≤ 0x5E) ∨
  (head = 0x3B ∧ 0x60 ≤ claim.toNat ∧ claim.toNat ≤ 0x6E) ∨
  (0x41 ≤ head.toNat ∧ head.toNat ≤ 0x48 ∧ claim = 0x2F) ∨
  (0x51 ≤ head.toNat ∧ head.toNat ≤ 0x5F ∧ 0x70 ≤ claim.toNat ∧ claim.toNat ≤ 0x7E)

/-- A frame of another station ends at this station's receiver (R12). -/
structure State.Hears (s : State) (sender : Fin 16) : Prop where
  receives : s.receives = true
  station  : sender.val < 15
  other    : sender.val ≠ s.straps.number

/-- A SERVICE frame ends at this station's receiver, addressed to its number, or to 15 where the command may be
broadcast, and a REPLY slot is free (R184). -/
structure State.Serves (s : State) (target : Fin 16) (broadcast : Bool) : Prop where
  receives : s.receives = true
  number   : s.straps.number ≠ 15
  addressed : target.val = s.straps.number ∨ (broadcast = true ∧ target.val = 15)
  slot     : s.line.queue.reply.length < 2

/-- The station at the end of the slot of a SERVICE frame addressed to it or to 15: the line is busy until it is idle
(R3), and a Standby station's quiet timer is at its full period (R178). -/
def State.atSlotEnd (s : State) : State :=
  { s with
    line := { s.line with view := .busy }
    ctl := if s.ctl.state = .standby then { s.ctl with quiet := some (s.cfg.quiet * 1000) } else s.ctl }

/-- The station with a REPLY of this payload queued (R17). -/
def State.answered (s : State) (payload : List Byte) : State :=
  { s with line := { s.line with queue := { s.line.queue with
      reply := s.line.queue.reply ++ [⟨payload, s.line.queue.nextAge, 0, false⟩], nextAge := s.line.queue.nextAge + 1 } } }

/-- The Measurement Record of a slot's input (R66). -/
def Measurement.record (m : Measurement) : SlotInput → Record
  | .supply => m.supply
  | .die => m.die
  | .battery => m.battery
  | .channel i => m.channels[i].base
  | .sender n => m.senders[n].base

/-- The block length of a slot's input (R65). -/
def SlotInput.blockLength (ni : Nat) : SlotInput → Nat
  | .supply => 16
  | .die => 16
  | .battery => 16
  | .channel _ => ni
  | .sender _ => 64

/-- A current sample that joins its channel's unfinished block, the pass going on (R64 to R66). -/
def Measurement.currentJoined (m : Measurement) (i : Fin 8) (x : Int) : Measurement :=
  { m with
    slot := some (4 + i.val)
    channels := m.channels.set i { m.channels[i] with base := { m.channels[i].base with
      latest := max 0 (min 400 x), latestOver := decide (x < 0 ∨ 400 < x)
      sum := m.channels[i].base.sum + max 0 (min 400 x), count := m.channels[i].base.count + 1
      sumOver := m.channels[i].base.sumOver || decide (x < 0 ∨ 400 < x) } } }

/-- A current sample that completes its channel's block of `ni` passes; a directed block's mark ends (R64 to R66,
R76). -/
def Measurement.currentCompleted (m : Measurement) (i : Fin 8) (x : Int) (ni : Nat) : Measurement :=
  { m with
    slot := some (4 + i.val)
    channels := m.channels.set i {
      base := {
        latest := max 0 (min 400 x), latestOver := decide (x < 0 ∨ 400 < x)
        avg := roundDiv (m.channels[i].base.sum + max 0 (min 400 x)) ni, valid := true
        overRange := m.channels[i].base.sumOver || decide (x < 0 ∨ 400 < x), sum := 0, count := 0, sumOver := false }
      mark := if m.channels[i].mark = .restarted then .none else m.channels[i].mark } }

/-- The sample joins an unfinished block: the averaged value stands (R65). -/
def SlotInput.Unfinished (input : SlotInput) (s : State) : Prop :=
  (s.meas.record input).count + 1 < input.blockLength s.cfg.ni

/-! ## The configuration in force -/

/-- The default configuration of R191, with the values of R81, R127, R128, R130, R144 and R157 in the column SYSV
selects; a field to which the default gives no value is 0 (R188). -/
structure WorkingConfig.Default (sixVolt : Bool) (c : WorkingConfig) : Prop where
  flags    : c.ignFromLine = false ∧ c.shunt = false
  numbers  : c.ni = 4 ∧ c.flashPeriod = 720 ∧ c.quiet = 30 ∧ c.allowance = 10 ∧ c.d1 = 50 ∧ c.d2 = 100 ∧
    c.capacity = 220 ∧ c.rampRate = 60 ∧ c.stallLimit = 60
  volts12  : sixVolt = false → c.t1 = 1200 ∧ c.t2 = 1160 ∧ c.t3 = 1100 ∧ c.hyst = 30 ∧ c.v1 = 600 ∧ c.v2 = 900 ∧
    c.v3 = 1200 ∧ ∀ i : Fin 4, c.gauges[i].vlo = 1000 ∧ c.gauges[i].vhi = 1600
  volts6   : sixVolt = true → c.t1 = 600 ∧ c.t2 = 580 ∧ c.t3 = 550 ∧ c.hyst = 15 ∧ c.v1 = 300 ∧ c.v2 = 450 ∧
    c.v3 = 600 ∧ ∀ i : Fin 4, c.gauges[i].vlo = 500 ∧ c.gauges[i].vhi = 800
  switches : ∀ i : Fin 8, c.switches[i] = ⟨false, false, false, 0, 0, 0⟩
  senders  : ∀ n : Fin 4, c.senders[n] = ⟨.off, 0, 0, 0, List.replicate 16 0⟩
  channels : ∀ i : Fin 8, c.channels[i] = {
    kind := .off, function := 0, side := .left, cls := 3, level := 1000, tail := 0, hardLimit := 100, overLimit := 80
    overTime := 1000, openLimit := 0, inrush := 100, retryLimit := 3, exhaustion := .latch }
  gauges   : ∀ i : Fin 4, c.gauges[i].kind = .off ∧ c.gauges[i].sourceType = 0 ∧ c.gauges[i].number = 0 ∧
    c.gauges[i].slot = 0 ∧ c.gauges[i].dfs = 1000 ∧ c.gauges[i].k = 32 ∧ c.gauges[i].fs = 300
  source   : c.isDefault = true ∧ c.checksum = 0 ∧ c.clamped = 0

/-- A Switch Map entry loaded from the four bytes at offset `o` (R43). -/
structure SwitchEntry.LoadedFrom (b : List Byte) (o : Nat) (e : SwitchEntry) : Prop where
  enabled : e.enabled = true ↔ (b.getD o 0).getLsbD 0 = true ∧ byteAt b (o + 1) ≤ 2 ∧ byteAt b (o + 2) ≤ 15
  flags   : e.closedToSupply = (b.getD o 0).getLsbD 1 ∧ e.wakeEnable = (b.getD o 0).getLsbD 2
  codes   : e.mode = byteAt b (o + 1) ∧ e.target = byteAt b (o + 2)
  hold    : e.hold = min 60 (byteAt b (o + 3))

/-- A sender entry loaded from the thirty-six bytes at offset `o`, but for its publish slot: the count and the fields
that its mode reads clamped, and the mode Off where a rule takes it so (R49, R52, R158). -/
structure SenderEntry.LoadedFrom (b : List Byte) (o : Nat) (e : SenderEntry) : Prop where
  target    : e.target = byteAt b (o + 1)
  count     : e.count = (if byteAt b o = 1 then max 2 (min 8 (byteAt b (o + 3)))
    else if byteAt b o = 3 then max 1 (min 4 (byteAt b (o + 3))) else byteAt b (o + 3))
  words     : e.words = (List.range 16).map fun j =>
    if byteAt b o = 1 ∧ j < 2 * e.count then min (wordAt b (o + 4 + 2 * j)) (if j % 2 = 0 then 1023 else 1000)
    else if byteAt b o = 3 ∧ (j < 2 * e.count ∨ j = 8 ∨ j = 9) then min (wordAt b (o + 4 + 2 * j)) 1023
    else wordAt b (o + 4 + 2 * j)
  resistive : e.mode = .resistive ↔ byteAt b o = 1 ∧
    ((∀ j, j + 1 < e.count → e.words.getD (2 * j) 0 < e.words.getD (2 * (j + 1)) 0) ∨
      (∀ j, j + 1 < e.count → e.words.getD (2 * (j + 1)) 0 < e.words.getD (2 * j) 0))
  switch    : e.mode = .switch ↔ byteAt b o = 2 ∧ e.target ≤ 15
  ladder    : e.mode = .ladder ↔ byteAt b o = 3 ∧
    (e.target = 0 ∨ (e.target = 1 ∧ e.words.getD 8 0 ≠ e.words.getD 9 0))

/-- A Channel Map entry loaded from the nineteen bytes at offset `o`, but for the rule of the second Motor (R82). Class 0
goes by the kind the record holds (notes/assumptions/41.md). -/
structure ChannelEntry.LoadedFrom (b : List Byte) (o : Nat) (e : ChannelEntry) : Prop where
  kind       : (e.kind = .lamp ↔ byteAt b o = 1 ∧ byteAt b (o + 1) ≤ 18) ∧
    (e.kind = .flashLamp ↔ byteAt b o = 2 ∧ byteAt b (o + 1) ≤ 18) ∧
    (e.kind = .stopTurn ↔ byteAt b o = 3 ∧ byteAt b (o + 1) ≤ 18) ∧
    (e.kind = .plain ↔ byteAt b o = 4 ∧ byteAt b (o + 1) ≤ 18) ∧
    (e.kind = .motor → byteAt b o = 5 ∧ byteAt b (o + 1) ≤ 18)
  function   : e.function = byteAt b (o + 1)
  side       : e.side = .right ↔ byteAt b (o + 2) = 1
  cls        : e.cls = (if byteAt b o = 2 ∨ byteAt b o = 3 then 0 else min 3 (byteAt b (o + 3)))
  level      : e.level = max 1 (min 1000 (wordAt b (o + 4))) ∧ e.tail = min 1000 (wordAt b (o + 6))
  limits     : e.hardLimit = max 10 (min 400 (wordAt b (o + 8))) ∧ e.overLimit = max 1 (min 400 (wordAt b (o + 10))) ∧
    e.overTime = max 100 (min 5000 (wordAt b (o + 12))) ∧ e.openLimit = min 400 (wordAt b (o + 14))
  inrush     : e.inrush = min 250 (byteAt b (o + 16))
  retryLimit : e.retryLimit = min 7 (byteAt b (o + 17))
  exhaustion : e.exhaustion = .persist ↔ byteAt b (o + 18) = 1

/-- A Gauge Map entry loaded from the fourteen bytes at offset `o` (R157). -/
structure GaugeEntry.LoadedFrom (b : List Byte) (o : Nat) (e : GaugeEntry) : Prop where
  kind   : e.kind = (if ¬(byteAt b (o + 1) = 0 ∧ byteAt b (o + 2) ≤ 3) ∧
      ¬(byteAt b (o + 1) = 1 ∧ byteAt b (o + 2) ≤ 15 ∧ byteAt b (o + 3) ≤ 1) ∧ byteAt b (o + 1) ≠ 2 ∧
      byteAt b (o + 1) ≠ 3 then .off
    else [GaugeKind.off, .thermal, .coilEnd, .coilCentre].getD (byteAt b o) .off)
  source : e.sourceType = byteAt b (o + 1) ∧ e.number = byteAt b (o + 2) ∧ e.slot = byteAt b (o + 3)
  scale  : e.dfs = max 1 (min 1000 (wordAt b (o + 4))) ∧ e.k = max 1 (min 256 (wordAt b (o + 6))) ∧
    e.fs = max 50 (min 600 (wordAt b (o + 8)))
  span   : ∀ lo hi : Nat, lo = min 2000 (wordAt b (o + 10)) → hi = min 2000 (wordAt b (o + 12)) →
    (lo < hi → e.vlo = lo ∧ e.vhi = hi) ∧ (hi ≤ lo → lo < 2000 → e.vlo = lo ∧ e.vhi = lo + 1) ∧
    (hi ≤ lo → lo = 2000 → e.vlo = 1999 ∧ e.vhi = 2000)

/-- The working configuration that a record with a good check gives (R191, R79, R120, R127, R128, R130, R132, R144,
R178): every field at its place (section 11.5), clamped to its range. A publish slot goes to the lowest-numbered Resistive
sender that names it (R158), the kind Motor to the lowest-numbered entry (R82). That the sender is Resistive as it is loaded
(notes/assumptions/59.md), that the entry's function names one (notes/assumptions/54.md), and how the clamped-field count
counts (notes/assumptions/14.md) are the model's choice. -/
structure WorkingConfig.LoadedFrom (b : List Byte) (c : WorkingConfig) : Prop where
  flags       : c.ignFromLine = (b.getD 0 0).getLsbD 0 ∧ c.shunt = (b.getD 0 0).getLsbD 1
  ni          : c.ni ∈ [1, 2, 4, 8] ∧ c.ni ≤ max 1 (byteAt b 1) ∧
    ∀ m ∈ [1, 2, 4, 8], m ≤ max 1 (byteAt b 1) → m ≤ c.ni
  flashPeriod : c.flashPeriod = max 600 (min 900 (wordAt b 2)) / 10 * 10
  quiet       : c.quiet = max 5 (byteAt b 4) ∧ c.allowance = max 1 (min 50 (byteAt b 5))
  thresholds  : c.t1 = min 2000 (wordAt b 6) ∧ c.t2 = min c.t1 (wordAt b 8) ∧ c.t3 = min c.t2 (wordAt b 10) ∧
    c.hyst = min 200 (wordAt b 12)
  currents    : c.d1 = max 10 (min 600 (wordAt b 14)) ∧ c.d2 = max c.d1 (min 600 (wordAt b 16)) ∧
    c.capacity = max 10 (min 4095 (wordAt b 18))
  fan         : c.v1 = max 100 (min 1800 (wordAt b 20)) ∧ c.v2 = max c.v1 (min 1800 (wordAt b 22)) ∧
    c.v3 = max c.v2 (min 1800 (wordAt b 24)) ∧ c.rampRate = max 10 (min 600 (wordAt b 26)) ∧
    c.stallLimit = max 10 (min 400 (wordAt b 28))
  switches    : ∀ i : Fin 8, c.switches[i].LoadedFrom b (30 + 4 * i.val)
  senders     : ∀ n : Fin 4, c.senders[n].LoadedFrom b (62 + 36 * n.val)
  publish     : ∀ n : Fin 4, c.senders[n].publish = (if c.senders[n].mode = .resistive ∧
      (byteAt b (64 + 36 * n.val) = 1 ∨ byteAt b (64 + 36 * n.val) = 2) ∧
      (∀ m : Fin 4, m < n → ¬(c.senders[m].mode = .resistive ∧
        byteAt b (64 + 36 * m.val) = byteAt b (64 + 36 * n.val)))
    then byteAt b (64 + 36 * n.val) else 0)
  channels    : ∀ i : Fin 8, c.channels[i].LoadedFrom b (206 + 19 * i.val)
  motor       : ∀ i : Fin 8, c.channels[i].kind = .motor ↔
    byteAt b (206 + 19 * i.val) = 5 ∧ byteAt b (207 + 19 * i.val) ≤ 18 ∧
      ∀ j : Fin 8, j < i → ¬(byteAt b (206 + 19 * j.val) = 5 ∧ byteAt b (207 + 19 * j.val) ≤ 18)
  gauges      : ∀ g : Fin 4, c.gauges[g].LoadedFrom b (358 + 14 * g.val)
  source      : c.isDefault = false ∧ c.checksum = BitVec.ofNat 16 (wordAt b 510) ∧ c.clamped ≤ 255

/-! ## The values the service tool and the gauges read -/

/-- A Sender Table's position for a reading: below the lowest R and above the highest R that end's P, else on the first
segment, in table order, that has the reading between its points (R160). -/
def Linearized (points : List (Nat × Nat)) (r v : Int) : Prop :=
  (∃ p ∈ points, (∀ q ∈ points, p.1 ≤ q.1) ∧ r < p.1 ∧ v = p.2) ∨
  (∃ p ∈ points, (∀ q ∈ points, q.1 ≤ p.1) ∧ (p.1 : Int) < r ∧ v = p.2) ∨
  (∃ (before after : List (Nat × Nat)) (p q : Nat × Nat), points = before ++ p :: q :: after ∧
    (((p.1 : Int) ≤ r ∧ r ≤ q.1) ∨ ((q.1 : Int) ≤ r ∧ r ≤ p.1)) ∧
    (∀ (b a : List (Nat × Nat)) (x y : Nat × Nat), points = b ++ x :: y :: a → b.length < before.length →
      ¬(((x.1 : Int) ≤ r ∧ r ≤ y.1) ∨ ((y.1 : Int) ≤ r ∧ r ≤ x.1))) ∧
    v = p.2 + roundDiv (((q.2 : Int) - p.2) * (r - p.1)) ((q.1 : Int) - p.1))

/-- The field at an offset of a staging image makes a commit fail (R189): a code that names none of its values, a point
count, a table that is not strictly monotone, a slot or a Motor named twice, an empty span. Which codes the entry's kind
or mode reads is the model's reading (notes/assumptions/15.md). -/
def FieldFails (b : List Byte) (offset : Nat) : Prop :=
  (∃ e, e < 8 ∧ offset = 31 + 4 * e ∧ 2 < byteAt b offset) ∨
  (∃ n o, n < 4 ∧ o = 62 + 36 * n ∧
    ((offset = o ∧ 3 < byteAt b o) ∨
      (byteAt b o = 1 ∧ offset = o + 2 ∧ (byteAt b offset = 1 ∨ byteAt b offset = 2) ∧
        ∃ m, m < n ∧ byteAt b (62 + 36 * m) = 1 ∧ byteAt b (62 + 36 * m + 2) = byteAt b offset) ∨
      (byteAt b o = 1 ∧ offset = o + 3 ∧ byteAt b offset < 2) ∨
      (∃ i, byteAt b o = 1 ∧ 1 ≤ i ∧ i < 8 ∧ i < byteAt b (o + 3) ∧ offset = o + 4 + 4 * i ∧
        ((i = 1 ∧ wordAt b (o + 4) = wordAt b (o + 8)) ∨
          (1 < i ∧ wordAt b (o + 4) < wordAt b (o + 8) ∧ wordAt b offset ≤ wordAt b (offset - 4)) ∨
          (1 < i ∧ wordAt b (o + 8) ≤ wordAt b (o + 4) ∧ wordAt b (offset - 4) ≤ wordAt b offset))) ∨
      (byteAt b o = 3 ∧ byteAt b (o + 1) = 1 ∧ offset = o + 22 ∧ wordAt b (o + 20) = wordAt b offset))) ∨
  (∃ c o, c < 8 ∧ o = 206 + 19 * c ∧
    ((offset = o ∧ 5 < byteAt b o) ∨
      (offset = o ∧ byteAt b o = 5 ∧ ∃ m, m < c ∧ byteAt b (206 + 19 * m) = 5) ∨
      (offset = o + 1 ∧ (byteAt b o = 1 ∨ byteAt b o = 4) ∧ 18 < byteAt b offset) ∨
      (offset = o + 2 ∧ (byteAt b o = 2 ∨ byteAt b o = 3) ∧ 1 < byteAt b offset) ∨
      (offset = o + 18 ∧ 1 < byteAt b offset))) ∨
  (∃ g o, g < 4 ∧ o = 358 + 14 * g ∧
    ((offset = o ∧ 3 < byteAt b o) ∨
      (offset = o + 1 ∧ byteAt b o ≠ 0 ∧ 3 < byteAt b offset) ∨
      (offset = o + 12 ∧ byteAt b o ≠ 0 ∧ byteAt b (o + 1) = 3 ∧ wordAt b offset ≤ wordAt b (o + 10))))

/-- The two bytes of a sixteen-bit field, most significant first. -/
def bytes16 (w : Word16) : List Byte := [w.extractLsb' 8 8, w.extractLsb' 0 8]

/-- The two bytes of a number, a negative one in two's complement. -/
def be16 (x : Int) : List Byte := bytes16 (BitVec.ofInt 16 x)

/-- An index that may be absent, as a READ sends it. -/
def byteOrAbsent (x : Option Nat) : Byte := (x.map (BitVec.ofNat 8)).getD 0xFF

/-- A published position that may be absent, as a READ sends it: the sender index in the two upper bits. -/
def slotOrAbsent (x : Option (Nat × Nat)) : List Byte :=
  (x.map fun p => bytes16 (BitVec.ofNat 2 p.1 ++ (0#4 ++ BitVec.ofNat 10 p.2))).getD [0xFF, 0xFF]

/-- A measurement record's bytes (class 0): a Resistive sender with a valid record adds its position, any other sender's is
absent (notes/assumptions/51.md), and the supply minimum takes its flags from the supply record (R66, R69, R162). -/
def State.MeasurementBytes (s : State) (index : Nat) (data : List Byte) : Prop :=
  ∃ (r : Record) (isOpen isShort : Bool) (mark : Nat) (position : List Byte),
    ((index = 0 ∧ r = s.meas.supply ∧ isOpen = false ∧ isShort = false ∧ mark = 0 ∧ position = [0xFF, 0xFF]) ∨
      (index = 1 ∧ r = s.meas.die ∧ isOpen = false ∧ isShort = false ∧ mark = 0 ∧ position = [0xFF, 0xFF]) ∨
      (index = 2 ∧ r = s.meas.battery ∧ isOpen = false ∧ isShort = false ∧ mark = 0 ∧ position = [0xFF, 0xFF]) ∨
      (∃ i : Fin 8, index = 3 + i.val ∧ r = s.meas.channels[i].base ∧ isOpen = false ∧ isShort = false ∧
        mark = [Mark.none, .armed, .restarted].idxOf s.meas.channels[i].mark ∧ position = [0xFF, 0xFF]) ∨
      (∃ n : Fin 4, index = 11 + n.val ∧ r = s.meas.senders[n].base ∧ isOpen = s.meas.senders[n].openFlag ∧
        isShort = s.meas.senders[n].shortFlag ∧ mark = 0 ∧
        position = (if s.cfg.senders[n].mode = .resistive ∧ r.valid = true
          then be16 (linearize s.cfg.senders[n].points r.avg).toNat else [0xFF, 0xFF])) ∨
      (index = 15 ∧ r = { s.meas.supply with latest := s.meas.minLatest, avg := s.meas.minAvg } ∧ isOpen = false ∧
        isShort = false ∧ mark = 0 ∧ position = [0xFF, 0xFF])) ∧
    data = be16 r.latest ++ be16 r.avg ++ [0#2 ++ BitVec.ofNat 2 mark ++ BitVec.ofBool isShort ++ BitVec.ofBool isOpen
      ++ BitVec.ofBool r.overRange ++ BitVec.ofBool r.valid] ++ position

/-- A channel's bytes (class 1): page 0 every channel's, page 1 the Motor channel's. The command and level of an Off or
Motor channel and the level of a command that is not steady are free (notes/assumptions/20.md). -/
def State.ChannelBytes (s : State) (index page : Nat) (data : List Byte) : Prop :=
  ∃ i : Fin 8, index = i.val ∧
    ((page = 0 ∧ ∃ (state : Nat) (command : Byte) (level : List Byte), level.length = 2 ∧
      state = (if s.cfg.channels[i].kind = .motor
        then [FanState.off, .ramping, .running, .suspended, .stalled, .tripped, .locked, .test].idxOf s.fan.state
        else [ChannelState.off, .inrush, .on, .dark, .shed, .tripped, .locked, .test].idxOf s.out.channels[i].state) ∧
      (s.cfg.channels[i].kind ≠ .off → s.cfg.channels[i].kind ≠ .motor →
        (s.out.channels[i].command = .off → command = 0) ∧
        (∀ l, s.out.channels[i].command = .steady l → command = 1 ∧ level = be16 l) ∧
        (s.out.channels[i].command = .flashOn → command = 2) ∧ (s.out.channels[i].command = .flashOff → command = 3)) ∧
      data = BitVec.ofNat 8 state :: command :: level ++ be16 s.out.channels[i].duty ++
        [BitVec.ofNat 8 s.out.channels[i].retry,
          0#5 ++ BitVec.ofNat 2 ([TestResult.none, .completed, .tripped].idxOf s.out.channels[i].testResult)
            ++ BitVec.ofBool s.out.channels[i].openFlag]) ∨
    (page = 1 ∧ s.cfg.channels[i].kind = .motor ∧
      data = BitVec.ofNat 8 s.fan.resolved :: BitVec.ofNat 8 s.fan.target :: be16 s.fan.veff ++
        [BitVec.ofNat 8 s.fan.stallCount, 0#7 ++ BitVec.ofBool s.fan.deferral.isSome,
          byteOrAbsent s.fan.remembered]))

/-- A peer record's bytes (class 2): page 0 what its STATUS left, page 1 its identity, page 2 its positions and the
table's counts. An absent optional field without a stated code is free (notes/assumptions/20.md). -/
def State.PeerBytes (s : State) (index page : Nat) (data : List Byte) : Prop :=
  ∃ r : PeerRecord, s.peers.find index = some r ∧
    ((page = 0 ∧ ∃ battery : List Byte, battery.length = 2 ∧ (∀ i, r.battery = some i → battery = be16 i) ∧
      data = [BitVec.ofNat 8 ([PeerState.absent, .present, .stale, .lost].idxOf r.state), BitVec.ofNat 8 r.missed]
        ++ bytes16 r.requests ++ [BitVec.ofNat 2 r.fanStep ++ BitVec.ofNat 6 r.dimmer] ++ be16 r.demand
        ++ [BitVec.ofNat 8 r.supply,
          BitVec.ofNat 2 r.shed ++ BitVec.ofNat 2 ([PeerStation.awake, .standby, .setup].idxOf r.station)
            ++ BitVec.ofBool r.ign ++ BitVec.ofBool r.battery.isSome ++ BitVec.ofBool r.posA.isSome
            ++ BitVec.ofBool r.posB.isSome,
          BitVec.ofBool r.faults.output ++ BitVec.ofBool r.faults.load ++ BitVec.ofBool r.faults.sender
            ++ BitVec.ofBool r.faults.thermal ++ BitVec.ofBool r.faults.line ++ BitVec.ofBool r.faults.station
            ++ BitVec.ofBool r.bulbLeft ++ BitVec.ofBool r.bulbRight,
          0#6 ++ BitVec.ofBool r.bulbLeft ++ BitVec.ofBool r.bulbRight] ++ battery) ∨
    (page = 1 ∧ ∃ (uid checksum : List Byte) (roles : Byte), uid.length = 8 ∧ checksum.length = 2 ∧
      (∀ u, r.uid = some u → uid = bytes16 (u.extractLsb' 48 16) ++ bytes16 (u.extractLsb' 32 16)
        ++ bytes16 (u.extractLsb' 16 16) ++ bytes16 (u.extractLsb' 0 16)) ∧
      (∀ c, r.checksum = some c → checksum = bytes16 c) ∧
      (∀ x : Roles, r.roles = some x → roles = 0#4 ++ BitVec.ofBool x.publishes.2 ++ BitVec.ofBool x.publishes.1
        ++ BitVec.ofBool x.gauges ++ BitVec.ofBool x.shunt) ∧
      data = uid ++ checksum ++ [roles, 0#2 ++ BitVec.ofBool r.posB.isSome ++ BitVec.ofBool r.posA.isSome
        ++ BitVec.ofBool r.battery.isSome ++ BitVec.ofBool r.roles.isSome ++ BitVec.ofBool r.checksum.isSome
        ++ BitVec.ofBool r.uid.isSome]) ∨
    (page = 2 ∧ data = slotOrAbsent r.posA ++ slotOrAbsent r.posB ++ be16 s.peers.changed
      ++ be16 s.peers.inconsistent))

/-- A gauge's bytes (class 3, R172). -/
def State.GaugeBytes (s : State) (index : Nat) (data : List Byte) : Prop :=
  ∃ i : Fin 4, index = i.val ∧
    data = [BitVec.ofNat 8 ([GaugeKind.off, .thermal, .coilEnd, .coilCentre].idxOf s.cfg.gauges[i].kind),
        BitVec.ofNat 8 ([SourceStatus.waiting, .normal, .held, .estimated, .lost].idxOf s.gauges.drives[i].status)]
      ++ be16 s.gauges.drives[i].source ++ be16 s.gauges.drives[i].target ++ be16 s.gauges.drives[i].displayed
      ++ be16 s.gauges.drives[i].duty
      ++ [0#5 ++ BitVec.ofBool s.gauges.drives[i].under
        ++ BitVec.ofNat 2 ([Direction.none, .pinA, .pinB].idxOf s.gauges.drives[i].direction)]

/-- The line counters' bytes (class 4, R23). -/
def State.LineBytes (s : State) (page : Nat) (data : List Byte) : Prop :=
  (page = 0 ∧ data = be16 s.line.counters.framesSent ++ be16 s.line.counters.arbitrationLosses
    ++ be16 s.line.counters.collisions ++ be16 s.line.counters.objectionsReceived
    ++ [BitVec.ofNat 8 ([SubState.joined, .muted, .isolated].idxOf s.line.sub), BitVec.ofNat 8 s.line.run]) ∨
  (page = 1 ∧ data = be16 s.line.counters.objectionsRaised ++ be16 s.line.counters.checkErrors
    ++ be16 s.line.counters.framesDropped ++ be16 s.line.counters.isolationEntries)

/-- The shed status's bytes, with the flash cycle's (class 5, R143). -/
def State.ShedBytes (s : State) (data : List Byte) : Prop :=
  data = bytes16 (0#9 ++ BitVec.ofNat 1 s.supply.d ++ BitVec.ofNat 2 s.supply.c ++ BitVec.ofNat 2 s.supply.b
      ++ BitVec.ofNat 2 s.supply.a)
    ++ [0#4 ++ BitVec.ofNat 2 s.supply.effective ++ BitVec.ofNat 2 s.supply.localLevel,
      0#6 ++ BitVec.ofBool s.supply.thermal ++ BitVec.ofBool s.supply.crank]
    ++ bytes16 (0#7 ++ BitVec.ofBool s.supply.holds.three.on ++ BitVec.ofBool s.supply.holds.two.on
      ++ BitVec.ofBool s.supply.holds.one.on
      ++ BitVec.ofNat 2 ([Order.normal, .limited, .shed].idxOf s.supply.orders.three)
      ++ BitVec.ofNat 2 ([Order.normal, .limited, .shed].idxOf s.supply.orders.two)
      ++ BitVec.ofNat 2 ([Order.normal, .limited, .shed].idxOf s.supply.orders.one))
    ++ be16 s.supply.harness ++ be16 (s.supply.drain / 65536 : Nat) ++ be16 s.supply.drain
    ++ [0#7 ++ BitVec.ofBool s.supply.drainOver,
      0#1 ++ BitVec.ofBool (s.flash.memory.current.ownLeft || s.flash.memory.before.ownLeft)
        ++ BitVec.ofBool (s.flash.memory.current.ownRight || s.flash.memory.before.ownRight)
        ++ BitVec.ofBool s.flash.fast
        ++ BitVec.ofNat 2 ([none, some SideSet.left, some .right, some .both].idxOf s.flash.sides)
        ++ BitVec.ofNat 2 ([FlashPhase.idle, .on, .off].idxOf s.flash.phase)]

/-- The station record's bytes (class 6, R183): the whole seconds of a running quiet timer, which the READ has reloaded
(R178, R184); of a stopped one the byte is free (notes/assumptions/20.md). -/
def State.StationBytes (s : State) (data : List Byte) : Prop :=
  ∃ quiet : Byte, (∀ ms, s.ctl.quiet = some ms → quiet = BitVec.ofNat 8 (ms / 1000)) ∧
    data = [BitVec.ofNat 8 ([ResumeCause.powerOn, .service, .line, .input, .ign].idxOf s.ctl.cause),
        byteOrAbsent s.ctl.inputIndex] ++ be16 s.ctl.clock
      ++ [BitVec.ofNat 8 ([StationState.starting, .awake, .standby, .asleep, .setup].idxOf s.ctl.state),
        0#7 ++ BitVec.ofBool s.ctl.join.isSome, quiet,
        0#3 ++ BitVec.ofBool s.straps.sixVolt ++ BitVec.ofNat 4 s.straps.number,
        0#7 ++ BitVec.ofBool s.cfg.isDefault, BitVec.ofNat 8 s.cfg.clamped]
      ++ be16 s.svc.ignored ++ [0#3 ++ BitVec.ofBool s.faults.overflow ++ BitVec.ofNat 4 s.faults.entries.length]

/-- A fault entry's bytes (class 7, R192). -/
def FaultEntry.Sent (e : FaultEntry) (data : List Byte) : Prop :=
  data = [BitVec.ofNat 8 (1 + [FaultKind.trip, .openLoad, .bulbOut, .fanLocked, .senderFault, .thermal, .duplicate,
        .lineIsolated, .configDefault, .drainShed].idxOf e.kind), byteOrAbsent e.index]
    ++ be16 e.first ++ [BitVec.ofNat 8 e.occurrences, 0#7 ++ BitVec.ofBool e.acked]

/-- The bytes of a READ's item (section 11.5, READ reply data). The order of items that share a byte is the model's
reading (notes/assumptions/19.md). -/
def State.ItemBytes (s : State) (cls index page : Nat) (data : List Byte) : Prop :=
  (cls = 0 ∧ s.MeasurementBytes index data) ∨ (cls = 1 ∧ s.ChannelBytes index page data) ∨
  (cls = 2 ∧ s.PeerBytes index page data) ∨ (cls = 3 ∧ s.GaugeBytes index data) ∨
  (cls = 4 ∧ s.LineBytes page data) ∨ (cls = 5 ∧ s.ShedBytes data) ∨ (cls = 6 ∧ s.StationBytes data) ∨
  (cls = 7 ∧ ∃ e, s.faults.entries[index]? = some e ∧ e.Sent data)

end Sys2Proof.Machine
end

