-- ==== Sys2Proof/Certificates/Slice0/Obligations.lean ====
section
/-! DEFINITION. The statements for the provers. Most commands hand changes on between the blocks: such a statement gives
the state `u` that the command's own effect makes, and says by `HandedOn u t` (Safety.lean) what the hand-ons leave of
it in the next state `t`; what the hand-ons compute is said by the invariants every step keeps. Where a clause rests on a
choice of the model, the docstring names the assumption log's entry. -/

open Sys2Proof Sys2Proof.Machine

set_option linter.unusedVariables false

/-! ## The queue of commands, the reset and the invariants -/

/-- The command at the front of the queue runs as `exec` on the state with the queue's rest; with an empty queue the
block idles (the model's choice, notes/assumptions/7.md). -/
def Obligations.StepRunsFrontCommand : Prop :=
  (∀ (c : Instr) (rest : List Instr) (s : State), s.pending = c :: rest → step s = exec c { s with pending := rest }) ∧
  (∀ s : State, s.pending = [] → step s = .next s)

/-- Every invariant below holds of the state after reset. -/
def Obligations.ResetMeetsInvariants : Prop :=
  State.reset.BuffersWf ∧ State.reset.QueueOk ∧ State.reset.PeersOk ∧ State.reset.InputsOk ∧ State.reset.ResolverOk ∧
  State.reset.EffectiveOk ∧ State.reset.FlashOk ∧ State.reset.SupplyOk ∧ State.reset.ChannelsOk ∧ State.reset.FanOk ∧
  State.reset.StillAsleep ∧ State.reset.DutiesOk ∧ State.reset.FaultsOk ∧ State.reset.InvalidStill ∧
  State.reset.StationOk

/-- Every step keeps the store and the staging image in canonical form: addresses below 512 (R188), rising, no cell equal
to the blank store's byte. That form, in which an unlisted byte reads 0xFF, is the model's choice
(notes/assumptions/16.md). -/
def Obligations.StepKeepsBuffers : Prop := Kept State.BuffersWf

/-- Every step keeps the Transmit Queue's slots and orders, empty of STATUS, ANNOUNCE and FLASH while Muted and of FLASH
while Isolated (R13, R14, R15, R19, R21). -/
def Obligations.StepKeepsQueue : Prop := Kept State.QueueOk

/-- Every step keeps one peer record for each number 0..14 but the station's own, and none at a strap-invalid station
(R25). -/
def Obligations.StepKeepsPeers : Prop := Kept State.PeersOk

/-- Every step keeps the local requests what the inputs and senders give (R45 to R48, R51 to R53). -/
def Obligations.StepKeepsLocalRequests : Prop := Kept State.InputsOk

/-- Every step keeps the Union, IGN, fan step, dimmer and panel level those of the station's inputs and the counted
peers (R55, R56, R57, R61). -/
def Obligations.StepKeepsResolver : Prop := Kept State.ResolverOk

/-- Every step keeps the Effective Function Set the one R57 to R60 define; main and dip are never both set. That a Stale
peer's battery current is no reference is the model's reading (notes/assumptions/48.md); that a reference finds a charge fault
while the supply record is not valid too, and that TELL_SHED stands from the moment of a wake, are its choice
(notes/assumptions/53.md, notes/assumptions/49.md). -/
def Obligations.StepKeepsEffectiveFunctions : Prop := Kept State.EffectiveOk

/-- Every step keeps the flash cycle Idle exactly with no side set and no half timer, and on the effective side set
(R58, R106, R110). -/
def Obligations.StepKeepsFlashCycle : Prop := Kept State.FlashOk

/-- Every step keeps demand, harness load, levels and class orders what R104, R124, R125, R129 and R133 give: the demand
the sum over the active channels with a valid record, at most 4095, and the orders by R133's table. -/
def Obligations.StepKeepsSupply : Prop := Kept State.SupplyOk

/-- Every step keeps each channel's command, its agreement with its state, order and hold, and its duty, and a channel of
kind Off in Off or Test (R83 to R88, R100, R101). That a channel of a class ordered shed stands in Shed though its command
is off, a Locked one too where R97 names Off, is the model's reading (notes/assumptions/22.md); that a limited order caps a
Lamp's command in Setup too, where no order is applied, is its choice (notes/assumptions/42.md). -/
def Obligations.StepKeepsChannels : Prop := Kept State.ChannelsOk

/-- Every step keeps the Motor channel still under a suspension cause outside a deferral, and its target and duty those
of R145 and R147 (R145 to R147, R153, R155, R156). How the limited cap stands in a deferral is the model's reading
(notes/assumptions/56.md). -/
def Obligations.StepKeepsFan : Prop := Kept State.FanOk

/-- Every step keeps an Asleep station's channels and gauge drives off and its Transmit Queue empty (R180), a
strap-invalid station in Starting, driving nothing (R174), and a running station's state with IGN: Awake with IGN on,
Standby with IGN off and its quiet timer running there alone (R177, R178), the periodic STATUS timer at 100 or 500 ms
(R22). That a running timer stands at its full period is the model's choice (notes/assumptions/1.md). -/
def Obligations.StepKeepsStillStations : Prop :=
  (Kept State.StillAsleep) ∧
  (Kept State.InvalidStill) ∧
  (Kept State.StationOk)

/-- Every step keeps every channel duty and gauge duty within 0..1000 (R87, R168, R169). -/
def Obligations.StepKeepsDuties : Prop := Kept State.DutiesOk

/-- Every step keeps the Fault List at most 8 entries, one of a kind and index, with 1..255 occurrences (R192). -/
def Obligations.StepKeepsFaultList : Prop := Kept State.FaultsOk

/-- The STATUS payload a content is sent as decodes to that content, for every content in the ranges of R28 and R30; and
the content a station composes: its requests, fan step and dimmer value, which are 0, 0 and 63 in Setup, the demand, the
supply average in dV, the local shed level, its state, its own IGN input, the fault summary of its unacknowledged entries
and own bulb-out flags, and the optional fields it publishes (R28 to R30). -/
def Obligations.StatusRoundTrip : Prop :=
  (∀ c : StatusContent, c.fanStep ≤ 3 → c.dimmer ≤ 63 → c.demand ≤ 4095 → c.supply ≤ 200 → c.shed ≤ 3 →
    (∀ i, c.battery = some i → -600 ≤ i ∧ i ≤ 600) → (∀ p, c.posA = some p → p.1 ≤ 3 ∧ p.2 ≤ 1000) →
    (∀ p, c.posB = some p → p.1 ≤ 3 ∧ p.2 ≤ 1000) → decodeStatus c.payload = some c) ∧
  (∀ (s : State) (c : StatusContent), c = s.statusContent →
    c.requests = (if s.ctl.state = .setup then 0 else s.sw.requests) ∧
    c.fanStep = (if s.ctl.state = .setup then 0 else s.sw.fanStep) ∧
    c.dimmer = (if s.ctl.state = .setup then 63 else s.sw.dimmer) ∧
    c.demand = s.out.demand ∧ c.shed = s.supply.localLevel ∧
    (s.meas.supply.valid = true → 0 ≤ s.meas.supply.avg → (c.supply : Int) = roundDiv s.meas.supply.avg 10) ∧
    (s.meas.supply.valid = false → c.supply = 0) ∧
    (c.station = .standby ↔ s.ctl.state = .standby) ∧ (c.station = .setup ↔ s.ctl.state = .setup) ∧
    (c.ign = true ↔ s.sw.ignAccepted = .closed) ∧
    (c.faults.output = true ↔ ∃ e ∈ s.faults.entries, e.acked = false ∧ (e.kind = .trip ∨ e.kind = .fanLocked)) ∧
    (c.faults.load = true ↔ ∃ e ∈ s.faults.entries, e.acked = false ∧ (e.kind = .openLoad ∨ e.kind = .bulbOut)) ∧
    (c.faults.sender = true ↔ ∃ e ∈ s.faults.entries, e.acked = false ∧ e.kind = .senderFault) ∧
    (c.faults.thermal = true ↔ ∃ e ∈ s.faults.entries, e.acked = false ∧ e.kind = .thermal) ∧
    (c.faults.line = true ↔ ∃ e ∈ s.faults.entries, e.acked = false ∧ (e.kind = .duplicate ∨ e.kind = .lineIsolated)) ∧
    (c.faults.station = true ↔
      ∃ e ∈ s.faults.entries, e.acked = false ∧ (e.kind = .configDefault ∨ e.kind = .drainShed)) ∧
    c.bulbLeft = (s.flash.memory.current.ownLeft || s.flash.memory.before.ownLeft) ∧
    c.bulbRight = (s.flash.memory.current.ownRight || s.flash.memory.before.ownRight) ∧
    (∀ i : Int, c.battery = some i ↔ s.cfg.shunt = true ∧ s.meas.battery.valid = true ∧ i = s.meas.battery.avg) ∧
    (∀ (slot : Nat) (position : Option (Nat × Nat)),
      (slot = 1 ∧ position = c.posA) ∨ (slot = 2 ∧ position = c.posB) →
      ∀ p : Nat × Nat, position = some p ↔ ∃ n : Fin 4, s.cfg.senders[n].publish = slot ∧
        (∀ k : Fin 4, k < n → s.cfg.senders[k].publish ≠ slot) ∧ s.cfg.senders[n].mode = .resistive ∧
        s.meas.senders[n].base.valid = true ∧
        p = (n.val, (linearize s.cfg.senders[n].points s.meas.senders[n].base.avg).toNat)))

/-! ## The body line -/

/-- BREAK, TRUNCATED_FRAME, LINE_IDLE, STATUS_SPACING_END and ARBITRATION_LOSS change the receiver's view, the spacing
or the entry in flight, and nothing else: the entry that lost stays queued as it was. PERIODIC_STATUS_TIMER reloads
the timer with the state's period and queues a STATUS: in the empty slot with the next age, in place of the queued
content, or not at all while Muted. And any step that changes the station's requests, fan step, dimmer value, local shed
level, IGN input, IGN or station state leaves a running station that is not Muted with a STATUS queued, of the content
composed then (R2, R3, R8, R14, R22). That it is composed at the end of the command is the model's choice
(notes/assumptions/6.md), and what the receiver takes the line for is the model's own view of it
(notes/assumptions/8.md). -/
def Obligations.LineViewAndStatusTimer : Prop :=
  (∀ s : State, s.up = true →
    exec .lineBreak s = .next { s with line := { s.line with view := .busy } } ∧
    exec .truncatedFrame s = .next { s with line := { s.line with view := .busy } } ∧
    exec .statusSpacingEnd s = .next { s with line := { s.line with spacing := none } } ∧
    (s.line.inFlight = none → exec .lineIdle s = .next { s with line := { s.line with view := .idle } }) ∧
    (∀ f : InFlight, s.line.inFlight = some f → exec .arbitrationLoss s = .next { s with line := { s.line with
      view := .receiving, inFlight := none,
      counters := { s.line.counters with arbitrationLosses := min (s.line.counters.arbitrationLosses + 1) 65535 } } })) ∧
  (∀ s : State, s.up = true → s.line.periodic.isSome = true → ∀ p : Timer,
    p = (if s.strapInvalid = true then none
      else if s.ctl.state = .standby ∨ s.ctl.state = .setup then some 500 else some 100) →
    (s.line.sub = .muted → exec .periodicStatusTimer s = .next { s with line := { s.line with periodic := p } }) ∧
    (s.line.sub ≠ .muted → s.line.queue.status = none →
      exec .periodicStatusTimer s = .next { s with line := { s.line with
        periodic := p
        queue := { s.line.queue with
          status := some ⟨s.statusContent.payload, s.line.queue.nextAge, 0, false⟩
          nextAge := s.line.queue.nextAge + 1 } } }) ∧
    (∀ e : Entry, s.line.sub ≠ .muted → s.line.queue.status = some e →
      exec .periodicStatusTimer s = .next { s with line := { s.line with
        periodic := p
        queue := { s.line.queue with status := some { e with content := s.statusContent.payload } }
        inFlight := s.line.inFlight.map fun f =>
          if f.kind = .status ∧ f.age = e.age then { f with replaced := true } else f } })) ∧
  (∀ s t : State, step s = .next t → t.up = true → t.line.sub ≠ .muted →
    t.sw.requests ≠ s.sw.requests ∨ t.sw.fanStep ≠ s.sw.fanStep ∨ t.sw.dimmer ≠ s.sw.dimmer ∨
      t.supply.localLevel ≠ s.supply.localLevel ∨ (t.sw.ignAccepted = .closed ↔ s.sw.ignAccepted ≠ .closed) ∨
      t.res.ign ≠ s.res.ign ∨ t.ctl.state ≠ s.ctl.state →
    t.line.queue.status.map (·.content) = some t.statusContent.payload)

/-- FRAME_OFFER and JOIN_START_BIT put the most urgent eligible entry in flight, the oldest among equals. With none
eligible nothing is offered, and after another station's start bit nothing is until the next idle: its frame is received, and
FRAME_OFFER and JOIN_START_BIT change nothing on a line that is not idle (R7, R13, R21, R22). The receiver's view of the line
is the model's own (notes/assumptions/8.md). -/
def Obligations.OfferTakesMostUrgent : Prop :=
  (∀ s : State, s.line.view ≠ .idle → exec .frameOffer s = .next s ∧ exec .joinStartBit s = .next s) ∧
  (∀ s : State, s.QueueOk → s.up = true → s.line.view = .idle → s.line.inFlight = none →
    (∀ (kind : FrameKind) (e : Entry), s.line.Eligible s.strapInvalid kind e →
      (∀ (kind' : FrameKind) (e' : Entry), s.line.Eligible s.strapInvalid kind' e' →
        kind.urgency < kind'.urgency ∨ (kind = kind' ∧ e.age ≤ e'.age)) →
      ∀ t : State, t = { s with line := { s.line with
        view := .busy, inFlight := some ⟨kind, e.age, e.content, false⟩ } } →
      exec .frameOffer s = .next t ∧ exec .joinStartBit s = .next t) ∧
    ((∀ (kind : FrameKind) (e : Entry), ¬s.line.Eligible s.strapInvalid kind e) →
      exec .frameOffer s = .next s ∧
      exec .joinStartBit s = .next { s with line := { s.line with view := .receiving } }))

/-- A collision (of another frame than an ANNOUNCE) or an objection uses one of the entry's attempts, adds one to the
failed-attempt run and is counted. While attempts remain the entry stays; the last of them (FLASH 1, STATUS 3, ANNOUNCE and
REPLY 4) drops it. A REPLY that orders a restart is `RestartOrderedAsReplyLeaves`'s (R9, R11, R18, R21). That an entry
whose content was replaced during its last attempt is dropped with its replacement is the model's reading
(notes/assumptions/9.md). -/
def Obligations.FailedAttemptUsesEntry : Prop :=
  (∀ (s : State) (f : InFlight) (e : Entry) (q : Queue), s.QueueOk → s.up = true → s.line.inFlight = some f →
    f.age = e.age → s.line.sub = .muted ∨ (s.line.sub = .joined ∧ s.line.run + 1 < 16) →
    (f.kind = .status ∧ s.line.queue.status = some e ∧ e.used + 1 < 3 ∧
        q = { s.line.queue with status := some { e with used := e.used + 1 } }) ∨
      (f.kind = .announce ∧ s.line.queue.announce = some e ∧ e.used + 1 < 4 ∧
        q = { s.line.queue with announce := some { e with used := e.used + 1 } }) ∨
      (f.kind = .reply ∧ e ∈ s.line.queue.reply ∧ e.used + 1 < 4 ∧ q = { s.line.queue with
        reply := s.line.queue.reply.map fun x => if x.age = e.age then { x with used := x.used + 1 } else x }) →
    exec .attemptObjected s = .next { s with line := { s.line with
      view := .busy, run := min (s.line.run + 1) 255, queue := q, inFlight := none
      counters := { s.line.counters with objectionsReceived := min (s.line.counters.objectionsReceived + 1) 65535 } } } ∧
    (f.kind ≠ .announce → exec .collision s = .next { s with line := { s.line with
      view := .busy, run := min (s.line.run + 1) 255, queue := q, inFlight := none
      counters := { s.line.counters with collisions := min (s.line.counters.collisions + 1) 65535 } } })) ∧
  (∀ (s : State) (f : InFlight) (e : Entry) (q : Queue), s.QueueOk → s.up = true → s.line.inFlight = some f →
    f.age = e.age → s.line.sub = .muted ∨ (s.line.sub = .joined ∧ s.line.run + 1 < 16) →
    (f.kind = .flash ∧ e ∈ s.line.queue.flash ∧
        q = { s.line.queue with flash := s.line.queue.flash.filter fun x => x.age ≠ e.age }) ∨
      (f.kind = .status ∧ s.line.queue.status = some e ∧ 3 ≤ e.used + 1 ∧ q = { s.line.queue with status := none }) ∨
      (f.kind = .announce ∧ s.line.queue.announce = some e ∧ 4 ≤ e.used + 1 ∧
        q = { s.line.queue with announce := none }) ∨
      (f.kind = .reply ∧ e ∈ s.line.queue.reply ∧ e.restarts = false ∧ 4 ≤ e.used + 1 ∧
        q = { s.line.queue with reply := s.line.queue.reply.filter fun x => x.age ≠ e.age }) →
    exec .attemptObjected s = .next { s with line := { s.line with
      view := .busy, run := min (s.line.run + 1) 255, queue := q, inFlight := none
      counters := { s.line.counters with
        objectionsReceived := min (s.line.counters.objectionsReceived + 1) 65535
        framesDropped := min (s.line.counters.framesDropped + 1) 65535 } } } ∧
    (f.kind ≠ .announce → exec .collision s = .next { s with line := { s.line with
      view := .busy, run := min (s.line.run + 1) 255, queue := q, inFlight := none
      counters := { s.line.counters with
        collisions := min (s.line.counters.collisions + 1) 65535
        framesDropped := min (s.line.counters.framesDropped + 1) 65535 } } }))

/-- A Joined station enters Isolated at the failed attempt that brings the run to 16 and at a stuck line: the run is
0, FLASH leaves the queue, the entry is counted, a LINE_ISOLATED entry is made and the 1 s wait begins; a stuck line
restarts an Isolated station's wait and leaves a Muted one Muted. The end of the wait places the STATUS as it then
stands and makes the probe due; a probe that fails keeps its entry and the run, and a new wait begins (R20, R21). That
a stuck line ends nothing that is in flight, and that such an entry, whatever its kind, then fails as the probe does, is the
model's choice (notes/assumptions/11.md). -/
def Obligations.StationIsolatedAndProbes : Prop :=
  ((∀ (s : State) (f : InFlight) (c : Instr), s.up = true → s.line.sub = .joined → s.line.inFlight = some f →
    15 ≤ s.line.run → c = .attemptObjected ∨ (c = .collision ∧ f.kind ≠ .announce) →
    ∃ t : State, exec c s = .next t ∧ t.line.sub = .isolated ∧ t.line.isoWait = some 1000 ∧ t.line.probing = false ∧
      t.line.run = 0 ∧ t.line.queue.flash = [] ∧ t.line.inFlight = none ∧ t.line.view = .busy ∧
      t.line.counters.isolationEntries = min (s.line.counters.isolationEntries + 1) 65535 ∧
      t.faults = s.faults.add .lineIsolated none s.ctl.clock) ∧
  (∀ s : State, s.up = true → s.line.sub = .joined → exec .stuckLine s = .next { s with
    line := { s.line with
      view := .busy, sub := .isolated, isoWait := some 1000, probing := false, run := 0
      queue := { s.line.queue with flash := [] }
      counters := { s.line.counters with isolationEntries := min (s.line.counters.isolationEntries + 1) 65535 } }
    faults := s.faults.add .lineIsolated none s.ctl.clock }) ∧
  (∀ s : State, s.up = true → s.line.sub = .isolated → exec .stuckLine s = .next { s with
    line := { s.line with view := .busy, isoWait := some 1000, probing := false } }) ∧
  (∀ s : State, s.up = true → s.line.sub = .muted → exec .stuckLine s = .next { s with
    line := { s.line with view := .busy } })) ∧
  (∀ s : State, s.up = true → s.line.sub = .isolated →
    (s.line.isoWait.isSome = true → s.line.queue.status = none →
      exec .isolationWaitExpiry s = .next { s with line := { s.line with
        isoWait := none, probing := true
        queue := { s.line.queue with
          status := some ⟨s.statusContent.payload, s.line.queue.nextAge, 0, false⟩
          nextAge := s.line.queue.nextAge + 1 } } }) ∧
    (∀ e : Entry, s.line.isoWait.isSome = true → s.line.queue.status = some e →
      exec .isolationWaitExpiry s = .next { s with line := { s.line with
        isoWait := none, probing := true
        queue := { s.line.queue with status := some { e with content := s.statusContent.payload } }
        inFlight := s.line.inFlight.map fun f =>
          if f.kind = .status ∧ f.age = e.age then { f with replaced := true } else f } }) ∧
    (∀ f : InFlight, s.line.inFlight = some f →
      exec .attemptObjected s = .next { s with line := { s.line with
        view := .busy, inFlight := none, isoWait := some 1000, probing := false
        counters := { s.line.counters with
          objectionsReceived := min (s.line.counters.objectionsReceived + 1) 65535 } } } ∧
      (f.kind ≠ .announce → exec .collision s = .next { s with line := { s.line with
        view := .busy, inFlight := none, isoWait := some 1000, probing := false
        counters := { s.line.counters with collisions := min (s.line.counters.collisions + 1) 65535 } } })))

/-- The finding of a duplicate: an ANNOUNCE in flight that collides, or an unobjected STATUS, ANNOUNCE, FLASH or REPLY
with the station's own number. A Joined or Isolated station goes Muted, keeps its REPLY entries alone and has a
DUPLICATE entry made; a Muted one stays as it is (R9, R19). That the collision counts as a failed attempt first, so that
a Joined station whose run it brings to 16 enters Isolated and at once Muted, with both entries made, is the model's choice
(notes/assumptions/10.md). -/
def Obligations.DuplicateMutes : Prop :=
  (∀ (s : State) (f : InFlight), s.up = true → s.line.inFlight = some f → f.kind = .announce →
    s.line.sub = .isolated ∨ (s.line.sub = .joined ∧ s.line.run + 1 < 16) →
    ∃ t : State, exec .collision s = .next t ∧ t.line.sub = .muted ∧ t.line.isoWait = none ∧ t.line.probing = false ∧
      t.line.inFlight = none ∧ t.line.queue.status = none ∧ t.line.queue.announce = none ∧ t.line.queue.flash = [] ∧
      t.line.queue.reply = s.line.queue.reply ∧
      t.line.counters.collisions = min (s.line.counters.collisions + 1) 65535 ∧
      t.faults = s.faults.add .duplicate none s.ctl.clock) ∧
  (∀ (s : State) (f : InFlight), s.up = true → s.line.inFlight = some f → f.kind = .announce →
    s.line.sub = .joined → 15 ≤ s.line.run →
    ∃ t : State, exec .collision s = .next t ∧ t.line.sub = .muted ∧ t.line.isoWait = none ∧ t.line.probing = false ∧
      t.line.run = 0 ∧ t.line.inFlight = none ∧ t.line.queue.status = none ∧ t.line.queue.announce = none ∧
      t.line.queue.flash = [] ∧ t.line.queue.reply = s.line.queue.reply ∧
      t.line.counters.collisions = min (s.line.counters.collisions + 1) 65535 ∧
      t.line.counters.isolationEntries = min (s.line.counters.isolationEntries + 1) 65535 ∧
      t.faults = (s.faults.add .lineIsolated none s.ctl.clock).add .duplicate none s.ctl.clock) ∧
  (∀ (s : State) (f : InFlight), s.up = true → s.line.inFlight = some f → f.kind = .announce → s.line.sub = .muted →
    ∃ t : State, exec .collision s = .next t ∧ t.line.sub = .muted ∧ t.line.run = min (s.line.run + 1) 255 ∧
      t.line.inFlight = none ∧ t.line.queue.reply = s.line.queue.reply ∧
      t.line.counters.collisions = min (s.line.counters.collisions + 1) 65535 ∧ t.faults = s.faults) ∧
  (∀ (s : State) (n : Fin 16) (p : List Byte) (c : Instr), s.receives = true → n.val < 15 → n.val = s.straps.number →
    (c = .statusFrame n p ∧ (p.length = 8 ∨ p.length = 10 ∨ p.length = 12 ∨ p.length = 14)) ∨
      (c = .announceFrame n p ∧ p.length = 11) ∨ (c = .flashFrame n p ∧ p.length = 1) ∨
      (c = .replyFrame n p ∧ 1 ≤ p.length ∧ p.length ≤ 15) →
    (s.line.sub ≠ .muted → ∃ t : State, exec c s = .next t ∧ t.line.sub = .muted ∧ t.line.isoWait = none ∧
      t.line.probing = false ∧ t.line.queue.status = none ∧ t.line.queue.announce = none ∧ t.line.queue.flash = [] ∧
      t.line.queue.reply = s.line.queue.reply ∧ t.faults = s.faults.add .duplicate none s.ctl.clock) ∧
    (s.line.sub = .muted → ∃ t : State, exec c s = .next t ∧ t.line.sub = .muted ∧ t.faults = s.faults))

/-- ATTEMPT_SUCCESS: the entry leaves, the frame is counted, the run returns to 0, a STATUS begins its 20 ms spacing, an
Isolated station is Joined again, and content replaced during the attempt joins anew (R11, R14, R21, R22). An own FLASH
whose side set the cycle runs on is `FlashAligns`'s, a REPLY that orders a restart `RestartOrderedAsReplyLeaves`'s. That an
Isolated station is Joined by the success of an entry that is no probe is the model's choice (notes/assumptions/11.md). -/
def Obligations.AttemptSucceeds : Prop :=
  ∀ (s : State) (f : InFlight) (e : Entry) (l : Line), s.QueueOk → s.up = true → s.line.inFlight = some f →
    f.age = e.age →
    l = { s.line with
      view := .busy, run := 0, inFlight := none
      sub := if s.line.sub = .isolated then .joined else s.line.sub
      isoWait := if s.line.sub = .isolated then none else s.line.isoWait
      probing := if s.line.sub = .isolated then false else s.line.probing
      counters := { s.line.counters with framesSent := min (s.line.counters.framesSent + 1) 65535 } } →
    (f.kind = .status → s.line.queue.status = some e →
      (f.replaced = false → exec .attemptSuccess s = .next { s with line := { l with
        spacing := some 20, queue := { s.line.queue with status := none } } }) ∧
      (f.replaced = true → exec .attemptSuccess s = .next { s with line := { l with
        spacing := some 20
        queue := { s.line.queue with
          status := some ⟨e.content, s.line.queue.nextAge, 0, false⟩, nextAge := s.line.queue.nextAge + 1 } } })) ∧
    (f.kind = .announce → s.line.queue.announce = some e →
      (f.replaced = false → exec .attemptSuccess s = .next { s with line := { l with
        queue := { s.line.queue with announce := none } } }) ∧
      (f.replaced = true → exec .attemptSuccess s = .next { s with line := { l with
        queue := { s.line.queue with
          announce := some ⟨e.content, s.line.queue.nextAge, 0, false⟩, nextAge := s.line.queue.nextAge + 1 } } })) ∧
    (f.kind = .reply → e ∈ s.line.queue.reply → e.restarts = false → f.replaced = false →
      exec .attemptSuccess s = .next { s with line := { l with
        queue := { s.line.queue with reply := s.line.queue.reply.filter fun x => x.age ≠ e.age } } }) ∧
    (f.kind = .flash → e ∈ s.line.queue.flash → f.replaced = false →
      s.flash.phase = .idle ∨ (decodeFlash (f.content.headD 0)).sides = none ∨
        (decodeFlash (f.content.headD 0)).sides ≠ s.flash.sides →
      exec .attemptSuccess s = .next { s with line := { l with
        queue := { s.line.queue with flash := s.line.queue.flash.filter fun x => x.age ≠ e.age } } }) ∧
    (f.kind = .flash → e ∈ s.line.queue.flash → f.replaced = true →
      s.flash.phase = .idle ∨ (decodeFlash (f.content.headD 0)).sides = none ∨
        (decodeFlash (f.content.headD 0)).sides ≠ s.flash.sides →
      exec .attemptSuccess s = .next { s with line := { l with
        queue := { s.line.queue with
          flash := (s.line.queue.flash.filter fun x => x.age ≠ e.age) ++ [⟨e.content, s.line.queue.nextAge, 0, false⟩]
          nextAge := s.line.queue.nextAge + 1 } } })

/-- A service restart is ordered when the REPLY that carries it leaves the queue, sent or dropped, and abandons a
commit that is programming, which leaves the store without a record whose check matches; a REPLY that is dropped by the
failure that isolates the station orders it too (R187, R190). The abandoned store is `none`
(notes/assumptions/17.md). -/
def Obligations.RestartOrderedAsReplyLeaves : Prop :=
  ∀ (s : State) (f : InFlight) (e : Entry) (c : Instr), s.QueueOk → s.up = true → s.line.inFlight = some f →
    f.kind = .reply → f.replaced = false → f.age = e.age → e ∈ s.line.queue.reply → e.restarts = true →
    (c = .attemptSuccess ∨ ((c = .attemptObjected ∨ c = .collision) ∧ 4 ≤ e.used + 1 ∧
      (s.line.sub = .muted ∨ (s.line.sub = .joined ∧ s.line.run + 1 < 16))) →
    ∃ t : State, exec c s = .next t ∧ t.line.inFlight = none ∧
      t.line.queue = { s.line.queue with reply := s.line.queue.reply.filter fun x => x.age ≠ e.age } ∧
      t.svc = { s.svc with restartOrdered := true, programming := false } ∧
      t.store = (if s.svc.programming = true then none else s.store) ∧
      t = { s with line := t.line, svc := t.svc, store := t.store }) ∧
    ((c = .attemptObjected ∨ c = .collision) → 4 ≤ e.used + 1 → s.line.sub = .joined → 15 ≤ s.line.run →
    ∃ t : State, exec c s = .next t ∧ t.line.sub = .isolated ∧ t.line.queue.flash = [] ∧
      t.line.queue.reply = (s.line.queue.reply.filter fun x => decide (x.age ≠ e.age)) ∧
      t.svc = { s.svc with restartOrdered := true, programming := false } ∧
      t.store = (if s.svc.programming = true then none else s.store) ∧
      t.faults = s.faults.add .lineIsolated none s.ctl.clock)

/-- OBJECTED_FRAME is discarded: the receiver that found a framing error, a format error or a check mismatch counts the
objection it raised, and the mismatch (R5, R6, R10, R12, R23); REPLY_FRAME of another station changes nothing but the
line's being busy. -/
def Obligations.FramesDiscarded : Prop :=
  (∀ (s : State) (claim head : Byte) (payload : List Byte) (check : Byte) (framing mismatch faulty : Bool),
    s.receives = true →
    (mismatch = true ↔ check ≠ crc8 (claim :: head :: payload)) →
    (faulty = true ↔ s.strapInvalid = false ∧ (framing = true ∨ mismatch = true ∨ ¬FormatAllowed claim head)) →
    exec (.objectedFrame claim head payload check framing) s = .next { s with line := { s.line with
      view := .busy
      counters := { s.line.counters with
        objectionsRaised := if faulty then min (s.line.counters.objectionsRaised + 1) 65535
          else s.line.counters.objectionsRaised
        checkErrors := if mismatch then min (s.line.counters.checkErrors + 1) 65535
          else s.line.counters.checkErrors } } }) ∧
  (∀ (s : State) (n : Fin 16) (payload : List Byte), s.Hears n → 1 ≤ payload.length → payload.length ≤ 15 →
    exec (.replyFrame n payload) s = .next { s with line := { s.line with view := .busy } })

/-! ## The Peer Table and received frames -/

/-- STATUS_FRAME of another station that has a record is taken into it: every field R31 names takes the frame's value,
clamped as R31 gives, an optional field whose presence flag is clear is made absent, the record is Present with no frame
missed and its ageing timer at the interval of the state just taken in, and its unique ID, checksum and role flags stay;
no other record changes. One whose presence flags do not agree with its length, or whose station state is the fourth value,
is not taken in: the inconsistent STATUS count goes up and nothing else changes but the line's being busy (R31, R32). -/
def Obligations.StatusTakenIn : Prop :=
  (∀ (s : State) (n : Fin 16) (p : List Byte) (r : PeerRecord) (station : PeerStation) (battery posA posB : Bool),
    s.Hears n → s.peers.find n.val = some r →
    battery = (p.getD 6 0).getLsbD 2 → posA = (p.getD 6 0).getLsbD 1 → posB = (p.getD 6 0).getLsbD 0 →
    p.length = 8 + 2 * battery.toNat + 2 * posA.toNat + 2 * posB.toNat →
    (byteAt p 6 / 16 % 4 = 0 ∧ station = .awake) ∨ (byteAt p 6 / 16 % 4 = 1 ∧ station = .standby) ∨
      (byteAt p 6 / 16 % 4 = 2 ∧ station = .setup) →
    ∃ t : State, exec (.statusFrame n p) s = .next t ∧
      HandedOn { s with line := { s.line with view := .busy }, peers := t.peers } t ∧
      t.peers.find n.val = some { r with
        state := .present
        requests := BitVec.ofNat 16 (wordAt p 0)
        fanStep := byteAt p 2 / 64
        dimmer := byteAt p 2 % 64
        demand := min (wordAt p 3) 4095
        supply := min (byteAt p 5) 200
        shed := byteAt p 6 / 64
        station := station
        ign := (p.getD 6 0).getLsbD 3
        faults := ⟨(p.getD 7 0).getLsbD 7, (p.getD 7 0).getLsbD 6, (p.getD 7 0).getLsbD 5, (p.getD 7 0).getLsbD 4,
          (p.getD 7 0).getLsbD 3, (p.getD 7 0).getLsbD 2⟩
        bulbLeft := (p.getD 7 0).getLsbD 1
        bulbRight := (p.getD 7 0).getLsbD 0
        battery := if battery then some (max (-600) (min 600 (signed16 (wordAt p 8)))) else none
        posA := if posA then some (wordAt p (8 + 2 * battery.toNat) / 16384,
          min (wordAt p (8 + 2 * battery.toNat) % 1024) 1000) else none
        posB := if posB then some (wordAt p (8 + 2 * battery.toNat + 2 * posA.toNat) / 16384,
          min (wordAt p (8 + 2 * battery.toNat + 2 * posA.toNat) % 1024) 1000) else none
        missed := 0
        ageing := if station = .awake then some 100 else some 500 } ∧
      (∀ m : Nat, m ≠ n.val → t.peers.find m = s.peers.find m) ∧
      t.peers.changed = s.peers.changed ∧ t.peers.inconsistent = s.peers.inconsistent) ∧
  (∀ (s : State) (n : Fin 16) (p : List Byte) (r : PeerRecord), s.Hears n → s.peers.find n.val = some r →
    p.length = 8 ∨ p.length = 10 ∨ p.length = 12 ∨ p.length = 14 →
    p.length ≠ 8 + 2 * ((p.getD 6 0).getLsbD 2).toNat + 2 * ((p.getD 6 0).getLsbD 1).toNat
        + 2 * ((p.getD 6 0).getLsbD 0).toNat ∨ byteAt p 6 / 16 % 4 = 3 →
    exec (.statusFrame n p) s = .next { s with
      line := { s.line with view := .busy }
      peers := { s.peers with inconsistent := min (s.peers.inconsistent + 1) 65535 } })

/-- ANNOUNCE_FRAME of another station that has a record fills or replaces its unique ID, checksum and role flags; a
record not Absent that held another unique ID is a replaced peer: its optional fields become absent and the peer-changed
counter goes up (R37, R38). -/
def Obligations.AnnounceTakenIn : Prop :=
  ∀ (s : State) (n : Fin 16) (p : List Byte) (r r' : PeerRecord), s.Hears n → p.length = 11 →
    s.peers.find n.val = some r →
    r' = { r with
      uid := some (BitVec.ofNat 64
        (((wordAt p 0 * 65536 + wordAt p 2) * 65536 + wordAt p 4) * 65536 + wordAt p 6))
      checksum := some (BitVec.ofNat 16 (wordAt p 8))
      roles := some ⟨(p.getD 10 0).getLsbD 3, (p.getD 10 0).getLsbD 2,
        ((p.getD 10 0).getLsbD 1, (p.getD 10 0).getLsbD 0)⟩ } →
    ∃ t : State, exec (.announceFrame n p) s = .next t ∧
      HandedOn { s with line := { s.line with view := .busy }, peers := t.peers } t ∧
      (∀ m : Nat, m ≠ n.val → t.peers.find m = s.peers.find m) ∧ t.peers.inconsistent = s.peers.inconsistent ∧
      (r.state = .absent ∨ r.uid = none ∨ r.uid = r'.uid →
        t.peers.find n.val = some r' ∧ t.peers.changed = s.peers.changed) ∧
      (¬(r.state = .absent ∨ r.uid = none ∨ r.uid = r'.uid) →
        t.peers.find n.val = some { r' with battery := none, posA := none, posB := none } ∧
        t.peers.changed = min (s.peers.changed + 1) 65535)

/-- FLASH_FRAME of another station: its record takes the two bulb-out flags, a queued FLASH of its side set whose flags
are among the frame's is withdrawn, and while the cycle runs the flags enter the cycle in progress as received marks;
where the side sets differ or the cycle is Idle the cycle goes on as it was, and so it does in Setup and at a
strap-invalid station (R16, R39, R112, R114, R122). -/
def Obligations.FlashTakenIn : Prop :=
  ∀ (s : State) (n : Fin 16) (b : Byte), s.Hears n →
    (s.drives = true → s.FlashAgrees ∧
      (s.flash.phase = .idle ∨ b.toNat / 64 = 0 ∨ some (b.toNat / 64) ≠ s.flash.sides.map SideSet.code)) →
    ∃ t : State, exec (.flashFrame n [b]) s = .next t ∧
      HandedOn { s with line := { s.line with view := .busy }, peers := t.peers } t ∧
      t.line.queue.flash = s.line.queue.flash.filter (fun e =>
        decide (¬(b.toNat / 64 ≠ 0 ∧ b.toNat / 64 = (e.content.headD 0).toNat / 64 ∧
          ((e.content.headD 0).getLsbD 5 = true → b.getLsbD 5 = true) ∧
          ((e.content.headD 0).getLsbD 4 = true → b.getLsbD 4 = true)))) ∧
      (∀ r : PeerRecord, s.peers.find n.val = some r →
        t.peers.find n.val = some { r with bulbLeft := b.getLsbD 5, bulbRight := b.getLsbD 4 }) ∧
      (∀ m : Nat, m ≠ n.val → t.peers.find m = s.peers.find m) ∧
      t.peers.changed = s.peers.changed ∧ t.peers.inconsistent = s.peers.inconsistent ∧
      t.flash = (if s.drives = false ∨ s.flash.phase = .idle ∨ b.toNat / 64 = 0 then s.flash else
        { s.flash with memory := { s.flash.memory with current := { s.flash.memory.current with
          receivedLeft := s.flash.memory.current.receivedLeft || b.getLsbD 5
          receivedRight := s.flash.memory.current.receivedRight || b.getLsbD 4 } } })

/-- A FLASH of the cycle's side set, received or the station's own that succeeds, aligns the cycle: On from the end of the
slot with a fresh On half, a new cycle in the memory only from Off, the rate decided afresh with the frame's fast-rate
flag, the named channels armed, and no FLASH queued for it: a received one leaves its bulb-out flags in its sender's record
alone and withdraws as R16 gives, the station's own
leaves the queue, and the content that replaced it in flight joins anew (R14 to R16, R39, R112, R115, R118, R119). -/
def Obligations.FlashAligns : Prop :=
  ∀ (s : State) (c : Instr) (b : Byte) (x : SideSet) (memory : BulbMemory) (fast : Bool),
    s.QueueOk → s.up = true → s.drives = true → s.FlashAgrees → s.flash.phase ≠ .idle → s.flash.sides = some x →
    b.toNat / 64 = x.code →
    memory = (if s.flash.phase = .off then ⟨CycleMarks.clear, s.flash.memory.current, s.flash.memory.before⟩
      else s.flash.memory) →
    (fast = true ↔ b.getLsbD 3 = true ∨
      (x ≠ .right ∧ (memory.before.ownLeft || memory.earlier.ownLeft || memory.before.receivedLeft
        || memory.earlier.receivedLeft) = true) ∨
      (x ≠ .left ∧ (memory.before.ownRight || memory.earlier.ownRight || memory.before.receivedRight
        || memory.earlier.receivedRight) = true)) →
    (∀ n : Fin 16, c = .flashFrame n [b] → s.Hears n → ∃ t : State, exec c s = .next t ∧
      HandedOn { s with line := { s.line with view := .busy }, peers := t.peers } t ∧
      t.line.queue.flash = s.line.queue.flash.filter (fun e =>
        decide (¬(b.toNat / 64 ≠ 0 ∧ b.toNat / 64 = (e.content.headD 0).toNat / 64 ∧
          ((e.content.headD 0).getLsbD 5 = true → b.getLsbD 5 = true) ∧
          ((e.content.headD 0).getLsbD 4 = true → b.getLsbD 4 = true)))) ∧ s.MarksArmed x t ∧
      (∀ r : PeerRecord, s.peers.find n.val = some r →
        t.peers.find n.val = some { r with bulbLeft := b.getLsbD 5, bulbRight := b.getLsbD 4 }) ∧
      (∀ m : Nat, m ≠ n.val → t.peers.find m = s.peers.find m) ∧
      t.peers.changed = s.peers.changed ∧ t.peers.inconsistent = s.peers.inconsistent ∧
      t.flash = { s.flash with
        phase := .on, sides := some x, fast := fast
        half := some (if fast then (roundDiv s.cfg.flashPeriod 4).toNat else s.cfg.flashPeriod / 2)
        memory := { memory with current := { memory.current with
          receivedLeft := memory.current.receivedLeft || b.getLsbD 5
          receivedRight := memory.current.receivedRight || b.getLsbD 4 } } }) ∧
    (∀ (f : InFlight) (e : Entry), c = .attemptSuccess → s.line.inFlight = some f → f.kind = .flash → f.content = [b] →
      f.age = e.age → e ∈ s.line.queue.flash → s.line.sub = .joined →
      ∃ t : State, exec c s = .next t ∧
      HandedOn { s with line := { s.line with
        view := .busy, run := 0, inFlight := none
        counters := { s.line.counters with framesSent := min (s.line.counters.framesSent + 1) 65535 } } } t ∧
      t.line.queue.flash = s.line.queue.flash.filter (fun y => decide (y.age ≠ e.age)) ++
        (if f.replaced then [⟨e.content, s.line.queue.nextAge, 0, false⟩] else []) ∧ s.MarksArmed x t ∧
      t.flash = { s.flash with
        phase := .on, sides := some x, fast := fast, memory := memory
        half := some (if fast then (roundDiv s.cfg.flashPeriod 4).toNat else s.cfg.flashPeriod / 2) })

/-- AGEING_TIMER_EXPIRY: one more frame missed; at 3 a Present record is Stale, at 10 the record is Lost with its timer
stopped and the count at 10; otherwise the timer restarts with the interval of the peer's state (R33, R34). -/
def Obligations.RecordAges : Prop :=
  ∀ (s : State) (n : Fin 15) (r : PeerRecord), s.up = true → s.peers.find n.val = some r → r.ageing.isSome = true →
    ∃ t : State, exec (.ageingTimerExpiry n) s = .next t ∧ HandedOn { s with peers := t.peers } t ∧
      (10 ≤ r.missed + 1 → t.peers.find n.val = some { r with missed := 10, state := .lost, ageing := none }) ∧
      (r.missed + 1 < 10 → t.peers.find n.val = some { r with
        missed := r.missed + 1
        state := if r.state = .present ∧ 3 ≤ r.missed + 1 then .stale else r.state
        ageing := if r.station = .awake then some 100 else some 500 }) ∧
      (∀ m : Nat, m ≠ n.val → t.peers.find m = s.peers.find m) ∧
      t.peers.changed = s.peers.changed ∧ t.peers.inconsistent = s.peers.inconsistent

/-! ## Switch inputs and the IGN pin -/

/-- SWITCH_RAW_CHANGE and IGN_PIN_CHANGE set the pin; where the raw state of an enabled input of a running station
changes, its debounce timer starts, or stops when the raw state is back at the accepted one. DEBOUNCE_EXPIRY accepts the
raw state: settling from undetermined is no transition; a transition to closed flips a Toggle input and ends a Timed-off
hold, one to open starts the hold of a Timed-off input whose hold time is above 0. HOLD_TIMER_EXPIRY ends the hold,
IGN_DEBOUNCE_EXPIRY accepts the pin. The local requests follow (`InputsOk`). A transition, and in the hand-ons any change
of the functions in force or of IGN, leaves a Standby station's quiet timer at its full period (R43 to R47, R53, R55,
R178). -/
def Obligations.InputsDebounced : Prop :=
  (∀ (s : State) (i : Fin 8) (level : PinLevel) (ign : Bool) (raw : Contact),
    (raw = .closed ↔ (level = .earth ∧ s.cfg.switches[i].closedToSupply = false) ∨
      (level = .supply ∧ s.cfg.switches[i].closedToSupply = true)) → (raw = .closed ∨ raw = .opened) →
    (s.up = true → s.cfg.switches[i].enabled = true → raw ≠ s.raw i →
      exec (.switchRawChange i level) s = .next { s with
        pins := { s.pins with switches := s.pins.switches.set i level }
        sw := { s.sw with inputs := s.sw.inputs.set i { s.sw.inputs[i] with
          debounce := if raw = s.sw.inputs[i].accepted then none else some 20 } } }) ∧
    (s.up = false ∨ s.cfg.switches[i].enabled = false ∨ raw = s.raw i →
      exec (.switchRawChange i level) s = .next { s with
        pins := { s.pins with switches := s.pins.switches.set i level } }) ∧
    (s.up = true → s.pins.ign ≠ ign → exec (.ignPinChange ign) s = .next { s with
      pins := { s.pins with ign := ign }
      sw := { s.sw with ignDebounce :=
        if (if ign then Contact.closed else Contact.opened) = s.sw.ignAccepted then none else some 20 } }) ∧
    (s.up = false ∨ s.pins.ign = ign → exec (.ignPinChange ign) s = .next { s with
      pins := { s.pins with ign := ign } })) ∧
  (∀ (s : State) (i : Fin 8), s.up = true →
    (∀ (y : SwitchState) (transition : Bool), s.sw.inputs[i].debounce.isSome = true →
      transition = (decide (s.sw.inputs[i].accepted ≠ .undetermined) && decide (s.sw.inputs[i].accepted ≠ s.raw i)) →
      y = { s.sw.inputs[i] with
        accepted := s.raw i, debounce := none
        toggle := if transition = true ∧ s.raw i = .closed ∧ s.cfg.switches[i].mode = 1
          then !s.sw.inputs[i].toggle else s.sw.inputs[i].toggle
        hold := if transition = true ∧ s.cfg.switches[i].mode = 2 ∧ s.raw i = .closed then none
          else if transition = true ∧ s.cfg.switches[i].mode = 2 ∧ 0 < s.cfg.switches[i].hold
          then some (s.cfg.switches[i].hold * 1000) else s.sw.inputs[i].hold } →
      ∃ t : State, exec (.debounceExpiry i) s = .next t ∧ HandedOn { s with sw := { s.sw with
        inputs := s.sw.inputs.set i y, requests := t.sw.requests, fanStep := t.sw.fanStep,
        dimmer := t.sw.dimmer } } t ∧
      (transition = true → t.ctl.state = .standby → t.ctl.quiet = some (s.cfg.quiet * 1000))) ∧
    (s.sw.inputs[i].hold.isSome = true → ∃ t : State, exec (.holdTimerExpiry i) s = .next t ∧
      HandedOn { s with sw := { s.sw with
        inputs := s.sw.inputs.set i { s.sw.inputs[i] with hold := none }, requests := t.sw.requests,
        fanStep := t.sw.fanStep, dimmer := t.sw.dimmer } } t) ∧
    (s.sw.ignDebounce.isSome = true → ∃ t : State, exec .ignDebounceExpiry s = .next t ∧
      HandedOn { s with sw := { s.sw with
        ignAccepted := if s.pins.ign then .closed else .opened, ignDebounce := none } } t)) ∧
  (∀ (s before t : State) (fresh : Bool), t = s.settle before fresh → t.ctl.state = .standby →
    ((∃ k, k < 14 ∧ t.res.eff.byCode k ≠ before.res.eff.byCode k) → t.ctl.quiet = some (s.cfg.quiet * 1000)) ∧
    ((∀ k, k < 14 → t.res.eff.byCode k = before.res.eff.byCode k) → s.ctl.state = .standby →
      t.ctl.quiet = s.ctl.quiet))

/-! ## The Measurement Unit -/

/-- PASS_TIMER begins a pass at slot 0. SAMPLE in an unfinished block replaces the input's latest sample by the
reading, clamped to the input's range and marked over-range beyond it, adds it to the sum and goes on to the next
slot; in the supply block the minimum follows; nothing else changes unless the sample trips its channel (R63 to R66,
R69). A negative reading counting as beyond a range that begins at 0 is the model's choice (notes/assumptions/13.md).
-/
def Obligations.SampleJoinsBlock : Prop :=
  (∀ s : State, s.up = true → s.meas.passTimer.isSome = true →
    exec .passTimer s = .next { s with meas := { s.meas with passTimer := some 4, slot := some 0 } }) ∧
  (∀ (s : State) (k : Nat) (x : Int) (input : SlotInput) (lo hi : Int), s.up = true → s.meas.slot = some k → k ≤ 14 →
    (k = 2 → s.cfg.shunt = true) → input = slotInput k → input.Unfinished s →
    lo = (match input with | .die => -40 | .battery => -600 | _ => 0) →
    hi = (match input with | .supply => 2000 | .die => 160 | .battery => 600 | .channel _ => 400 | .sender _ => 1023) →
    (∀ i : Fin 8, input = .channel i → s.hardApplies i = false ∨ (0 ≤ x ∧ x ≤ s.cfg.channels[i].hardLimit ∧ x ≤ 400)) →
    ∃ m : Measurement, exec (.sample x) s = .next { s with meas := m } ∧
      m.slot = (if k = 1 ∧ s.cfg.shunt = false then some 3 else if k = 14 then none else some (k + 1)) ∧
      m.record input = { s.meas.record input with
        latest := max lo (min hi x)
        latestOver := decide ((x < lo ∨ hi < x) ∧ k ≤ 10)
        sum := (s.meas.record input).sum + max lo (min hi x)
        count := (s.meas.record input).count + 1
        sumOver := (s.meas.record input).sumOver || decide ((x < lo ∨ hi < x) ∧ k ≤ 10) } ∧
      (∀ other : SlotInput, other ≠ input → m.record other = s.meas.record other) ∧
      m.minLatest = (if k = 0 then (if s.meas.supply.count = 0 then max lo (min hi x)
        else min s.meas.minLatest (max lo (min hi x))) else s.meas.minLatest) ∧
      (∀ i : Fin 8, m.channels[i].mark = s.meas.channels[i].mark) ∧
      (∀ n : Fin 4, m.senders[n] = { s.meas.senders[n] with base := m.senders[n].base }) ∧
      m.minAvg = s.meas.minAvg ∧ m.passTimer = s.meas.passTimer)

/-- SAMPLE that completes a block: the averaged value is the rounded mean of the block, the record is valid, its
over-range flag says whether the block took in an over-range sample, and the next block is empty; a supply block hands
its lowest sample to the supply minimum; what every other input's record gives stands, and another sender's conditions (R64,
R65, R66, R69). On a negative reading see notes/assumptions/13.md. -/
def Obligations.SampleCompletesBlock : Prop :=
  ∀ (s : State) (k : Nat) (x : Int) (input : SlotInput) (lo hi : Int) (beyond : Bool), s.up = true →
    s.meas.slot = some k → k ≤ 14 → (k = 2 → s.cfg.shunt = true) → input = slotInput k →
    input.blockLength s.cfg.ni ≤ (s.meas.record input).count + 1 →
    lo = (match input with | .die => -40 | .battery => -600 | _ => 0) →
    hi = (match input with | .supply => 2000 | .die => 160 | .battery => 600 | .channel _ => 400 | .sender _ => 1023) →
    beyond = decide ((x < lo ∨ hi < x) ∧ k ≤ 10) →
    ∃ t : State, exec (.sample x) s = .next t ∧
      (t.meas.record input).latest = max lo (min hi x) ∧ (t.meas.record input).latestOver = beyond ∧
      (t.meas.record input).avg =
        roundDiv ((s.meas.record input).sum + max lo (min hi x)) (input.blockLength s.cfg.ni) ∧
      (t.meas.record input).valid = true ∧
      (t.meas.record input).overRange = ((s.meas.record input).sumOver || beyond) ∧
      (t.meas.record input).sum = 0 ∧ (t.meas.record input).count = 0 ∧
      (∀ other : SlotInput, other ≠ input →
        (t.meas.record other).latest = (s.meas.record other).latest ∧
        (t.meas.record other).latestOver = (s.meas.record other).latestOver ∧
        (t.meas.record other).avg = (s.meas.record other).avg ∧
        (t.meas.record other).valid = (s.meas.record other).valid ∧
        (t.meas.record other).overRange = (s.meas.record other).overRange) ∧
      (∀ n : Fin 4, input ≠ .sender n → t.meas.senders[n] = s.meas.senders[n]) ∧
      (k = 0 → t.meas.minAvg = (if s.meas.supply.count = 0 then max lo (min hi x)
        else min s.meas.minLatest (max lo (min hi x)))) ∧
      (k ≠ 0 → t.meas.minAvg = s.meas.minAvg ∧ t.meas.minLatest = s.meas.minLatest) ∧
      t.meas.passTimer = s.meas.passTimer ∧
      t.meas.slot = (if k = 1 ∧ s.cfg.shunt = false then some 3 else if k = 14 then none else some (k + 1)) ∧
      t.pins = s.pins ∧ t.store = s.store ∧ t.cfg = s.cfg ∧ t.peers = s.peers ∧ t.gauges = s.gauges ∧
      t.svc = s.svc ∧ t.pending = s.pending

/-- The sample that completes a supply block has contributor (a)'s six timers judged at the new average, unless crank
hold is in force or the crank condition comes to hold at that average, when they stand; a completed die-temperature
block enters thermal hold at 140 °C or more, with a THERMAL entry, and ends it below 125 °C; a completed battery-shunt
block has contributor (b)'s four timers judged while IGN is on. In the hand-ons crank hold is entered as its condition
holds and its 500 ms release timer starts as it stops; IGN that goes off clears (b) and (d), stops their timers and starts
the drain tick; IGN that comes on clears (c), the accumulator and its flag and stops the tick; and while IGN is on (d)'s
timers are judged at the harness load (R126 to R132, R135, R137). That crank hold is judged before contributor (a) is the
model's choice (notes/assumptions/12.md), and so is the THERMAL entry at a strap-invalid station
(notes/assumptions/40.md). -/
def Obligations.SupplyAndThermalJudged : Prop :=
  (∀ (s : State) (x v : Int) (start crank : Bool), s.up = true → s.meas.slot = some 0 →
    15 ≤ s.meas.supply.count → v = roundDiv (s.meas.supply.sum + max 0 (min 2000 x)) 16 →
    start = s.res.union.getLsbD 14 →
    (crank = true ↔ s.supply.crank = true ∨
      (s.res.ign = true ∧ (start = true ∨ v < (if s.straps.sixVolt then 450 else 900)))) →
    ∃ t : State, exec (.sample x) s = .next t ∧
      (crank = true → ∀ p : PersTimer, persOfSupply p = true → t.supply.timer p = s.supply.timer p) ∧
      (crank = false → ∀ (p : PersTimer) (meets : Bool),
        (p = .entry1 ∧ (meets = true ↔ v < s.cfg.t1)) ∨ (p = .entry2 ∧ (meets = true ↔ v < s.cfg.t2)) ∨
          (p = .entry3 ∧ (meets = true ↔ v < s.cfg.t3)) ∨
          (p = .exit1 ∧ (meets = true ↔ (s.cfg.t1 : Int) + s.cfg.hyst ≤ v)) ∨
          (p = .exit2 ∧ (meets = true ↔ (s.cfg.t2 : Int) + s.cfg.hyst ≤ v)) ∨
          (p = .exit3 ∧ (meets = true ↔ (s.cfg.t3 : Int) + s.cfg.hyst ≤ v)) →
        t.supply.timer p = (if meets = false then .stopped
          else if s.supply.timer p = .stopped then .running else s.supply.timer p)) ∧
      t.supply.a = s.supply.a ∧ t.faults = s.faults) ∧
  (∀ (s : State) (x v : Int), s.up = true → s.meas.slot = some 1 → 15 ≤ s.meas.die.count →
    v = roundDiv (s.meas.die.sum + max (-40) (min 160 x)) 16 →
    ∃ t : State, exec (.sample x) s = .next t ∧
      t.supply.thermal = (if s.supply.thermal = true then decide (125 ≤ v) else decide (140 ≤ v)) ∧
      t.faults = (if s.supply.thermal = false ∧ 140 ≤ v then s.faults.add .thermal none s.ctl.clock else s.faults)) ∧
  (∀ (s : State) (x v : Int), s.up = true → s.ResolverOk → s.meas.slot = some 2 → s.cfg.shunt = true →
    15 ≤ s.meas.battery.count → v = roundDiv (s.meas.battery.sum + max (-600) (min 600 x)) 16 →
    ∃ t : State, exec (.sample x) s = .next t ∧ t.supply.a = s.supply.a ∧
      (s.res.ign = true → t.supply.b = s.supply.b ∧ ∀ (p : PersTimer) (meets : Bool),
        (p = .raise1 ∧ (meets = true ↔ v < -(s.cfg.d1 : Int))) ∨ (p = .raise2 ∧ (meets = true ↔ v < -(s.cfg.d2 : Int))) ∨
          (p = .lower1 ∧ (meets = true ↔ -((s.cfg.d2 : Int) - 10) < v)) ∨
          (p = .lower0 ∧ (meets = true ↔ -((s.cfg.d1 : Int) - 10) < v)) →
        t.supply.timer p = (if meets = false then .stopped
          else if s.supply.timer p = .stopped then .running else s.supply.timer p)) ∧
      (s.res.ign = false → t.supply = { s.supply with
        localLevel := t.supply.localLevel, effective := t.supply.effective, harness := t.supply.harness
        orders := t.supply.orders, holds := t.supply.holds, crank := t.supply.crank, release := t.supply.release })) ∧
  (∀ (s before t : State) (fresh condition : Bool), t = s.settle before fresh →
    (condition = true ↔ t.res.ign = true ∧ (t.res.union.getLsbD 14 = true ∨
      (s.meas.supply.valid = true ∧ s.meas.supply.avg < (if s.straps.sixVolt then 450 else 900)))) →
    t.supply.crank = (condition || s.supply.crank) ∧
    t.supply.release = (if condition = true then none
      else if s.supply.crank = true ∧ s.supply.release = none then some 500 else s.supply.release)) ∧
  (∀ (s before t : State) (fresh : Bool), t = s.settle before fresh →
    (s.res.ign = true → t.res.ign = false →
      t.supply.b = 0 ∧ t.supply.d = 0 ∧ t.supply.c = s.supply.c ∧ t.supply.drain = s.supply.drain ∧
      t.supply.drainOver = s.supply.drainOver ∧ t.supply.drainTick = some 1000 ∧
      ∀ p : PersTimer, t.supply.timer p = (if persOfSupply p then s.supply.timer p else .stopped)) ∧
    (s.res.ign = false → t.res.ign = true → t.supply.b = s.supply.b ∧ t.supply.d = s.supply.d ∧ t.supply.c = 0 ∧
      t.supply.drain = 0 ∧ t.supply.drainOver = false ∧ t.supply.drainTick = none) ∧
    (s.res.ign = t.res.ign → t.supply.b = s.supply.b ∧ t.supply.d = s.supply.d ∧ t.supply.c = s.supply.c ∧
      t.supply.drain = s.supply.drain ∧ t.supply.drainOver = s.supply.drainOver ∧
      t.supply.drainTick = s.supply.drainTick) ∧
    (s.res.ign = false → t.res.ign = false → t.supply.timers = s.supply.timers) ∧
    (t.res.ign = true → ∀ (p : PersTimer) (meets : Bool),
      (p = .overCapacity ∧ (meets = true ↔ s.cfg.capacity < t.supply.harness)) ∨
        (p = .underCapacity ∧ (meets = true ↔ (t.supply.harness : Int) < roundDiv ((s.cfg.capacity : Int) * 9) 10)) →
      t.supply.timer p = (if meets = false then .stopped
        else if s.supply.timer p = .stopped then .running else s.supply.timer p)) ∧
    (t.res.ign = true → ∀ p : PersTimer, p ≠ .overCapacity → p ≠ .underCapacity →
      t.supply.timer p = s.supply.timer p))

/-- The sample that completes a sender block judges its Open and Short conditions, sets the class of a Switch-mode sender
and the position of a ladder, and makes a SENDER_FAULT entry when a Resistive sender's condition is flagged and at a
ladder's third out-of-band completion in a row. A change of a known class, of a position or of a dimmer value leaves a
Standby station's quiet timer at its full period (R48, R49, R50, R52, R53, R70, R161, R178); what counts as such a change is
the model's reading (notes/assumptions/24.md), and the SENDER_FAULT entry at a strap-invalid station its choice
(notes/assumptions/40.md). The band is the lowest that holds the reading, its bounds included, and a
dimmer ladder's value the rounded 63 × (R − Rzero) / (Rfull − Rzero), within 0..63 (R49, R52). -/
def Obligations.SenderBlockJudged : Prop :=
  (∀ (e : SenderEntry) (r : Int), 2 * e.count ≤ e.words.length →
    (∀ p : Nat, bandOf e.bands 0 r = some p ↔ p < e.count ∧
      (e.words.getD (2 * p) 0 : Int) ≤ r ∧ r ≤ e.words.getD (2 * p + 1) 0 ∧
      ∀ q, q < p → ¬((e.words.getD (2 * q) 0 : Int) ≤ r ∧ r ≤ e.words.getD (2 * q + 1) 0)) ∧
    (bandOf e.bands 0 r = none ↔
      ∀ q, q < e.count → ¬((e.words.getD (2 * q) 0 : Int) ≤ r ∧ r ≤ e.words.getD (2 * q + 1) 0))) ∧
  (∀ (e : SenderEntry) (r rzero rfull : Int), rzero = (e.words.getD 8 0 : Nat) → rfull = (e.words.getD 9 0 : Nat) →
    rzero ≠ rfull →
    (dimmerValue e r : Int) = max 0 (min 63 (roundDiv ((r - rzero) * 63) (rfull - rzero)))) ∧
  (∀ (s : State) (n : Fin 4) (x v : Int) (r : SenderRecord) (e : SenderEntry) (w w' : SenderSwitch)
    (open' short' : Nat) (fault : Bool), s.up = true → s.meas.slot = some (11 + n.val) → r = s.meas.senders[n] →
    63 ≤ r.base.count → v = roundDiv (r.base.sum + max 0 (min 1023 x)) 64 → e = s.cfg.senders[n] →
    w = s.sw.senders[n] →
    open' = (if 1020 ≤ v then min (r.openCount + 1) 2 else 0) →
    short' = (if v ≤ 2 then min (r.shortCount + 1) 2 else 0) →
    (e.mode = .switch ∧ w' = { w with contact := if v < 20 then .closed else .opened }) ∨
      (e.mode = .ladder ∧ ∃ p, bandOf e.bands 0 v = some p ∧ w' = { w with
        position := some p, outOfBand := 0, value := if e.target = 1 then dimmerValue e v else w.value }) ∨
      (e.mode = .ladder ∧ bandOf e.bands 0 v = none ∧ w' = { w with outOfBand := min (w.outOfBand + 1) 3 }) ∨
      ((e.mode = .off ∨ e.mode = .resistive) ∧ w' = w) →
    (fault = true ↔
      (e.mode = .resistive ∧ ((r.openFlag = false ∧ open' = 2) ∨ (r.shortFlag = false ∧ short' = 2))) ∨
      (e.mode = .ladder ∧ w.outOfBand < 3 ∧ w'.outOfBand = 3)) →
    ∃ t : State, exec (.sample x) s = .next t ∧
      t.meas.senders[n].openCount = open' ∧ t.meas.senders[n].shortCount = short' ∧
      t.meas.senders[n].openFlag = (decide (1020 ≤ v) && (r.openFlag || decide (open' = 2))) ∧
      t.meas.senders[n].shortFlag = (decide (v ≤ 2) && (r.shortFlag || decide (short' = 2))) ∧
      t.sw = { s.sw with senders := s.sw.senders.set n w', requests := t.sw.requests, fanStep := t.sw.fanStep,
                         dimmer := t.sw.dimmer } ∧
      t.faults = (if fault then s.faults.add .senderFault (some n.val) s.ctl.clock else s.faults) ∧
      ((w.contact ≠ .undetermined ∧ w'.contact ≠ w.contact) ∨ w'.position ≠ w.position ∨ w'.value ≠ w.value →
        t.ctl.state = .standby → t.ctl.quiet = some (s.cfg.quiet * 1000)))

/-- The sample that completes a directed block hands its average to the Flasher as the bulb-check value: below the
channel's open-load limit it enters an own detection of the channel's side in the cycle in progress and sets the side's
reported flag, with a BULB_OUT entry when it was clear; the mark becomes none (R76, R116). A sample above the hard limit or
the input's range that completes the block trips the channel and makes its TRIP entry first (R64, R72, R92, R95), and the
block is judged all the same, which is the model's choice (notes/assumptions/43.md), as it is that a negative reading counts
as beyond the range and trips (notes/assumptions/13.md). -/
def Obligations.BulbCheckDetects : Prop :=
  ∀ (s : State) (i : Fin 8) (x v : Int) (c : CurrentRecord) (trips : Bool) (faults : FaultList), s.up = true →
    s.FlashAgrees → s.meas.slot = some (3 + i.val) → c = s.meas.channels[i] → c.mark = .restarted →
    s.cfg.ni ≤ c.base.count + 1 → s.cfg.channels[i].kind = .flashLamp ∨ s.cfg.channels[i].kind = .stopTurn →
    (trips = true ↔ (x < 0 ∨ 400 < x ∨ s.cfg.channels[i].hardLimit < x) ∧ (s.out.channels[i].state = .inrush ∨
      s.out.channels[i].state = .on ∨ s.out.channels[i].state = .test)) →
    faults = (if trips then s.faults.add .trip (some i.val) s.ctl.clock else s.faults) →
    v = roundDiv (c.base.sum + max 0 (min 400 x)) s.cfg.ni →
    ∃ t : State, exec (.sample x) s = .next t ∧ t.meas.channels[i].mark = .none ∧
      ((s.cfg.channels[i].openLimit : Int) ≤ v → t.flash = s.flash ∧ t.faults = faults) ∧
      (v < s.cfg.channels[i].openLimit → s.cfg.channels[i].side = .left →
        t.flash = { s.flash with
          reportedLeft := true
          memory := { s.flash.memory with current := { s.flash.memory.current with ownLeft := true } } } ∧
        t.faults = (if s.flash.reportedLeft then faults else faults.add .bulbOut (some 0) s.ctl.clock)) ∧
      (v < s.cfg.channels[i].openLimit → s.cfg.channels[i].side = .right →
        t.flash = { s.flash with
          reportedRight := true
          memory := { s.flash.memory with current := { s.flash.memory.current with ownRight := true } } } ∧
        t.faults = (if s.flash.reportedRight then faults else faults.add .bulbOut (some 1) s.ctl.clock))

/-! ## Output channels -/

/-- A channel trips, by a sample above its hard limit in Inrush or On and by its over timer in On: duty 0, the retry
count up by one, a TRIP entry, and Tripped with a 1 s wait, or above the retry limit Locked (Latch) or Tripped with a
10 s wait (Persist); in Test it goes Off with the result tripped and its retry count as it was. The Motor channel trips in
Ramping and Running, its fan Tripped or Locked by the same counts, and in Test. The sample joins its block or completes it,
where a directed block at or above the open-load limit ends its mark (below it, see `BulbCheckDetects`). The hand-ons then
apply its order and command (R72, R76, R92, R93, R95, R103, R151). On a negative reading see notes/assumptions/13.md. -/
def Obligations.ChannelTrips : Prop :=
  ∀ (s u : State) (i : Fin 8) (c c' : Channel) (e : ChannelEntry) (f still : Fan) (retry : Nat), s.up = true →
    c = s.out.channels[i] → e = s.cfg.channels[i] → retry = min (c.retry + 1) 255 →
    still = { s.fan with
      veff := 0, runTimer := none, grace := none, stallTimer := none, stallWait := none, retryWait := none
      deferral := none, remembered := none } →
    (e.kind ≠ .motor ∧ f = s.fan ∧
      ((c.state ≠ .test ∧ retry ≤ e.retryLimit ∧ c' = { c with
          state := .tripped, duty := 0, retry := retry, retryWait := some 1000
          window := none, runTimer := none, overTimer := none, openTimer := none }) ∨
        (c.state ≠ .test ∧ e.retryLimit < retry ∧ e.exhaustion = .persist ∧ c' = { c with
          state := .tripped, duty := 0, retry := retry, retryWait := some 10000
          window := none, runTimer := none, overTimer := none, openTimer := none }) ∨
        (c.state ≠ .test ∧ e.retryLimit < retry ∧ e.exhaustion = .latch ∧ c' = { c with
          state := .locked, duty := 0, retry := retry, retryWait := none
          window := none, runTimer := none, overTimer := none, openTimer := none }) ∨
        (c.state = .test ∧ c' = { c with
          state := .off, duty := 0, testTimer := none, testResult := .tripped, retryWait := none
          window := none, runTimer := none, overTimer := none, openTimer := none }))) ∨
      (e.kind = .motor ∧ (s.fan.state = .ramping ∨ s.fan.state = .running) ∧
        c' = { c with duty := 0, retry := retry, overTimer := none } ∧
        ((retry ≤ e.retryLimit ∧ f = { still with state := .tripped, retryWait := some 1000 }) ∨
          (e.retryLimit < retry ∧ e.exhaustion = .persist ∧
            f = { still with state := .tripped, retryWait := some 10000 }) ∨
          (e.retryLimit < retry ∧ e.exhaustion = .latch ∧ f = { still with state := .locked }))) ∨
      (e.kind = .motor ∧ s.fan.state = .test ∧ f = { still with state := .off } ∧ c' = { c with
        state := .off, duty := 0, testTimer := none, testResult := .tripped, retryWait := none
        window := none, runTimer := none, overTimer := none, openTimer := none }) →
    u = { s with
      out := { s.out with channels := s.out.channels.set i c' }
      fan := f
      faults := s.faults.add .trip (some i.val) s.ctl.clock } →
    ((e.kind ≠ .motor ∧ (c.state = .on ∨ c.state = .test)) ∨ (e.kind = .motor ∧ s.fan.state = .test) →
      c.overTimer.isSome = true →
      exec (.overTimerExpiry i) s = .next (u.settle s false) ∧ HandedOn u (u.settle s false)) ∧
    (∀ (x : Int) (m : Measurement), (e.kind ≠ .motor → c.state = .inrush ∨ c.state = .on ∨ c.state = .test) →
      s.meas.slot = some (3 + i.val) → x < 0 ∨ e.hardLimit < x ∨ 400 < x →
      (s.meas.channels[i].base.count + 1 < s.cfg.ni ∧ m = s.meas.currentJoined i x) ∨
        (s.cfg.ni ≤ s.meas.channels[i].base.count + 1 ∧
          (s.meas.channels[i].mark = .restarted → (e.openLimit : Int) ≤
            roundDiv (s.meas.channels[i].base.sum + max 0 (min 400 x)) s.cfg.ni) ∧
          m = s.meas.currentCompleted i x s.cfg.ni) →
      exec (.sample x) s = .next ({ u with meas := m }.settle s false) ∧
      HandedOn { u with meas := m } ({ u with meas := m }.settle s false))

/-- The timers of a channel. A completed current block starts or keeps the over timer of a channel in On or Test above its
over limit and the open-load timer of a checked channel whose result disagrees with its flag, and stops them otherwise (a
capped Lamp of a level of 500 or less is checked, notes/assumptions/26.md). INRUSH_WINDOW_EXPIRY: On with its 10 s run timer, an armed channel's block restarted.
RUN_TIMER_EXPIRY: the retry count returns to 0. RETRY_WAIT_EXPIRY: Inrush, Dark or Off by the command then held, Off
under a hold. OPEN_LOAD_TIMER_EXPIRY: the flag set with an OPEN_LOAD entry, or cleared. TEST_DURATION_EXPIRY: Off with
the result completed, the fan with it for the Motor channel. The hand-ons then apply order and command: by its state a
channel is energized to Inrush with its window, or to On where that is 0 ms, afresh at each new On phase, goes Dark, Off or
Shed with its timers stopped, or stays, and its retry count returns to 0 as its command goes off; a Locked one under a shed
order goes to Shed (notes/assumptions/22.md) (R73, R75, R93, R94, R96, R97, R98, R103, R156, and section 5.4 of
05_output_channels.md). On a negative reading see notes/assumptions/13.md. -/
def Obligations.ChannelTimersExpire : Prop :=
  (∀ (s before t : State) (fresh begins checked shed hold : Bool) (i : Fin 8) (c d stays still lit : Channel)
    (e : ChannelEntry), t = s.settle before fresh → c = s.out.channels[i] → d = t.out.channels[i] →
    e = s.cfg.channels[i] → e.kind ≠ .off → e.kind ≠ .motor →
    (begins = true ↔ fresh = true ∨ (t.flash.sides ≠ none ∧ t.flash.sides ≠ s.flash.sides)) →
    (shed = true ↔ t.supply.order e.cls = .shed) → hold = t.supply.held e.cls →
    (checked = true ↔ d.state = .on ∧ 0 < e.openLimit ∧ (∃ l, d.command = .steady l) ∧
      ¬(e.kind = .stopTurn ∧ t.res.eff.stop = false) ∧
      ¬(e.kind = .lamp ∧ t.supply.order e.cls = .limited ∧
        500 < (if e.function = codePanel then t.res.panel else e.level))) →
    stays = { c with
      command := d.command, duty := d.duty, openTimer := if checked then c.openTimer else none
      retry := if d.command = .off ∧ c.command ≠ .off then 0 else c.retry } →
    still = { stays with window := none, runTimer := none, overTimer := none, retryWait := none, openTimer := none } →
    lit = (if e.inrush = 0 then { still with state := .on, runTimer := some 10000 }
      else { still with state := .inrush, window := some e.inrush }) →
    (s.drives = false ∨ c.state = .test → d = stays) ∧
    (s.drives = true → c.state ≠ .test → c.state ≠ .locked → shed = true →
      d = if c.state = .shed then stays else { still with state := .shed }) ∧
    (s.drives = true → c.state = .locked →
      d = if d.command = .off then { still with state := if shed then .shed else .off } else stays) ∧
    (s.drives = true → shed = false →
      (c.state = .inrush ∨ c.state = .on →
        ((∃ l, d.command = .steady l) → d = stays) ∧
        (d.command = .flashOn → d = if begins = true ∨ c.command ≠ .flashOn then lit else stays) ∧
        (d.command = .flashOff → d = { still with state := .dark }) ∧
        (d.command = .off → d = { still with state := .off })) ∧
      (c.state = .tripped → d = if d.command = .off then { still with state := .off } else stays) ∧
      (c.state = .dark ∧ d.command = .flashOff → d = stays) ∧
      ((c.state = .off ∨ c.state = .shed) ∧ hold = true → d = stays) ∧
      ((c.state = .dark ∧ d.command ≠ .flashOff) ∨ ((c.state = .off ∨ c.state = .shed) ∧ hold = false) →
        ((∃ l, d.command = .steady l) ∨ d.command = .flashOn → d = lit) ∧
        (d.command = .flashOff → d = { still with state := .dark }) ∧
        (d.command = .off → d = if c.state = .off then stays else { still with state := .off })))) ∧
  (∀ (s : State) (i : Fin 8) (c : Channel) (e : ChannelEntry) (r : Measurement), s.up = true →
    c = s.out.channels[i] → e = s.cfg.channels[i] →
    r = { s.meas with channels := s.meas.channels.set i { s.meas.channels[i] with
      base := { s.meas.channels[i].base with sum := 0, count := 0, sumOver := false }
      mark := .restarted } } →
    (∀ u : State, c.state = .inrush → c.window.isSome = true →
      u = { s with
        out := { s.out with channels := s.out.channels.set i { c with
          state := .on, runTimer := some 10000, window := none, overTimer := none, retryWait := none
          openTimer := none } }
        meas := if s.meas.channels[i].mark = .armed then r else s.meas } →
      exec (.inrushWindowExpiry i) s = .next (u.settle s false) ∧ HandedOn u (u.settle s false)) ∧
    (c.runTimer.isSome = true → exec (.runTimerExpiry i) s = .next { s with
      out := { s.out with channels := s.out.channels.set i { c with retry := 0, runTimer := none } } }) ∧
    (∀ (u : State) (c' : Channel), c.state = .tripped → c.retryWait.isSome = true →
      (s.supply.held e.cls = true ∧ c' = { c with state := .off, retryWait := none }) ∨
        (s.supply.held e.cls = false ∧ c.command = .off ∧ c' = { c with state := .off, retryWait := none }) ∨
        (s.supply.held e.cls = false ∧ c.command = .flashOff ∧ c' = { c with state := .dark, retryWait := none }) ∨
        (s.supply.held e.cls = false ∧ c.command.lit = true ∧ 0 < e.inrush ∧
          c' = { c with state := .inrush, window := some e.inrush, retryWait := none }) ∨
        (s.supply.held e.cls = false ∧ c.command.lit = true ∧ e.inrush = 0 ∧
          c' = { c with state := .on, runTimer := some 10000, retryWait := none }) →
      u = { s with
        out := { s.out with channels := s.out.channels.set i { c' with
          window := if c'.state = .inrush then c'.window else none
          runTimer := if c'.state = .on then c'.runTimer else none
          overTimer := none, openTimer := none } }
        meas := if c'.state = .on ∧ s.meas.channels[i].mark = .armed then r else s.meas } →
      exec (.retryWaitExpiry i) s = .next (u.settle s false) ∧ HandedOn u (u.settle s false)) ∧
    (∀ u : State, c.openTimer.isSome = true →
      u = { s with out := { s.out with channels := s.out.channels.set i { c with
        openTimer := none, openFlag := !c.openFlag } } } →
      (c.openFlag = true → exec (.openLoadTimerExpiry i) s = .next u) ∧
      (c.openFlag = false → exec (.openLoadTimerExpiry i) s =
        .next { u with faults := s.faults.add .openLoad (some i.val) s.ctl.clock })) ∧
    (∀ u : State, c.testTimer.isSome = true →
      u = { s with
        out := { s.out with channels := s.out.channels.set i { c with
          state := .off, duty := 0, testTimer := none, testResult := .completed, window := none, runTimer := none
          overTimer := none, retryWait := none, openTimer := none } }
        fan := if e.kind = .motor then { s.fan with
          state := .off, veff := 0, runTimer := none, grace := none, stallTimer := none, stallWait := none
          retryWait := none, deferral := none, remembered := none } else s.fan } →
      exec (.testDurationExpiry i) s = .next (u.settle s false) ∧ HandedOn u (u.settle s false)) ∧
    (∀ (u : State) (x v : Int) (above checked timed : Bool), s.meas.slot = some (3 + i.val) →
      s.cfg.ni ≤ s.meas.channels[i].base.count + 1 → v = roundDiv (s.meas.channels[i].base.sum + max 0 (min 400 x)) s.cfg.ni →
      (s.meas.channels[i].mark = .restarted → (e.openLimit : Int) ≤ v) →
      (e.kind = .motor → s.fan.state = .test) →
      (0 ≤ x ∧ x ≤ 400 ∧ x ≤ e.hardLimit) ∨ (e.kind ≠ .motor ∧ c.state ≠ .inrush ∧ c.state ≠ .on ∧ c.state ≠ .test) →
      (above = true ↔ (e.overLimit : Int) < v ∨ s.meas.channels[i].base.sumOver = true ∨ x < 0 ∨ 400 < x) →
      (timed = true ↔ e.kind = .motor ∨ c.state = .on ∨ c.state = .test) →
      (checked = true ↔ e.kind ≠ .motor ∧ c.state = .on ∧ 0 < e.openLimit ∧ (∃ l, c.command = .steady l) ∧
        ¬(e.kind = .stopTurn ∧ s.res.eff.stop = false) ∧
        ¬(e.kind = .lamp ∧ s.supply.order e.cls = .limited ∧
          500 < (if e.function = codePanel then s.res.panel else e.level))) →
      u = { s with
        meas := s.meas.currentCompleted i x s.cfg.ni
        out := { s.out with channels := s.out.channels.set i { c with
          overTimer := if timed = false then c.overTimer else if above = false then none
            else some (c.overTimer.getD e.overTime)
          openTimer := if checked = false then c.openTimer
            else if (c.openFlag = true ↔ v < e.openLimit) then none else some (c.openTimer.getD 500) } } } →
      exec (.sample x) s = .next (u.settle s false) ∧ HandedOn u (u.settle s false)))

/-! ## The flash cycle -/

/-- HALF_TIMER_EXPIRY in On: the cycle enters Off with the Off half of the rate, and the marks of the phase are cleared.
In Off: it enters On in a new cycle, the rate decided from the memory alone, the named channels armed, and a FLASH is queued
at a Joined station: the side set in bits 7 and 6, the own bulb-out flags of left and right in bits 5 and 4, the rate in bit
3 (R77, R108, R111, R117 to R119). -/
def Obligations.HalfTimerChangesPhase : Prop :=
  ∀ s : State, s.QueueOk → s.up = true → s.drives = true → s.FlashAgrees → s.flash.half.isSome = true →
    (s.flash.phase = .on → ∃ t : State, exec .halfTimerExpiry s = .next t ∧ HandedOn s t ∧
      t.flash = { s.flash with
        phase := .off
        half := some (if s.flash.fast then (roundDiv s.cfg.flashPeriod 4).toNat else s.cfg.flashPeriod / 2) } ∧
      (∀ i : Fin 8, t.meas.channels[i].mark = .none) ∧ t.line.queue.flash = s.line.queue.flash) ∧
    (∀ (x : SideSet) (m : BulbMemory) (fast : Bool), s.flash.phase = .off → s.flash.sides = some x →
      m = ⟨CycleMarks.clear, s.flash.memory.current, s.flash.memory.before⟩ →
      (fast = true ↔
        (x ≠ .right ∧ (m.before.ownLeft || m.earlier.ownLeft || m.before.receivedLeft || m.earlier.receivedLeft) = true) ∨
        (x ≠ .left ∧
          (m.before.ownRight || m.earlier.ownRight || m.before.receivedRight || m.earlier.receivedRight) = true)) →
      ∃ t : State, exec .halfTimerExpiry s = .next t ∧ HandedOn s t ∧
        t.flash = { s.flash with
          phase := .on, fast := fast, memory := m
          half := some (if fast then (roundDiv s.cfg.flashPeriod 4).toNat else s.cfg.flashPeriod / 2) } ∧
        s.MarksArmed x t ∧
        (s.line.sub ≠ .joined → t.line.queue.flash = s.line.queue.flash) ∧
        (s.line.sub = .joined → ∃ e ∈ t.line.queue.flash,
          e.content = [BitVec.ofBool (decide (x ≠ .left)) ++ BitVec.ofBool (decide (x ≠ .right)) ++
            BitVec.ofBool m.before.ownLeft ++ BitVec.ofBool m.before.ownRight ++ BitVec.ofBool fast ++ 0#3]))

/-- The hand-ons carry a change of the effective side set to the cycle of a station whose channels act: from empty it
starts in On in a new cycle, with conditions 1 to 3 of R119 deciding the rate and both reported flags clear; to empty it
goes Idle, its memory kept; between two sets it restarts in On, in a new cycle only from Off; with no change it goes on.
Each start queues a FLASH at a Joined station: the side set in bits 7 and 6, the own bulb-out flags of left and right in bits
5 and 4, the rate in bit 3 (R107, R109, R110, R111, R118, R119). That an Idle cycle keeps its last rate is the model's choice
(notes/assumptions/57.md). -/
def Obligations.FlashCycleFollowsSides : Prop :=
  ∀ (s before : State) (fresh : Bool) (sides : Option SideSet), s.drives = true → s.FlashOk →
    sides = sideSetFrom (effFlashL (unionOf s.sw.requests s.peers) (ignOf s.cfg.ignFromLine s.ignInput s.peers))
      (effFlashR (unionOf s.sw.requests s.peers) (ignOf s.cfg.ignFromLine s.ignInput s.peers)) →
    (sides = s.flash.sides → (s.settle before fresh).flash = s.flash) ∧
    (sides = none → s.flash.sides ≠ none → (s.settle before fresh).flash = { s.flash with
      phase := .idle, sides := none, half := none, reportedLeft := false, reportedRight := false }) ∧
    (∀ (x : SideSet) (m : BulbMemory) (fast : Bool), sides = some x → s.flash.sides ≠ some x →
      m = (if s.flash.phase = .on then s.flash.memory
        else ⟨CycleMarks.clear, s.flash.memory.current, s.flash.memory.before⟩) →
      (fast = true ↔
        (x ≠ .right ∧ ((m.before.ownLeft || m.earlier.ownLeft || m.before.receivedLeft || m.earlier.receivedLeft) = true ∨
          (s.flash.phase = .idle ∧ ∃ r ∈ s.peers.records, r.Counted ∧ r.bulbLeft = true))) ∨
        (x ≠ .left ∧
          ((m.before.ownRight || m.earlier.ownRight || m.before.receivedRight || m.earlier.receivedRight) = true ∨
          (s.flash.phase = .idle ∧ ∃ r ∈ s.peers.records, r.Counted ∧ r.bulbRight = true)))) →
      (s.settle before fresh).flash = {
        phase := .on, sides := some x, fast := fast, memory := m
        half := some (if fast then (roundDiv s.cfg.flashPeriod 4).toNat else s.cfg.flashPeriod / 2)
        reportedLeft := if s.flash.phase = .idle then false else s.flash.reportedLeft
        reportedRight := if s.flash.phase = .idle then false else s.flash.reportedRight } ∧
      (s.line.sub = .joined → ∃ e ∈ (s.settle before fresh).line.queue.flash,
        e.content = [BitVec.ofBool (decide (x ≠ .left)) ++ BitVec.ofBool (decide (x ≠ .right)) ++
          BitVec.ofBool (m.current.ownLeft || m.before.ownLeft) ++
          BitVec.ofBool (m.current.ownRight || m.before.ownRight) ++ BitVec.ofBool fast ++ 0#3]))

/-! ## The Supply Manager -/

/-- PERSISTENCE_TIMER_EXPIRY of a running timer applies its effect once: a raise to the greater, a lower to the lesser;
contributor (a)'s timers do not expire in crank hold (R126, R127, R128, R130). -/
def Obligations.PersistenceTimerApplies : Prop :=
  ∀ (s : State) (p : PersTimer) (a b d : Nat), s.up = true → s.ResolverOk → s.supply.timer p = .running →
    (p = .entry1 ∧ a = max s.supply.a 1 ∧ b = s.supply.b ∧ d = s.supply.d) ∨
      (p = .entry2 ∧ a = max s.supply.a 2 ∧ b = s.supply.b ∧ d = s.supply.d) ∨
      (p = .entry3 ∧ a = max s.supply.a 3 ∧ b = s.supply.b ∧ d = s.supply.d) ∨
      (p = .exit1 ∧ a = 0 ∧ b = s.supply.b ∧ d = s.supply.d) ∨
      (p = .exit2 ∧ a = min s.supply.a 1 ∧ b = s.supply.b ∧ d = s.supply.d) ∨
      (p = .exit3 ∧ a = min s.supply.a 2 ∧ b = s.supply.b ∧ d = s.supply.d) ∨
      (p = .raise1 ∧ a = s.supply.a ∧ b = max s.supply.b 1 ∧ d = s.supply.d) ∨
      (p = .raise2 ∧ a = s.supply.a ∧ b = max s.supply.b 2 ∧ d = s.supply.d) ∨
      (p = .lower1 ∧ a = s.supply.a ∧ b = min s.supply.b 1 ∧ d = s.supply.d) ∨
      (p = .lower0 ∧ a = s.supply.a ∧ b = 0 ∧ d = s.supply.d) ∨
      (p = .overCapacity ∧ a = s.supply.a ∧ b = s.supply.b ∧ d = max s.supply.d 1) ∨
      (p = .underCapacity ∧ a = s.supply.a ∧ b = s.supply.b ∧ d = 0) →
    (persOfSupply p = false ∨ s.supply.crank = false → ∃ t : State, exec (.persistenceTimerExpiry p) s = .next t ∧
      HandedOn { s with supply := { s.supply with a := a } } t ∧ t.supply.a = a ∧ t.supply.b = b ∧ t.supply.d = d ∧
      t.supply.c = s.supply.c ∧ t.supply.drain = s.supply.drain ∧
      (p ≠ .overCapacity → p ≠ .underCapacity → t.supply.timer p = .expired)) ∧
    (persOfSupply p = true → s.supply.crank = true → exec (.persistenceTimerExpiry p) s = .next s)

/-- DRAIN_TICK: with its own shunt the accumulator takes the negative of the battery average, not below 0; without it and
with no Present peer's battery current it adds the harness load; and contributor (c) becomes 3 above the allowance, with a
DRAIN_SHED entry when it was 0. With a Present peer's battery current it takes nothing and (c) is 0. The top sets the
overflow flag, and the tick reloads (R131, R132; notes/assumptions/48.md on Stale peers). That the DRAIN_SHED entry is made at
a strap-invalid station too is the model's choice (notes/assumptions/40.md). -/
def Obligations.DrainTickAccumulates : Prop :=
  ∀ s : State, s.up = true → s.ResolverOk → s.supply.drainTick.isSome = true →
    (∀ (amount : Int) (drain c : Nat),
      (s.cfg.shunt = true ∧ amount = (if s.meas.battery.valid then -s.meas.battery.avg else 0)) ∨
        (s.cfg.shunt = false ∧ (∀ r ∈ s.peers.records, r.state = .present → r.battery = none) ∧
          amount = s.supply.harness) →
      (drain : Int) = max 0 (min 2147483647 ((s.supply.drain : Int) + amount)) →
      c = (if s.cfg.allowance * 36000 < drain then 3 else s.supply.c) →
      ∃ t : State, exec .drainTick s = .next t ∧
        HandedOn { s with faults := if s.supply.c = 0 ∧ c = 3 then s.faults.add .drainShed none s.ctl.clock
          else s.faults } t ∧
        t.supply.drain = drain ∧ t.supply.c = c ∧ t.supply.drainTick = some 1000 ∧
        t.supply.drainOver = (s.supply.drainOver || decide (2147483647 < (s.supply.drain : Int) + amount))) ∧
    (∀ r ∈ s.peers.records, s.cfg.shunt = false → r.state = .present → r.battery.isSome = true →
      ∃ t : State, exec .drainTick s = .next t ∧ HandedOn s t ∧ t.supply.drain = s.supply.drain ∧ t.supply.c = 0 ∧
        t.supply.drainTick = some 1000 ∧ t.supply.drainOver = s.supply.drainOver)

/-- CRANK_RELEASE_EXPIRY ends crank hold and its timer, HOLD_TIMER_END a class's energize hold; the hand-ons then recompute
the orders and let the channels act. In the hand-ons an order that leaves shed starts the class's hold for 50 ms times the
station number, one that becomes shed ends it, and every other change leaves it; in Starting either one leaves the hold as
it is with no timer running (R133, R135, R138 to R140). That a hold starts in Setup too is the model's reading
(notes/assumptions/27.md). -/
def Obligations.SupplyTimersEnd : Prop :=
  ∀ s : State, s.up = true →
    (∀ u : State, s.supply.release.isSome = true →
      u = { s with supply := { s.supply with crank := false, release := none } } →
      exec .crankReleaseExpiry s = .next (u.settle s false) ∧ HandedOn u (u.settle s false)) ∧
    (∀ (u : State) (cls : HeldClass) (holds : Classes Hold),
      (cls = .one ∧ s.supply.holds.one.timer.isSome = true ∧ holds = { s.supply.holds with one := ⟨false, none⟩ }) ∨
        (cls = .two ∧ s.supply.holds.two.timer.isSome = true ∧ holds = { s.supply.holds with two := ⟨false, none⟩ }) ∨
        (cls = .three ∧ s.supply.holds.three.timer.isSome = true ∧
          holds = { s.supply.holds with three := ⟨false, none⟩ }) →
      u = { s with supply := { s.supply with holds := holds } } →
      exec (.holdTimerEnd cls) s = .next (u.settle s false) ∧ HandedOn u (u.settle s false)) ∧
    (∀ (before t : State) (fresh : Bool) (cls : HeldClass) (h : Hold) (old new : Order), t = s.settle before fresh →
      h = s.supply.holds.get cls → old = s.supply.orders.get cls → new = t.supply.orders.get cls →
      (old = .shed → new ≠ .shed → s.ctl.state ≠ .starting → t.supply.holds.get cls =
        (if s.straps.number = 0 then ⟨false, none⟩ else ⟨true, some (s.straps.number * 50)⟩)) ∧
      (old ≠ .shed → new = .shed → s.ctl.state ≠ .starting → t.supply.holds.get cls = ⟨false, none⟩) ∧
      (s.ctl.state = .starting → (old = .shed ↔ new ≠ .shed) → t.supply.holds.get cls = { h with timer := none }) ∧
      ((old = .shed ↔ new = .shed) → t.supply.holds.get cls = h))

/-! ## The Fan Drive -/

/-- RAMP_UPDATE reloads its timer; while the channel is Ramping the effective voltage moves toward the target voltage by
the ramp rate and stops at it: Running at a target above 0, with a 10 s run timer, Off at 0, else Ramping still. In every
other state nothing of the fan changes (R146, R149). -/
def Obligations.RampUpdateMoves : Prop :=
  ∀ (s u : State) (f : Fan) (target v : Nat), s.up = true → s.fan.ramp.isSome = true →
    target = (if s.fan.target = 0 then 0 else if s.fan.target = 1 then s.cfg.v1 else if s.fan.target = 2 then s.cfg.v2
      else s.cfg.v3) →
    v = (if s.fan.veff < target then min (s.fan.veff + s.cfg.rampRate) target
      else max (s.fan.veff - s.cfg.rampRate) target) →
    (s.fan.state ≠ .ramping ∧ f = s.fan) ∨
      (s.fan.state = .ramping ∧ v = target ∧ 0 < target ∧
        f = { s.fan with veff := v, state := .running, runTimer := some 10000 }) ∨
      (s.fan.state = .ramping ∧ v = 0 ∧ target = 0 ∧ f = { s.fan with
        state := .off, veff := 0, runTimer := none, grace := none, stallTimer := none, stallWait := none
        retryWait := none, deferral := none, remembered := none }) ∨
      (s.fan.state = .ramping ∧ v ≠ target ∧ f = { s.fan with veff := v }) →
    u = { s with fan := { f with ramp := some 100 } } →
    exec .rampUpdate s = .next (u.settle s false) ∧ HandedOn u (u.settle s false)

/-- The fan's timers. FAN_RUN_TIMER_EXPIRY: the Motor channel's retry count returns to 0. SPIN_UP_GRACE_EXPIRY: the grace
ends. A completed block of the Motor channel outside the grace starts or keeps the stall timer above the stall limit and
stops it otherwise. STALL_TIMER_EXPIRY: the stall count goes up, and the fan is Stalled with a 5 s wait, or at 3 Locked with
a FAN_LOCKED entry. DEFERRAL_END ends the deferral, and the hand-ons suspend a fan under a shed cause. STALL_WAIT_EXPIRY in
Stalled and FAN_RETRY_WAIT_EXPIRY in Tripped: under a suspension cause Suspended, else under the class's hold Off, else
Ramping from 0 with a fresh 2 s grace and no deferral. In the hand-ons the fan acts by its state on its target, its causes,
its hold and its deferral: it starts from Off, follows a new target, is suspended, resumes with a 2 s deferral, and goes Off
with its counts at 0 as the target becomes 0; under a shed cause that a deferral holds back it goes on, a limited cap with it
(R145, R148 to R155). What follows a target that is 0 already, and that the cap then stands for later steps too, is the
model's reading (notes/assumptions/47.md, notes/assumptions/56.md). -/
def Obligations.FanTimersExpire : Prop :=
  (∀ (s : State) (m : Fin 8), s.up = true → s.motor = some m →
    (s.fan.runTimer.isSome = true → exec .fanRunTimerExpiry s = .next { s with
      fan := { s.fan with runTimer := none }
      out := { s.out with channels := s.out.channels.set m { s.out.channels[m] with retry := 0 } } }) ∧
    exec .spinUpGraceExpiry s = .next { s with fan := { s.fan with grace := none } } ∧
    (∀ (u : State) (x v : Int) (above : Bool), s.fan.state = .ramping ∨ s.fan.state = .running →
      s.meas.slot = some (3 + m.val) → s.cfg.ni ≤ s.meas.channels[m].base.count + 1 →
      v = roundDiv (s.meas.channels[m].base.sum + x) s.cfg.ni → 0 ≤ x → x ≤ 400 → x ≤ s.cfg.channels[m].hardLimit →
      (s.meas.channels[m].mark = .restarted → (s.cfg.channels[m].openLimit : Int) ≤ v) →
      (above = true ↔ (s.cfg.stallLimit : Int) < v ∨ s.meas.channels[m].base.sumOver = true) →
      u = { s with
        meas := s.meas.currentCompleted m x s.cfg.ni
        fan := { s.fan with stallTimer := if s.fan.grace.isSome = true then s.fan.stallTimer
          else if above then some (s.fan.stallTimer.getD 1500) else none } } →
      exec (.sample x) s = .next (u.settle s false) ∧ HandedOn u (u.settle s false)) ∧
    (∀ (u : State) (f : Fan), s.fan.state = .ramping ∨ s.fan.state = .running → s.fan.stallTimer.isSome = true →
      f = { s.fan with
        veff := 0, runTimer := none, grace := none, stallTimer := none, retryWait := none, deferral := none
        remembered := none } →
      (s.fan.stallCount + 1 < 3 ∧ u = { s with fan := { f with
          state := .stalled, stallCount := s.fan.stallCount + 1, stallWait := some 5000 } }) ∨
        (3 ≤ s.fan.stallCount + 1 ∧ u = { s with
          fan := { f with state := .locked, stallCount := 3, stallWait := none }
          faults := s.faults.add .fanLocked (some m.val) s.ctl.clock }) →
      exec .stallTimerExpiry s = .next (u.settle s false) ∧ HandedOn u (u.settle s false)) ∧
    (∀ u : State, s.fan.deferral.isSome = true → u = { s with fan := { s.fan with deferral := none } } →
      exec .deferralEnd s = .next (u.settle s false) ∧ HandedOn u (u.settle s false) ∧
      (s.SupplyOk → s.ResolverOk → s.drives = true → s.fan.state = .ramping ∨ s.fan.state = .running →
        s.res.fanStep ≠ 0 → s.supply.order s.cfg.channels[m].cls = .shed →
        (u.settle s false).fan.state = .suspended))) ∧
  (∀ (s u : State) (m : Fin 8) (f : Fan) (c : Instr), s.up = true → s.motor = some m →
    (c = .stallWaitExpiry ∧ s.fan.state = .stalled ∧ s.fan.stallWait.isSome = true) ∨
      (c = .fanRetryWaitExpiry ∧ s.fan.state = .tripped ∧ s.fan.retryWait.isSome = true) →
    f = { s.fan with
      veff := 0, runTimer := none, grace := none, stallTimer := none, stallWait := none, retryWait := none
      deferral := none, remembered := none } →
    ((s.supply.order s.cfg.channels[m].cls = .shed ∨ s.supply.crank = true) ∧
        u = { s with fan := { f with state := .suspended, remembered := some s.fan.resolved } }) ∨
      (s.supply.order s.cfg.channels[m].cls ≠ .shed ∧ s.supply.crank = false ∧
        s.supply.held s.cfg.channels[m].cls = true ∧ u = { s with fan := { f with state := .off } }) ∨
      (s.supply.order s.cfg.channels[m].cls ≠ .shed ∧ s.supply.crank = false ∧
        s.supply.held s.cfg.channels[m].cls = false ∧
        u = { s with fan := { f with state := .ramping, grace := some 2000 } }) →
    exec c s = .next (u.settle s false) ∧ HandedOn u (u.settle s false)) ∧
  (∀ (s before t : State) (fresh : Bool) (m : Fin 8) (f still : Fan) (order : Order)
    (shed crank hold defers capped falls stops : Bool) (target : Nat), s.drives = true → s.motor = some m →
    t = s.settle before fresh → order = t.supply.order s.cfg.channels[m].cls →
    (shed = true ↔ order = .shed) → crank = t.supply.crank → hold = t.supply.held s.cfg.channels[m].cls →
    (defers = true ↔ (s.fan.state = .ramping ∨ s.fan.state = .running) ∧ s.fan.deferral.isSome = true ∧ shed = true ∧
      crank = false ∧ t.res.fanStep ≠ 0) →
    (capped = true ↔ order = .limited ∨ (defers = true ∧ s.fan.capped = true)) →
    target = (if capped then min t.res.fanStep 1 else t.res.fanStep) →
    (falls = true ↔ target = 0 ∧ s.fan.target ≠ 0) →
    (stops = true ↔ crank = true ∨ (shed = true ∧ (s.fan.deferral = none ∨ falls = true))) →
    f = { s.fan with
      resolved := t.res.fanStep, target := target, stallCount := if falls then 0 else s.fan.stallCount
      capped := capped } →
    still = { f with
      veff := 0, runTimer := none, grace := none, stallTimer := none, stallWait := none, retryWait := none
      deferral := none, remembered := none } →
    t.out.channels[m].retry = (if falls then 0 else s.out.channels[m].retry) ∧
    (s.fan.state = .off → t.fan = (if 0 < target ∧ shed = false ∧ crank = false ∧ hold = false
      then { still with state := .ramping, grace := some 2000 } else f)) ∧
    (s.fan.state = .ramping ∨ s.fan.state = .running → t.fan =
      if stops = true ∧ target = 0 then { still with state := .off }
      else if stops = true then { still with state := .suspended, remembered := some t.res.fanStep }
      else { f with
        deferral := if falls then none else s.fan.deferral
        state := if target ≠ s.fan.target then .ramping else s.fan.state
        runTimer := if s.fan.state = .running ∧ target ≠ s.fan.target then none else s.fan.runTimer }) ∧
    (s.fan.state = .suspended → t.fan =
      if falls then { still with state := .off }
      else if shed = false ∧ crank = false ∧ hold = false
        then { still with state := .ramping, grace := some 2000, deferral := some 2000 }
      else { f with remembered := some t.res.fanStep }) ∧
    (s.fan.state = .stalled ∨ s.fan.state = .locked → t.fan = if falls then { still with state := .off } else f) ∧
    (s.fan.state = .tripped → t.fan =
      if falls then { still with state := .off }
      else if shed = true ∨ crank = true then { still with state := .suspended, remembered := some t.res.fanStep }
      else f) ∧
    (s.fan.state = .test → t.fan = f))

/-! ## The Gauge Unit -/

/-- GAUGE_UPDATE forms each gauge's source status and value from a local sender, a peer's slot, the battery current or the
supply, and its target: the source value with IGN on, else 0. In crank hold the drives stand and only the timer reloads;
an Off drive is not worked. The position of a reading by a strictly monotone Sender Table is an end's position beyond that
end, and between two points the rounded value on their segment (R159, R160, R163 to R166, R170). The battery current
reference is the own shunt's average where the shunt is enabled and its record valid, else the battery current of the
lowest-numbered Present peer that holds one, else not known (R60); that a Stale peer's does not count is the model's reading
(notes/assumptions/48.md). -/
def Obligations.GaugeSourcesRead : Prop :=
  (∀ s : State, s.up = true → s.gauges.update.isSome = true → s.supply.crank = true →
    exec .gaugeUpdate s = .next { s with gauges := { s.gauges with update := some 100 } }) ∧
  (∀ (s : State) (i : Fin 4) (g : GaugeEntry) (status : SourceStatus) (v : Int), s.up = true → s.drives = true →
    s.gauges.update.isSome = true → s.supply.crank = false → g = s.cfg.gauges[i] →
    (∃ n : Fin 4, g.sourceType = 0 ∧ g.number = n.val ∧
        ((s.cfg.senders[n].mode ≠ .resistive ∧ status = .lost ∧ v = 0) ∨
          (s.cfg.senders[n].mode = .resistive ∧ s.meas.senders[n].base.valid = false ∧ status = .waiting ∧ v = 0) ∨
          (s.cfg.senders[n].mode = .resistive ∧ s.meas.senders[n].base.valid = true ∧ status = .normal ∧
            v = linearize s.cfg.senders[n].points s.meas.senders[n].base.avg))) ∨
      (g.sourceType = 1 ∧ s.peers.find g.number = none ∧ status = .lost ∧ v = 0) ∨
      (∃ (r : PeerRecord) (p : Option (Nat × Nat)), g.sourceType = 1 ∧ s.peers.find g.number = some r ∧
        p = (if g.slot = 0 then r.posA else r.posB) ∧
        ((r.state = .present ∧ ∃ q, p = some q ∧ status = .normal ∧ v = q.2) ∨
          (r.state = .stale ∧ ∃ q, p = some q ∧ status = .held ∧ v = q.2) ∨
          ((¬r.Counted ∨ p = none) ∧ status = .lost ∧ v = 0))) ∨
      (∃ I : Int, g.sourceType = 2 ∧
        ((s.batteryReference = some I ∧ status = .normal) ∨
          (s.batteryReference = none ∧ I = max (-600) (-(s.supply.harness : Int)) ∧ status = .estimated)) ∧
        ((g.kind = .coilCentre ∧ v = max (-1000) (min 1000 (roundDiv (I * 1000) g.fs))) ∨
          ((g.kind = .thermal ∨ g.kind = .coilEnd) ∧
            v = max 0 (min 1000 (roundDiv ((I + g.fs) * 1000) (2 * g.fs)))))) ∨
      (g.sourceType = 3 ∧
        ((s.meas.supply.valid = true ∧ status = .normal ∧
            v = max 0 (min 1000 (roundDiv ((s.meas.supply.avg - g.vlo) * 1000) ((g.vhi : Int) - g.vlo)))) ∨
          (s.meas.supply.valid = false ∧ status = .waiting ∧ v = 0))) →
    ∃ t : State, exec .gaugeUpdate s = .next t ∧ t = { s with gauges := t.gauges } ∧ t.gauges.update = some 100 ∧
      (g.kind = .off → t.gauges.drives[i] = s.gauges.drives[i]) ∧
      (g.kind ≠ .off → t.gauges.drives[i].status = status ∧ t.gauges.drives[i].source = v ∧
        t.gauges.drives[i].target = (if s.res.ign then v else 0))) ∧
  (∀ (points : List (Nat × Nat)) (r v : Int), 2 ≤ points.length →
    points.Pairwise (fun p q => p.1 < q.1) ∨ points.Pairwise (fun p q => q.1 < p.1) →
    (linearize points r = v ↔ Linearized points r v)) ∧
  (∀ s : State, s.PeersOk →
    (s.cfg.shunt = true → s.meas.battery.valid = true → s.batteryReference = some s.meas.battery.avg) ∧
    (s.cfg.shunt = false ∨ s.meas.battery.valid = false →
      (∀ (r : PeerRecord) (i : Int), r ∈ s.peers.records → r.state = .present → r.battery = some i →
        (∀ q ∈ s.peers.records, q.state = .present → q.battery.isSome = true → r.number ≤ q.number) →
        s.batteryReference = some i) ∧
      ((∀ r ∈ s.peers.records, r.state = .present → r.battery = none) → s.batteryReference = none)))

/-- At each update outside crank hold the displayed position moves toward the target by trunc((P − D) × k / 256), by 1
where that is 0, and not at all where it is there already; no step passes the target, and with k = 256 it takes it at
once. A Thermal gauge drives GnA with the duty of the square law about Vref, clamped at 1000 with the under-driven flag
set; a coil gauge with the duty of the linear law about Vnom, on GnA, or for CoilCentre on the pin of the displayed
position's sign (R167, R168, R169). That a Thermal or CoilEnd gauge has direction GnA at duty 0 too is the model's reading
(notes/assumptions/31.md). -/
def Obligations.GaugeDampedAndDriven : Prop :=
  (∀ (s : State) (i : Fin 4) (k : Nat), s.up = true → s.drives = true → s.gauges.update.isSome = true →
    s.supply.crank = false → s.cfg.gauges[i].kind ≠ .off → k = s.cfg.gauges[i].k → 1 ≤ k → k ≤ 256 →
    ∃ (t : State) (d p d' : Int), exec .gaugeUpdate s = .next t ∧ d = s.gauges.drives[i].displayed ∧
      p = t.gauges.drives[i].target ∧ d' = t.gauges.drives[i].displayed ∧
      (((p - d) * k).tdiv 256 ≠ 0 → d' = d + ((p - d) * k).tdiv 256) ∧
      (((p - d) * k).tdiv 256 = 0 → d < p → d' = d + 1) ∧
      (((p - d) * k).tdiv 256 = 0 → p < d → d' = d - 1) ∧
      (p = d → d' = d) ∧ (p ≠ d → d' ≠ d) ∧ (k = 256 → d' = p) ∧
      (d ≤ p → d ≤ d' ∧ d' ≤ p) ∧ (p ≤ d → p ≤ d' ∧ d' ≤ d) ∧
      (∀ lo hi : Int, lo ≤ d → d ≤ hi → lo ≤ p → p ≤ hi → lo ≤ d' ∧ d' ≤ hi)) ∧
  (∀ (s : State) (i : Fin 4) (g : GaugeEntry), s.up = true → s.drives = true → s.gauges.update.isSome = true →
    s.supply.crank = false → g = s.cfg.gauges[i] → g.kind ≠ .off →
    ∃ (t : State) (x : Gauge), exec .gaugeUpdate s = .next t ∧ x = t.gauges.drives[i] ∧
      (∀ vref vs raw : Int, g.kind = .thermal → vref = (if s.straps.sixVolt then 500 else 1000) →
        vs = (if s.meas.supply.valid then max 400 (min 1800 s.meas.supply.avg) else vref) →
        raw = roundDiv (roundDiv (x.displayed * g.dfs) 1000 * (vref * vref)) (vs * vs) →
        (0 ≤ x.displayed → (x.duty : Int) = min 1000 raw) ∧ x.under = decide (1000 < raw) ∧ x.direction = .pinA ∧
        (s.meas.supply.valid = false → raw = roundDiv (x.displayed * g.dfs) 1000) ∧
        (x.displayed = 0 → x.under = false)) ∧
      (∀ vnom vs magnitude : Int, g.kind ≠ .thermal → vnom = (if s.straps.sixVolt then 600 else 1200) →
        vs = (if s.meas.supply.valid then max 400 (min 1800 s.meas.supply.avg) else vnom) →
        magnitude = roundDiv (x.displayed.natAbs * g.dfs) 1000 →
        (x.duty : Int) = min 1000 (roundDiv (magnitude * vnom) vs) ∧ x.under = false ∧
        (s.meas.supply.valid = false → (x.duty : Int) = min 1000 magnitude) ∧
        (g.kind = .coilEnd → x.direction = .pinA) ∧
        (g.kind = .coilCentre → x.direction =
          (if x.displayed = 0 then .none else if 0 < x.displayed then .pinA else .pinB))))

/-! ## Station Control -/

/-- What a power-on reset, a service restart and a wake leave in the Supply Manager, and the configuration then in force
(R142, R181, R190, R191). A blank store and a record whose check does not match load the default configuration; a record with
a good check is loaded by the rules of R43, R49, R52, R79, R82, R157 and R158 and the ranges of its other settings; and the
512 bytes that the staging image takes from a configuration in force load that configuration again (R188).
POWER_ON_RESET acting in every power state is the model's choice (notes/assumptions/21.md), and so are the store that an
abandoned programming leaves, held as none (notes/assumptions/17.md), how the clamped-field count counts
(notes/assumptions/14.md, notes/assumptions/41.md), which Motor entry is the lowest-numbered (notes/assumptions/54.md),
that a sender loaded as Off for its table names no slot (notes/assumptions/59.md), and that the image's two check bytes hold the configuration checksum (notes/assumptions/58.md). -/
def Obligations.ResetsSetSupply : Prop :=
  (∀ (store : Option Memory) (sixVolt : Bool),
    (∀ m : Memory, store = some m → (∀ a, a < 512 → m.read a = 0xFF) ∨
      (m.read 510).toNat * 256 + (m.read 511).toNat ≠ (crc16 (m.bytes 510)).toNat) →
    (loadedConfig store sixVolt).Default sixVolt) ∧
  (∀ (m : Memory) (sixVolt : Bool), (∃ a, a < 512 ∧ m.read a ≠ 0xFF) →
    (m.read 510).toNat * 256 + (m.read 511).toNat = (crc16 (m.bytes 510)).toNat →
    (loadedConfig (some m) sixVolt).LoadedFrom (m.bytes 512)) ∧
  (∀ (store : Option Memory) (sixVolt : Bool) (c : WorkingConfig), c = loadedConfig store sixVolt →
    c.bytes.length = 512 ∧ ∃ n : Nat, loadRecord c.bytes = { c with isDefault := false, clamped := n }) ∧
  (∀ (s : State) (p : StrapPins), ∃ t : State, exec (.powerOnReset p) s = .next t ∧
    t.supply = { Supply.init with
      drainTick := some 1000, holds := ⟨⟨true, none⟩, ⟨true, none⟩, ⟨true, none⟩⟩ } ∧
    t.cfg = loadedConfig (if s.svc.programming then none else s.store) (decide (p.sysv = .earth))) ∧
  (∀ (s : State) (p : StrapPins), s.ctl.powered = true → s.svc.restartOrdered = true →
    ∃ t : State, exec (.serviceRestart p) s = .next t ∧
    t.supply = { Supply.init with
      drain := s.supply.drain, drainOver := s.supply.drainOver
      drainTick := some 1000, holds := ⟨⟨true, none⟩, ⟨true, none⟩, ⟨true, none⟩⟩ } ∧
    t.cfg = loadedConfig s.store (decide (p.sysv = .earth))) ∧
  (∀ (s : State) (c : Instr), s.supply.c ≤ 3 → (c = .lineWake ∧ s.sleeping = true) ∨
      (c = .wakeWaitExpiry ∧ s.live = true ∧ s.ctl.state = .asleep ∧ s.ctl.wake = .wait) →
    ∃ t : State, exec c s = .next t ∧ t.cfg = s.cfg ∧
    t.supply.a = 0 ∧ t.supply.b = 0 ∧ t.supply.d = 0 ∧ t.supply.timers = Vector.replicate 12 .stopped ∧
    t.supply.c = s.supply.c ∧ t.supply.drain = s.supply.drain ∧ t.supply.drainOver = s.supply.drainOver ∧
    t.supply.harness = 0 ∧ t.supply.effective = s.supply.c ∧ t.supply.crank = false ∧ t.supply.thermal = false ∧
    (s.supply.c = 3 → t.supply.orders = ⟨.shed, .shed, .shed⟩) ∧
    (s.supply.c = 0 → t.supply.orders = ⟨.normal, .normal, .normal⟩))

/-- POWER_FAIL holds the station in reset: every output off, the line released, the queue empty, a programming
abandoned. POWER_ON_RESET and an ordered SERVICE_RESTART latch the straps and enter Starting with every block at its
value of section 10.2, the 250 ms join window, and a STATUS and an ANNOUNCE queued (R24, R42, R54, R62, R79, R105,
R123, R156, R171, R173, R175, R176, R183). What a station held in reset holds, and that POWER_ON_RESET acts in every
power state, are the model's choice (notes/assumptions/21.md); so is that a strap-invalid station's gauge update timer does
not run (notes/assumptions/45.md), that the store of an abandoned programming is none (notes/assumptions/17.md), that an Absent
record's station state is Awake (notes/assumptions/36.md), and that the sleep reference is undetermined
(notes/assumptions/38.md). -/
def Obligations.ResetsEnterStarting : Prop :=
  (∀ s : State, s.ctl.powered = true → exec .powerFail s = .next { s with
    ctl := { s.ctl with powered := false, wake := .none }
    store := if s.svc.programming then none else s.store
    svc := { s.svc with programming := false, restartOrdered := false }
    line := { s.line with
      view := .busy, inFlight := none
      queue := { s.line.queue with status := none, announce := none, flash := [], reply := [] } }
    out := ⟨Vector.replicate 8 Channel.init, 0⟩
    fan := Fan.init
    gauges := ⟨Vector.replicate 4 Gauge.init, none⟩ }) ∧
  (∀ (s : State) (p : StrapPins) (c : Instr) (cause : ResumeCause),
    (c = .powerOnReset p ∧ cause = .powerOn) ∨
      (c = .serviceRestart p ∧ cause = .service ∧ s.ctl.powered = true ∧ s.svc.restartOrdered = true) →
    ∃ t : State, exec c s = .next t ∧
      t.straps = ⟨4 * StrapLevel.value p.addrA + StrapLevel.value p.addrB, decide (p.sysv = .earth)⟩ ∧
      t.ctl = ⟨true, .starting, some 250, none, .none, cause, none, 0⟩ ∧
      t.svc = ⟨0, none, false, false⟩ ∧
      t.faults = ⟨if t.cfg.isDefault then [⟨.configDefault, none, 0, 1, false⟩] else [], false⟩ ∧
      t.line.sub = .joined ∧ t.line.view = .busy ∧ t.line.run = 0 ∧ t.line.counters = LineCounters.zero ∧
      t.line.inFlight = none ∧ t.line.spacing = none ∧ t.line.queue.flash = [] ∧ t.line.queue.reply = [] ∧
      t.line.queue.status.isSome = true ∧ t.line.queue.announce.isSome = true ∧
      t.line.periodic = (if t.straps.number = 15 then none else some 100) ∧
      t.peers = ⟨PeerTable.initRecords t.straps.number, 0, 0⟩ ∧
      t.sw = { SwitchInputs.init with
        ignDebounce := some 20
        inputs := Vector.ofFn fun i => SwitchState.init (if t.cfg.switches[i].enabled then some 20 else none) } ∧
      t.res = Resolver.init ∧ t.meas = { Measurement.init with passTimer := some 4, slot := some 0 } ∧
      t.out = ⟨Vector.replicate 8 Channel.init, 0⟩ ∧ t.flash = Flasher.init ∧
      t.fan = { Fan.init with ramp := some 100 } ∧
      t.gauges = ⟨Vector.replicate 4 Gauge.init, if t.straps.number = 15 then none else some 100⟩ ∧
      t.pins = s.pins ∧ t.uid = s.uid ∧ t.pending = s.pending)

/-- JOIN_WINDOW_EXPIRY enters Awake with IGN on and Standby with IGN off, the holds then running for the stagger delay;
QUIET_TIMER_EXPIRY reloads the timer unless the sleep conditions hold; STATION_CLOCK_TICK counts a second. In the hand-ons
an Awake station whose IGN goes off enters Standby with its quiet timer running, a Standby station whose IGN comes on
enters Awake, the periodic STATUS timer loaded with the new state's period, and no other state follows IGN (R22, R138,
R139, R176 to R179, R183). -/
def Obligations.StationTimersExpire : Prop :=
  (∀ (s before t : State) (fresh : Bool), t = s.settle before fresh →
    (s.ctl.state = .awake → t.res.ign = false → t.ctl = { s.ctl with
        state := .standby, quiet := some (s.cfg.quiet * 1000) } ∧
      t.line.periodic = (if s.straps.number = 15 then none else some 500)) ∧
    (s.ctl.state = .standby → t.res.ign = true → t.ctl = { s.ctl with state := .awake, quiet := none } ∧
      t.line.periodic = (if s.straps.number = 15 then none else some 100)) ∧
    (¬(s.ctl.state = .awake ∧ t.res.ign = false) → ¬(s.ctl.state = .standby ∧ t.res.ign = true) →
      t.ctl.state = s.ctl.state ∧ t.line.periodic = s.line.periodic)) ∧
  (∀ s : State, s.up = true →
    (∀ (u : State) (h : Hold), s.straps.number < 15 → s.ctl.state = .starting → s.ctl.join.isSome = true →
      h = (if s.straps.number = 0 then ⟨false, none⟩ else ⟨true, some (s.straps.number * 50)⟩) →
      u = { s with
        ctl := { s.ctl with
          join := none, state := if s.res.ign then .awake else .standby
          quiet := if s.res.ign then none else some (s.cfg.quiet * 1000) }
        line := { s.line with periodic := some (if s.res.ign then 100 else 500) }
        supply := { s.supply with holds := ⟨h, h, h⟩ } } →
      exec .joinWindowExpiry s = .next (u.settle s false) ∧ HandedOn u (u.settle s false) ∧
      (s.ResolverOk → (u.settle s false).ctl.state = (if s.res.ign then .awake else .standby))) ∧
    (s.ctl.state = .standby → s.ctl.quiet.isSome = true →
      (∃ n, n < 14 ∧ s.res.eff.byCode n = true) ∨ s.res.ign = true ∨
        (∃ r ∈ s.peers.records, r.state = .present ∧ r.station = .awake) →
      exec .quietTimerExpiry s = .next { s with ctl := { s.ctl with quiet := some (s.cfg.quiet * 1000) } }) ∧
    exec .stationClockTick s = .next { s with ctl := { s.ctl with clock := min (s.ctl.clock + 1) 65535 } })

/-- QUIET_TIMER_EXPIRY with the sleep conditions enters Asleep: channels, fan and gauges off, the cycle Idle, the queue
emptied and a frame in flight ended, records not valid, peers frozen, sleep references taken, contributors and accumulator
kept, no STATUS queued; a REPLY that orders a restart orders it as the queue is emptied, the abandoned store then none
(notes/assumptions/17.md). That a gauge keeps its source value and status, the classes their orders and the cycle its rate is
the model's choice (notes/assumptions/44.md, notes/assumptions/50.md, notes/assumptions/57.md) (R24, R41, R54, R78, R105, R122, R141, R156, R171, R179, R180, R187). -/
def Obligations.QuietStationSleeps : Prop :=
  ∀ (s : State) (ordered : Bool), s.up = true → s.ctl.state = .standby → s.ctl.quiet.isSome = true →
    (∀ n, n < 14 → s.res.eff.byCode n = false) → s.res.ign = false →
    (∀ r ∈ s.peers.records, r.state = .present → r.station ≠ .awake) →
    (ordered = true ↔ ∃ e ∈ s.line.queue.reply, e.restarts = true) →
    ∃ t : State, exec .quietTimerExpiry s = .next t ∧
      t.ctl = { s.ctl with state := .asleep, join := none, quiet := none, wake := .none } ∧
      t.line = { s.line with
        view := .busy, isoWait := none, probing := false, run := 0, inFlight := none, spacing := none, periodic := none
        queue := { s.line.queue with status := none, announce := none, flash := [], reply := [] } } ∧
      (∀ i : Fin 8, t.out.channels[i] = { Channel.init with
        command := s.out.channels[i].command, openFlag := s.out.channels[i].openFlag
        testResult := s.out.channels[i].testResult }) ∧ t.out.demand = 0 ∧
      t.fan = { Fan.init with resolved := s.fan.resolved, target := s.fan.target, capped := s.fan.capped } ∧
      t.gauges.update = none ∧ (∀ i : Fin 4, t.gauges.drives[i] = { s.gauges.drives[i] with
        target := 0, displayed := 0, duty := 0, direction := .none, under := false }) ∧
      t.flash = { s.flash with
        phase := .idle, sides := none, half := none, reportedLeft := false, reportedRight := false } ∧
      t.meas.passTimer = none ∧ t.meas.slot = none ∧
      (∀ input : SlotInput, t.meas.record input = { Record.init with
        latest := (s.meas.record input).latest, latestOver := (s.meas.record input).latestOver }) ∧
      (∀ i : Fin 8, t.meas.channels[i].mark = .none) ∧
      (∀ n : Fin 4, t.meas.senders[n].openCount = 0 ∧ t.meas.senders[n].shortCount = 0 ∧
        t.meas.senders[n].openFlag = false ∧ t.meas.senders[n].shortFlag = false) ∧
      t.peers = { s.peers with records := s.peers.records.map fun r => { r with ageing := none } } ∧
      (∀ i : Fin 8, t.sw.inputs[i] = { s.sw.inputs[i] with
        sleepRef := s.sw.inputs[i].accepted, debounce := none, hold := none }) ∧
      t.supply = { s.supply with
        timers := Vector.replicate 12 .stopped, drainTick := none, crank := false, release := none, thermal := false
        holds := ⟨⟨false, none⟩, ⟨false, none⟩, ⟨false, none⟩⟩ } ∧
      t.svc = (if ordered then { s.svc with restartOrdered := true, programming := false } else s.svc) ∧
      t.store = (if ordered = true ∧ s.svc.programming = true then none else s.store) ∧
      t.cfg = s.cfg ∧ t.straps = s.straps ∧ t.faults = s.faults ∧ t.pins = s.pins

/-- An Asleep station. LINE_WAKE enters Starting at once; INPUT_WAKE and IGN_WAKE write the cause and begin the wake
pulse; WAKE_PULSE_END and WAKE_WAIT_EXPIRY follow it into Starting with the cause written. The wake keeps straps,
configuration, sub-state, counters and Fault List, queues a STATUS unless Muted and no ANNOUNCE, and gives a station that
slept Isolated a fresh 1 s wait; Switch Inputs, fan and gauges hold their values of a reset, every enabled input undetermined
with its 20 ms debounce. Every channel stands in Off or Shed but a Lamp or Plain channel of TELL_SHED that no order or hold
of a class 1 to 3 keeps back: where contributor (c) was kept it is energized, to Inrush, or to On with a window of 0 ms (R24,
R46, R54, R55, R59, R88, R156, R171, R175, R176, R181, R183). The model's choices are that TELL_SHED is on at once
(notes/assumptions/49.md), the station state Awake of an Absent record (notes/assumptions/36.md), the sleep reference
undetermined after a wake (notes/assumptions/38.md), and that a strap-invalid station's gauge update timer does not run
(notes/assumptions/45.md). -/
def Obligations.StationWakes : Prop :=
  (∀ (s : State) (i : Fin 8), s.sleeping = true → s.cfg.switches[i].enabled = true →
    s.cfg.switches[i].wakeEnable = true → (s.raw i = .closed ↔ s.sw.inputs[i].sleepRef ≠ .closed) →
    exec (.inputWake i) s = .next { s with
      ctl := { s.ctl with wake := .pulse, cause := .input, inputIndex := some i.val } }) ∧
  (∀ s : State, s.sleeping = true → s.pins.ign = true →
    exec .ignWake s = .next { s with ctl := { s.ctl with wake := .pulse, cause := .ign, inputIndex := none } }) ∧
  (∀ s : State, s.live = true → s.ctl.state = .asleep → s.ctl.wake = .pulse →
    exec .wakePulseEnd s = .next { s with ctl := { s.ctl with wake := .wait } }) ∧
  (∀ (s : State) (c : Instr) (cause : ResumeCause) (index : Option Nat), s.live = true → s.ctl.state = .asleep →
    (c = .lineWake ∧ s.ctl.wake = .none ∧ cause = .line ∧ index = none) ∨
      (c = .wakeWaitExpiry ∧ s.ctl.wake = .wait ∧ cause = s.ctl.cause ∧ index = s.ctl.inputIndex) →
    ∃ t : State, exec c s = .next t ∧
      t.ctl = { s.ctl with
        state := .starting, join := some 250, quiet := none, wake := .none, cause := cause, inputIndex := index
        clock := 0 } ∧
      t.straps = s.straps ∧ t.cfg = s.cfg ∧ t.store = s.store ∧ t.svc = s.svc ∧ t.faults = s.faults ∧
      t.line.sub = s.line.sub ∧ t.line.counters = s.line.counters ∧ t.line.view = .busy ∧ t.line.run = 0 ∧
      t.line.isoWait = (if s.line.sub = .isolated then some 1000 else none) ∧ t.line.inFlight = none ∧
      t.line.queue.announce = none ∧ t.line.queue.flash = [] ∧ t.line.queue.reply = [] ∧
      (s.line.sub ≠ .muted → t.line.queue.status.isSome = true) ∧
      t.peers = { s.peers with records := PeerTable.initRecords s.straps.number } ∧
      t.meas = { Measurement.init with passTimer := some 4, slot := some 0 } ∧ t.flash = Flasher.init ∧
      (∀ (i : Fin 8) (e : ChannelEntry) (lit : Bool), e = s.cfg.channels[i] →
        (lit = true ↔ (e.kind = .lamp ∨ e.kind = .plain) ∧ e.cls ∉ [1, 2, 3] ∧ e.function = 18 ∧ 0 < s.supply.c ∧
          s.straps.number ≠ 15) →
        (lit = true → t.out.channels[i].state = if e.inrush = 0 then .on else .inrush) ∧
        (lit = false → t.out.channels[i].state = .off ∨ t.out.channels[i].state = .shed)) ∧
      t.sw = { SwitchInputs.init with
        ignDebounce := some 20
        inputs := Vector.ofFn fun i => SwitchState.init (if s.cfg.switches[i].enabled then some 20 else none) } ∧
      t.fan = { Fan.init with ramp := some 100, capped := t.fan.capped } ∧
      t.gauges = ⟨Vector.replicate 4 Gauge.init, if s.straps.number = 15 then none else some 100⟩ ∧ t.pins = s.pins)

/-! ## The service tool's commands -/

/-- IDENTIFY replies OK with the ANNOUNCE content and the station state and queues an ANNOUNCE, refused while Muted;
the ANNOUNCE content is eleven bytes, unique ID, checksum and role flags. READ replies OK with the item's values, byte by byte
as section 11.5 lays them out, or BAD_ARGUMENT outside the ranges of
classes, indices and pages. Arguments that do not fit the command are answered BAD_ARGUMENT (R14, R36, R66, R143, R172,
R178, R183 to R186, R192). A READ's free bytes move on the model's own counter `free` (notes/assumptions/20.md). The page
and index of a class without them are the model's choice (notes/assumptions/18.md), and so is the absent position of a Resistive
sender whose record is not valid (notes/assumptions/51.md); the order of items that share a byte is its reading
(notes/assumptions/19.md). -/
def Obligations.IdentifyAndReadReply : Prop :=
  (∀ (s : State) (gauges publishesA publishesB : Bool), (gauges = true ↔ ∃ i : Fin 4, s.cfg.gauges[i].kind ≠ .off) →
    (publishesA = true ↔ ∃ n : Fin 4, s.cfg.senders[n].publish = 1) →
    (publishesB = true ↔ ∃ n : Fin 4, s.cfg.senders[n].publish = 2) →
    s.announceContent = bytes16 (s.uid.extractLsb' 48 16) ++ bytes16 (s.uid.extractLsb' 32 16)
      ++ bytes16 (s.uid.extractLsb' 16 16) ++ bytes16 (s.uid.extractLsb' 0 16) ++ bytes16 s.cfg.checksum
      ++ [0#4 ++ BitVec.ofBool s.cfg.shunt ++ BitVec.ofBool gauges ++ BitVec.ofBool publishesA
        ++ BitVec.ofBool publishesB]) ∧
  (∀ (s : State) (n : Fin 16) (u : State), s.Serves n true →
    u = s.atSlotEnd.answered (0x01 :: s.announceContent ++ [putByte s.ctl.state.code]) →
    (s.line.sub = .muted → exec (.identify n []) s = .next u) ∧
    (s.line.sub ≠ .muted → s.line.queue.announce = none → exec (.identify n []) s = .next { u with line := { u.line with
      queue := { u.line.queue with
        announce := some ⟨s.announceContent, s.line.queue.nextAge + 1, 0, false⟩
        nextAge := s.line.queue.nextAge + 2 } } }) ∧
    (∀ e : Entry, s.line.sub ≠ .muted → s.line.queue.announce = some e →
      exec (.identify n []) s = .next { u with line := { u.line with
        queue := { u.line.queue with announce := some { e with content := s.announceContent } } } })) ∧
  (∀ (s : State) (n : Fin 16) (args : List Byte), s.Serves n true → 1 ≤ args.length → args.length ≤ 7 →
    exec (.identify n args) s = .next (s.atSlotEnd.answered [0x31])) ∧
  (∀ (s : State) (n : Fin 16) (args : List Byte), s.Serves n false → args.length ≠ 3 → args.length ≤ 7 →
    exec (.read n args) s = .next (s.atSlotEnd.answered [0x32])) ∧
  (∀ (s : State) (cls index page : Nat) (data : List Byte), s.readItem cls index page = some data →
    s.ItemBytes cls index page data) ∧
  (∀ (s : State) (n : Fin 16) (cls index page : Byte), s.Serves n false → s.PeersOk →
    (∀ data : List Byte, s.atSlotEnd.readItem cls.toNat index.toNat page.toNat = some data →
      exec (.read n [cls, index, page]) s = .next { s.atSlotEnd.answered (0x02 :: data) with free := s.free + 8 }) ∧
    (s.atSlotEnd.readItem cls.toNat index.toNat page.toNat = none →
      exec (.read n [cls, index, page]) s = .next (s.atSlotEnd.answered [0x32])) ∧
    ((s.atSlotEnd.readItem cls.toNat index.toNat page.toNat).isSome = true ↔
      (cls = 0 ∧ index.toNat ≤ 15 ∧ page = 0) ∨
      (cls = 1 ∧ ∃ i : Fin 8, index.toNat = i.val ∧ (page = 0 ∨ (page = 1 ∧ s.cfg.channels[i].kind = .motor))) ∨
      (cls = 2 ∧ index.toNat ≤ 14 ∧ index.toNat ≠ s.straps.number ∧ page.toNat ≤ 2) ∨
      (cls = 3 ∧ index.toNat ≤ 3 ∧ page = 0) ∨
      (cls = 4 ∧ index = 0 ∧ page.toNat ≤ 1) ∨
      ((cls = 5 ∨ cls = 6) ∧ index = 0 ∧ page = 0) ∨
      (cls = 7 ∧ index.toNat < s.faults.entries.length ∧ page = 0)))

/-- FAULT ACK acknowledges the entry at a place below the list's length, or answers BAD_ARGUMENT; FAULT CLEAR removes
the acknowledged entries in order and clears the overflow flag; FAULT CALL replies with the oldest unacknowledged
entry and its place, or OK without one, and broadcast draws no REPLY from a station without one. Arguments of another
length are answered BAD_ARGUMENT (R185, R193), a broadcast FAULT CALL's too, which is the model's choice
(notes/assumptions/46.md). -/
def Obligations.FaultCommandsServed : Prop :=
  (∀ (s : State) (n : Fin 16) (place : Byte), s.Serves n false →
    (place.toNat < s.faults.entries.length → ∃ entries : List FaultEntry,
      exec (.faultAck n [place]) s =
        .next { s.atSlotEnd.answered [0x04] with faults := { s.faults with entries := entries } } ∧
      ∀ j : Nat, entries[j]? =
        (s.faults.entries[j]?).map fun e => if j = place.toNat then { e with acked := true } else e) ∧
    (s.faults.entries.length ≤ place.toNat →
      exec (.faultAck n [place]) s = .next (s.atSlotEnd.answered [0x34]))) ∧
  (∀ (s : State) (n : Fin 16), s.Serves n false →
    exec (.faultClear n []) s = .next { s.atSlotEnd.answered [0x05] with
      faults := ⟨s.faults.entries.filter fun e => decide (e.acked = false), false⟩ }) ∧
  (∀ (s : State) (n : Fin 16) (k : Nat) (e : FaultEntry), s.Serves n true → s.faults.entries[k]? = some e →
    e.acked = false → (∀ (j : Nat) (d : FaultEntry), j < k → s.faults.entries[j]? = some d → d.acked = true) →
    ∃ data : List Byte, e.Sent data ∧
      exec (.faultCall n []) s = .next (s.atSlotEnd.answered (0x03 :: data ++ [putByte k]))) ∧
  (∀ (s : State) (n : Fin 16), s.Serves n true → (∀ e ∈ s.faults.entries, e.acked = true) →
    (n.val = s.straps.number → exec (.faultCall n []) s = .next (s.atSlotEnd.answered [0x03])) ∧
    (n.val = 15 → exec (.faultCall n []) s = .next s.atSlotEnd)) ∧
  (∀ (s : State) (n : Fin 16) (args : List Byte), args.length ≤ 7 →
    (s.Serves n true → args ≠ [] → exec (.faultCall n args) s = .next (s.atSlotEnd.answered [0x33])) ∧
    (s.Serves n false → args.length ≠ 1 → exec (.faultAck n args) s = .next (s.atSlotEnd.answered [0x34])) ∧
    (s.Serves n false → args ≠ [] → exec (.faultClear n args) s = .next (s.atSlotEnd.answered [0x35])))

/-- When a block has an entry made: an entry of the same kind and index takes one more occurrence and loses its
acknowledgement; else with fewer than 8 entries a new one is appended; else the oldest acknowledged one is removed for it,
or without one it is dropped and the overflow flag set (R192). -/
def Obligations.FaultEntryMade : Prop :=
  ∀ (l : FaultList) (kind : FaultKind) (index : Option Nat) (clock : Nat),
    (∀ (before after : List FaultEntry) (e : FaultEntry), l.entries = before ++ e :: after →
      e.kind = kind ∧ e.index = index →
      (∀ d ∈ before ++ after, ¬(d.kind = kind ∧ d.index = index)) →
      l.add kind index clock = { l with entries :=
        before ++ { e with occurrences := min (e.occurrences + 1) 255, acked := false } :: after }) ∧
    ((∀ d ∈ l.entries, ¬(d.kind = kind ∧ d.index = index)) →
      (l.entries.length < 8 → l.add kind index clock =
        { l with entries := l.entries ++ [⟨kind, index, clock, 1, false⟩] }) ∧
      (∀ (before after : List FaultEntry) (e : FaultEntry), 8 ≤ l.entries.length →
        l.entries = before ++ e :: after → e.acked = true → (∀ d ∈ before, d.acked = false) →
        l.add kind index clock = { l with entries := before ++ after ++ [⟨kind, index, clock, 1, false⟩] }) ∧
      (8 ≤ l.entries.length → (∀ d ∈ l.entries, d.acked = false) →
        l.add kind index clock = { l with overflow := true }))

/-- SETUP ENTER in Standby with IGN off and no effective function but telltales is answered OK and enters Setup: channels,
fan and gauges off with their counts cleared, the cycle Idle, the holds off, the staging image filled, the quiet timer
stopped and a STATUS queued unless Muted. In Setup it is answered OK and changes nothing more; else it is REFUSED, and with
arguments BAD_ARGUMENT (R22, R105, R156, R171, R182, R185, R187, R188). What the image's bytes are is `ResetsSetSupply`'s.
That a gauge keeps its source value and status is the model's choice (notes/assumptions/44.md), and so is that the STATUS is
composed at the end of the command (notes/assumptions/6.md), and what the image's two check bytes hold
(notes/assumptions/58.md). -/
def Obligations.SetupEntered : Prop :=
  ∀ (s : State) (n : Fin 16), s.Serves n false →
    (s.SupplyOk → s.ResolverOk → s.ctl.state = .standby → s.res.ign = false →
      (∀ k, k < 14 → s.res.eff.byCode k = false) →
      ∃ t : State, exec (.setupEnter n []) s = .next t ∧ t.ctl = { s.ctl with state := .setup, quiet := none } ∧
        t.line.queue.reply = s.line.queue.reply ++ [⟨[0x06], s.line.queue.nextAge, 0, false⟩] ∧
        t.line.periodic = some 500 ∧
        (s.line.sub ≠ .muted → t.line.queue.status.map (·.content) = some t.statusContent.payload) ∧
        t.statusContent.requests = 0 ∧ t.statusContent.fanStep = 0 ∧ t.statusContent.dimmer = 63 ∧
        t.statusContent.station = .setup ∧
        (∀ i : Fin 8, t.out.channels[i].state = .off ∧ t.out.channels[i].duty = 0 ∧ t.out.channels[i].retry = 0 ∧
          t.out.channels[i].openFlag = s.out.channels[i].openFlag) ∧
        t.fan.state = .off ∧ t.fan.stallCount = 0 ∧
        (∀ i : Fin 4, t.gauges.drives[i] = { s.gauges.drives[i] with
          target := 0, displayed := 0, duty := 0, direction := .none, under := false }) ∧ t.gauges.update = none ∧
        t.flash.phase = .idle ∧ t.flash.memory = s.flash.memory ∧
        t.supply.holds = ⟨⟨false, none⟩, ⟨false, none⟩, ⟨false, none⟩⟩ ∧
        t.svc = { s.svc with staging := some (Memory.ofBytes s.cfg.bytes) } ∧
        t.cfg = s.cfg ∧ t.store = s.store ∧ t.peers = s.peers ∧ t.faults = s.faults) ∧
    (s.ctl.state = .setup → exec (.setupEnter n []) s = .next (s.atSlotEnd.answered [0x06])) ∧
    (s.ctl.state = .starting ∨ s.ctl.state = .awake ∨ (s.ctl.state = .standby ∧
        (s.res.ign = true ∨ ∃ k, k < 14 ∧ s.res.eff.byCode k = true)) →
      exec (.setupEnter n []) s = .next (s.atSlotEnd.answered [0x46])) ∧
    (∀ args : List Byte, args ≠ [] → args.length ≤ 7 →
      exec (.setupEnter n args) s = .next (s.atSlotEnd.answered [0x36]))

/-- SETUP EXIT in Setup and RESTART are answered OK by the REPLY that orders the service restart when it leaves the
queue; an Isolated station orders it at once, abandoning a commit that is programming. SETUP EXIT outside Setup is
answered NOT_IN_SETUP, whatever its arguments; in Setup, and for RESTART, arguments are BAD_ARGUMENT (R185, R187, R190). An
abandoned store is `none` (notes/assumptions/17.md). -/
def Obligations.RestartCommandsServed : Prop :=
  (∀ (s u : State) (n : Fin 16) (c : Instr) (head : Byte),
    (c = .setupExit n [] ∧ head = 0x0B ∧ s.Serves n false ∧ s.ctl.state = .setup) ∨
      (c = .restart n [] ∧ head = 0x0C ∧ s.Serves n true) →
    u = { s.atSlotEnd with line := { s.atSlotEnd.line with queue := { s.line.queue with
      reply := s.line.queue.reply ++ [⟨[head], s.line.queue.nextAge, 0, true⟩]
      nextAge := s.line.queue.nextAge + 1 } } } →
    (s.line.sub ≠ .isolated → exec c s = .next u) ∧
    (s.line.sub = .isolated → exec c s = .next { u with
      svc := { s.svc with restartOrdered := true, programming := false }
      store := if s.svc.programming then none else s.store })) ∧
  (∀ (s : State) (n : Fin 16) (args : List Byte), args.length ≤ 7 →
    (s.Serves n false → s.ctl.state ≠ .setup → exec (.setupExit n args) s = .next (s.atSlotEnd.answered [0x1B])) ∧
    (s.Serves n false → s.ctl.state = .setup → args ≠ [] →
      exec (.setupExit n args) s = .next (s.atSlotEnd.answered [0x3B])) ∧
    (s.Serves n true → args ≠ [] → exec (.restart n args) s = .next (s.atSlotEnd.answered [0x3C])))

/-- STORE WRITE in Setup, with no commit programming, writes its 1 to 6 bytes at the offset within its half and changes
no other byte of the staging image; a write that would reach byte 510, or without an offset or a byte, is BAD_ARGUMENT, one
while a commit programs BUSY, one outside Setup NOT_IN_SETUP, and none of them writes (R185, R188). That a write of the low
half runs on past offset 255 into the high half is the model's choice (notes/assumptions/55.md). -/
def Obligations.StoreWriteServed : Prop :=
  (∀ (s : State) (n : Fin 16) (offset : Byte) (data : List Byte) (c : Instr) (code base : Nat), s.Serves n false →
    data.length ≤ 6 →
    (c = .storeWriteLowHalf n (offset :: data) ∧ code = 7 ∧ base = 0) ∨
      (c = .storeWriteHighHalf n (offset :: data) ∧ code = 8 ∧ base = 256) →
    (∀ m : Memory, s.ctl.state = .setup → s.svc.programming = false → s.svc.staging = some m → m.wf = true →
      1 ≤ data.length → base + offset.toNat + data.length ≤ 510 →
      ∃ m' : Memory, exec c s =
          .next { s.atSlotEnd.answered [putByte code] with svc := { s.svc with staging := some m' } } ∧
        (∀ j, j < data.length → m'.read (base + offset.toNat + j) = data.getD j 0) ∧
        (∀ a, a < base + offset.toNat ∨ base + offset.toNat + data.length ≤ a → m'.read a = m.read a)) ∧
    (s.ctl.state = .setup → s.svc.programming = false → data.length = 0 ∨ 510 < base + offset.toNat + data.length →
      exec c s = .next (s.atSlotEnd.answered [putByte (0x30 + code)])) ∧
    (s.ctl.state = .setup → s.svc.programming = true → exec c s = .next (s.atSlotEnd.answered [putByte (0x20 + code)])) ∧
    (s.ctl.state ≠ .setup → exec c s = .next (s.atSlotEnd.answered [putByte (0x10 + code)]))) ∧
  (∀ (s : State) (n : Fin 16) (c : Instr) (code : Nat), s.Serves n false →
    (c = .storeWriteLowHalf n [] ∧ code = 7) ∨ (c = .storeWriteHighHalf n [] ∧ code = 8) →
    exec c s = .next (s.atSlotEnd.answered [putByte ((if s.ctl.state ≠ .setup then 0x10
      else if s.svc.programming then 0x20 else 0x30) + code)]))

/-- STORE COMMIT of an image without a structural error places its check in bytes 510 and 511 and begins programming;
of one with, it answers BAD_ARGUMENT and the first failing offset, and nothing changes: the lowest offset of the fields
that fail. With arguments it is BAD_ARGUMENT, while a commit programs BUSY, outside Setup NOT_IN_SETUP. At PROGRAMMING_END
the store holds the image and OK is queued, or counted as ignored when both slots are full (R185, R189, R190, R191). Which
fields a commit checks is the model's reading (notes/assumptions/15.md), and that a BAD_ARGUMENT for its arguments carries
no offset its choice (notes/assumptions/52.md). -/
def Obligations.StoreCommitServed : Prop :=
  (∀ (s : State) (n : Fin 16) (m : Memory), s.Serves n false → s.ctl.state = .setup → s.svc.staging = some m →
    m.wf = true →
    (s.svc.programming = false → structuralError (m.bytes 512) = none → ∃ m' : Memory,
      exec (.storeCommit n []) s =
        .next { s.atSlotEnd with svc := { s.svc with staging := some m', programming := true } } ∧
      (∀ a, a < 510 → m'.read a = m.read a) ∧
      ((m'.read 510).toNat * 256 + (m'.read 511).toNat = (crc16 (m.bytes 510)).toNat)) ∧
    (∀ offset : Nat, s.svc.programming = false → structuralError (m.bytes 512) = some offset →
      exec (.storeCommit n []) s = .next (s.atSlotEnd.answered (0x39 :: putWord offset))) ∧
    (s.svc.programming = true → exec (.storeCommit n []) s = .next (s.atSlotEnd.answered [0x29]))) ∧
  (∀ (s : State) (n : Fin 16) (args : List Byte), s.Serves n false → args.length ≤ 7 →
    (s.ctl.state ≠ .setup → exec (.storeCommit n args) s = .next (s.atSlotEnd.answered [0x19])) ∧
    (args ≠ [] → s.ctl.state = .setup → s.svc.programming = true →
      exec (.storeCommit n args) s = .next (s.atSlotEnd.answered [0x29])) ∧
    (args ≠ [] → s.ctl.state = .setup → s.svc.programming = false →
      exec (.storeCommit n args) s = .next (s.atSlotEnd.answered [0x39]))) ∧
  (∀ b : List Byte, (structuralError b = none ↔ ∀ o, ¬FieldFails b o) ∧
    (∀ o : Nat, structuralError b = some o ↔ FieldFails b o ∧ ∀ lower, lower < o → ¬FieldFails b lower)) ∧
  (∀ s : State, s.up = true → s.svc.programming = true →
    (s.line.queue.reply.length < 2 → exec .programmingEnd s = .next { s.answered [0x09] with
      store := s.svc.staging, svc := { s.svc with programming := false } }) ∧
    (2 ≤ s.line.queue.reply.length → exec .programmingEnd s = .next { s with
      store := s.svc.staging
      svc := { s.svc with programming := false, ignored := min (s.svc.ignored + 1) 65535 } }))

/-- TEST OUTPUT in Setup, with a channel 0..7, a duty 0..1000 and a duration 1..5000 ms, is answered OK and drives the
channel in Test, a channel already in Test taking the new duty and duration and keeping its over timer; other values are
BAD_ARGUMENT, and outside Setup it is NOT_IN_SETUP (R103, R156, R185, R186). -/
def Obligations.TestOutputServed : Prop :=
  ∀ (s : State) (n : Fin 16) (args : List Byte), s.Serves n false → args.length ≤ 7 →
    (∀ (i : Fin 8) (u : State) (c : Channel) (duty ms : Nat), s.ctl.state = .setup → args.length = 5 →
      byteAt args 0 = i.val → duty = wordAt args 1 → duty ≤ 1000 → ms = wordAt args 3 → 1 ≤ ms → ms ≤ 5000 →
      c = s.out.channels[i] →
      (s.cfg.channels[i].kind = .motor ∧ u = { s.atSlotEnd.answered [0x0A] with
          out := { s.out with channels := s.out.channels.set i { c with duty := duty, testTimer := some ms } }
          fan := { s.fan with
            state := .test, veff := 0, runTimer := none, grace := none, stallTimer := none, stallWait := none
            retryWait := none, deferral := none, remembered := none } }) ∨
        (s.cfg.channels[i].kind ≠ .motor ∧ c.state = .test ∧ u = { s.atSlotEnd.answered [0x0A] with
          out := { s.out with channels := s.out.channels.set i { c with duty := duty, testTimer := some ms } } }) ∨
        (s.cfg.channels[i].kind ≠ .motor ∧ c.state ≠ .test ∧ u = { s.atSlotEnd.answered [0x0A] with
          out := { s.out with channels := s.out.channels.set i { c with
            state := .test, duty := duty, testTimer := some ms, window := none, runTimer := none
            overTimer := none, retryWait := none, openTimer := none } } }) →
      exec (.testOutput n args) s = .next (u.settle s false) ∧ HandedOn u (u.settle s false) ∧
      (u.settle s false).out.channels[i].duty = duty ∧ (u.settle s false).ctl.state = .setup) ∧
    (s.ctl.state = .setup → args.length ≠ 5 ∨ 7 < byteAt args 0 ∨ 1000 < wordAt args 1 ∨ wordAt args 3 = 0 ∨
        5000 < wordAt args 3 →
      exec (.testOutput n args) s = .next (s.atSlotEnd.answered [0x3A])) ∧
    (s.ctl.state ≠ .setup → exec (.testOutput n args) s = .next (s.atSlotEnd.answered [0x1A]))

/-- A command code that names no command is answered UNKNOWN. With both REPLY slots full a command is ignored, has no
effect but the station's quiet timer and is counted. A command not addressed to the station, or a broadcast of one that
may not be broadcast, is not taken (R178, R184, R185). That a STORE COMMIT and every broadcast FAULT CALL are ignored and
counted with both slots full is the model's reading (notes/assumptions/29.md). -/
def Obligations.UnknownIgnoredAndUntaken : Prop :=
  (∀ (s : State) (n code : Fin 16) (args : List Byte), s.Serves n false → args.length ≤ 7 →
    code.val = 0 ∨ 12 < code.val →
    exec (.unknownCommand n code args) s = .next (s.atSlotEnd.answered [putByte (0x50 + code.val)])) ∧
  (∀ (s : State) (n : Fin 16) (args : List Byte) (c : Instr), s.receives = true → s.straps.number ≠ 15 →
    2 ≤ s.line.queue.reply.length → args.length ≤ 7 →
    (n.val = s.straps.number ∧ c ∈ [Instr.identify n args, .read n args, .faultAck n args, .faultClear n args,
        .setupEnter n args, .storeWriteLowHalf n args, .storeWriteHighHalf n args, .storeCommit n args,
        .testOutput n args, .setupExit n args, .restart n args, .faultCall n args]) ∨
      (n.val = s.straps.number ∧ ∃ code : Fin 16, (code.val = 0 ∨ 12 < code.val) ∧ c = .unknownCommand n code args) ∨
      (n.val = 15 ∧ c ∈ [Instr.identify n args, .restart n args, .faultCall n args]) →
    exec c s = .next { s.atSlotEnd with svc := { s.svc with ignored := min (s.svc.ignored + 1) 65535 } }) ∧
  (∀ (s : State) (n : Fin 16) (args : List Byte) (c : Instr), s.receives = true → args.length ≤ 7 →
    n.val ≠ s.straps.number → n.val ≠ 15 →
    c ∈ [Instr.identify n args, .read n args, .faultCall n args, .faultAck n args, .faultClear n args,
      .setupEnter n args, .storeWriteLowHalf n args, .storeWriteHighHalf n args, .storeCommit n args,
      .testOutput n args, .setupExit n args, .restart n args] ∨
      (∃ code : Fin 16, (code.val = 0 ∨ 12 < code.val) ∧ c = .unknownCommand n code args) →
    exec c s = .next { s with line := { s.line with view := .busy } }) ∧
  (∀ (s : State) (n : Fin 16) (args : List Byte) (c : Instr), s.receives = true → args.length ≤ 7 →
    s.straps.number ≠ 15 → n.val = 15 →
    c ∈ [Instr.read n args, .faultAck n args, .faultClear n args, .setupEnter n args, .storeWriteLowHalf n args,
      .storeWriteHighHalf n args, .storeCommit n args, .testOutput n args, .setupExit n args] ∨
      (∃ code : Fin 16, (code.val = 0 ∨ 12 < code.val) ∧ c = .unknownCommand n code args) →
    exec c s = .next s.atSlotEnd)
end

