-- ==== Sys2Proof/Laws/State.lean ====
section
/-! SUPPORT. What each update of the state leaves in each field: one lemma per field per update, true by unfolding, so
that no later proof unfolds a record update. -/

namespace Sys2Proof.Machine

@[simp] theorem State.withPins_pins (s : State) (x : Pins) : (s.withPins x).pins = x := rfl
@[simp] theorem State.withPins_uid (s : State) (x : Pins) : (s.withPins x).uid = s.uid := rfl
@[simp] theorem State.withPins_store (s : State) (x : Pins) : (s.withPins x).store = s.store := rfl
@[simp] theorem State.withPins_straps (s : State) (x : Pins) : (s.withPins x).straps = s.straps := rfl
@[simp] theorem State.withPins_cfg (s : State) (x : Pins) : (s.withPins x).cfg = s.cfg := rfl
@[simp] theorem State.withPins_ctl (s : State) (x : Pins) : (s.withPins x).ctl = s.ctl := rfl
@[simp] theorem State.withPins_line (s : State) (x : Pins) : (s.withPins x).line = s.line := rfl
@[simp] theorem State.withPins_peers (s : State) (x : Pins) : (s.withPins x).peers = s.peers := rfl
@[simp] theorem State.withPins_sw (s : State) (x : Pins) : (s.withPins x).sw = s.sw := rfl
@[simp] theorem State.withPins_res (s : State) (x : Pins) : (s.withPins x).res = s.res := rfl
@[simp] theorem State.withPins_meas (s : State) (x : Pins) : (s.withPins x).meas = s.meas := rfl
@[simp] theorem State.withPins_out (s : State) (x : Pins) : (s.withPins x).out = s.out := rfl
@[simp] theorem State.withPins_flash (s : State) (x : Pins) : (s.withPins x).flash = s.flash := rfl
@[simp] theorem State.withPins_supply (s : State) (x : Pins) : (s.withPins x).supply = s.supply := rfl
@[simp] theorem State.withPins_fan (s : State) (x : Pins) : (s.withPins x).fan = s.fan := rfl
@[simp] theorem State.withPins_gauges (s : State) (x : Pins) : (s.withPins x).gauges = s.gauges := rfl
@[simp] theorem State.withPins_svc (s : State) (x : Pins) : (s.withPins x).svc = s.svc := rfl
@[simp] theorem State.withPins_faults (s : State) (x : Pins) : (s.withPins x).faults = s.faults := rfl
@[simp] theorem State.withPins_free (s : State) (x : Pins) : (s.withPins x).free = s.free := rfl
@[simp] theorem State.withPins_pending (s : State) (x : Pins) : (s.withPins x).pending = s.pending := rfl

@[simp] theorem State.withStore_pins (s : State) (x : Option Memory) : (s.withStore x).pins = s.pins := rfl
@[simp] theorem State.withStore_uid (s : State) (x : Option Memory) : (s.withStore x).uid = s.uid := rfl
@[simp] theorem State.withStore_store (s : State) (x : Option Memory) : (s.withStore x).store = x := rfl
@[simp] theorem State.withStore_straps (s : State) (x : Option Memory) : (s.withStore x).straps = s.straps := rfl
@[simp] theorem State.withStore_cfg (s : State) (x : Option Memory) : (s.withStore x).cfg = s.cfg := rfl
@[simp] theorem State.withStore_ctl (s : State) (x : Option Memory) : (s.withStore x).ctl = s.ctl := rfl
@[simp] theorem State.withStore_line (s : State) (x : Option Memory) : (s.withStore x).line = s.line := rfl
@[simp] theorem State.withStore_peers (s : State) (x : Option Memory) : (s.withStore x).peers = s.peers := rfl
@[simp] theorem State.withStore_sw (s : State) (x : Option Memory) : (s.withStore x).sw = s.sw := rfl
@[simp] theorem State.withStore_res (s : State) (x : Option Memory) : (s.withStore x).res = s.res := rfl
@[simp] theorem State.withStore_meas (s : State) (x : Option Memory) : (s.withStore x).meas = s.meas := rfl
@[simp] theorem State.withStore_out (s : State) (x : Option Memory) : (s.withStore x).out = s.out := rfl
@[simp] theorem State.withStore_flash (s : State) (x : Option Memory) : (s.withStore x).flash = s.flash := rfl
@[simp] theorem State.withStore_supply (s : State) (x : Option Memory) : (s.withStore x).supply = s.supply := rfl
@[simp] theorem State.withStore_fan (s : State) (x : Option Memory) : (s.withStore x).fan = s.fan := rfl
@[simp] theorem State.withStore_gauges (s : State) (x : Option Memory) : (s.withStore x).gauges = s.gauges := rfl
@[simp] theorem State.withStore_svc (s : State) (x : Option Memory) : (s.withStore x).svc = s.svc := rfl
@[simp] theorem State.withStore_faults (s : State) (x : Option Memory) : (s.withStore x).faults = s.faults := rfl
@[simp] theorem State.withStore_free (s : State) (x : Option Memory) : (s.withStore x).free = s.free := rfl
@[simp] theorem State.withStore_pending (s : State) (x : Option Memory) : (s.withStore x).pending = s.pending := rfl

@[simp] theorem State.withStraps_pins (s : State) (x : Straps) : (s.withStraps x).pins = s.pins := rfl
@[simp] theorem State.withStraps_uid (s : State) (x : Straps) : (s.withStraps x).uid = s.uid := rfl
@[simp] theorem State.withStraps_store (s : State) (x : Straps) : (s.withStraps x).store = s.store := rfl
@[simp] theorem State.withStraps_straps (s : State) (x : Straps) : (s.withStraps x).straps = x := rfl
@[simp] theorem State.withStraps_cfg (s : State) (x : Straps) : (s.withStraps x).cfg = s.cfg := rfl
@[simp] theorem State.withStraps_ctl (s : State) (x : Straps) : (s.withStraps x).ctl = s.ctl := rfl
@[simp] theorem State.withStraps_line (s : State) (x : Straps) : (s.withStraps x).line = s.line := rfl
@[simp] theorem State.withStraps_peers (s : State) (x : Straps) : (s.withStraps x).peers = s.peers := rfl
@[simp] theorem State.withStraps_sw (s : State) (x : Straps) : (s.withStraps x).sw = s.sw := rfl
@[simp] theorem State.withStraps_res (s : State) (x : Straps) : (s.withStraps x).res = s.res := rfl
@[simp] theorem State.withStraps_meas (s : State) (x : Straps) : (s.withStraps x).meas = s.meas := rfl
@[simp] theorem State.withStraps_out (s : State) (x : Straps) : (s.withStraps x).out = s.out := rfl
@[simp] theorem State.withStraps_flash (s : State) (x : Straps) : (s.withStraps x).flash = s.flash := rfl
@[simp] theorem State.withStraps_supply (s : State) (x : Straps) : (s.withStraps x).supply = s.supply := rfl
@[simp] theorem State.withStraps_fan (s : State) (x : Straps) : (s.withStraps x).fan = s.fan := rfl
@[simp] theorem State.withStraps_gauges (s : State) (x : Straps) : (s.withStraps x).gauges = s.gauges := rfl
@[simp] theorem State.withStraps_svc (s : State) (x : Straps) : (s.withStraps x).svc = s.svc := rfl
@[simp] theorem State.withStraps_faults (s : State) (x : Straps) : (s.withStraps x).faults = s.faults := rfl
@[simp] theorem State.withStraps_free (s : State) (x : Straps) : (s.withStraps x).free = s.free := rfl
@[simp] theorem State.withStraps_pending (s : State) (x : Straps) : (s.withStraps x).pending = s.pending := rfl

@[simp] theorem State.withCfg_pins (s : State) (x : WorkingConfig) : (s.withCfg x).pins = s.pins := rfl
@[simp] theorem State.withCfg_uid (s : State) (x : WorkingConfig) : (s.withCfg x).uid = s.uid := rfl
@[simp] theorem State.withCfg_store (s : State) (x : WorkingConfig) : (s.withCfg x).store = s.store := rfl
@[simp] theorem State.withCfg_straps (s : State) (x : WorkingConfig) : (s.withCfg x).straps = s.straps := rfl
@[simp] theorem State.withCfg_cfg (s : State) (x : WorkingConfig) : (s.withCfg x).cfg = x := rfl
@[simp] theorem State.withCfg_ctl (s : State) (x : WorkingConfig) : (s.withCfg x).ctl = s.ctl := rfl
@[simp] theorem State.withCfg_line (s : State) (x : WorkingConfig) : (s.withCfg x).line = s.line := rfl
@[simp] theorem State.withCfg_peers (s : State) (x : WorkingConfig) : (s.withCfg x).peers = s.peers := rfl
@[simp] theorem State.withCfg_sw (s : State) (x : WorkingConfig) : (s.withCfg x).sw = s.sw := rfl
@[simp] theorem State.withCfg_res (s : State) (x : WorkingConfig) : (s.withCfg x).res = s.res := rfl
@[simp] theorem State.withCfg_meas (s : State) (x : WorkingConfig) : (s.withCfg x).meas = s.meas := rfl
@[simp] theorem State.withCfg_out (s : State) (x : WorkingConfig) : (s.withCfg x).out = s.out := rfl
@[simp] theorem State.withCfg_flash (s : State) (x : WorkingConfig) : (s.withCfg x).flash = s.flash := rfl
@[simp] theorem State.withCfg_supply (s : State) (x : WorkingConfig) : (s.withCfg x).supply = s.supply := rfl
@[simp] theorem State.withCfg_fan (s : State) (x : WorkingConfig) : (s.withCfg x).fan = s.fan := rfl
@[simp] theorem State.withCfg_gauges (s : State) (x : WorkingConfig) : (s.withCfg x).gauges = s.gauges := rfl
@[simp] theorem State.withCfg_svc (s : State) (x : WorkingConfig) : (s.withCfg x).svc = s.svc := rfl
@[simp] theorem State.withCfg_faults (s : State) (x : WorkingConfig) : (s.withCfg x).faults = s.faults := rfl
@[simp] theorem State.withCfg_free (s : State) (x : WorkingConfig) : (s.withCfg x).free = s.free := rfl
@[simp] theorem State.withCfg_pending (s : State) (x : WorkingConfig) : (s.withCfg x).pending = s.pending := rfl

@[simp] theorem State.withCtl_pins (s : State) (x : Control) : (s.withCtl x).pins = s.pins := rfl
@[simp] theorem State.withCtl_uid (s : State) (x : Control) : (s.withCtl x).uid = s.uid := rfl
@[simp] theorem State.withCtl_store (s : State) (x : Control) : (s.withCtl x).store = s.store := rfl
@[simp] theorem State.withCtl_straps (s : State) (x : Control) : (s.withCtl x).straps = s.straps := rfl
@[simp] theorem State.withCtl_cfg (s : State) (x : Control) : (s.withCtl x).cfg = s.cfg := rfl
@[simp] theorem State.withCtl_ctl (s : State) (x : Control) : (s.withCtl x).ctl = x := rfl
@[simp] theorem State.withCtl_line (s : State) (x : Control) : (s.withCtl x).line = s.line := rfl
@[simp] theorem State.withCtl_peers (s : State) (x : Control) : (s.withCtl x).peers = s.peers := rfl
@[simp] theorem State.withCtl_sw (s : State) (x : Control) : (s.withCtl x).sw = s.sw := rfl
@[simp] theorem State.withCtl_res (s : State) (x : Control) : (s.withCtl x).res = s.res := rfl
@[simp] theorem State.withCtl_meas (s : State) (x : Control) : (s.withCtl x).meas = s.meas := rfl
@[simp] theorem State.withCtl_out (s : State) (x : Control) : (s.withCtl x).out = s.out := rfl
@[simp] theorem State.withCtl_flash (s : State) (x : Control) : (s.withCtl x).flash = s.flash := rfl
@[simp] theorem State.withCtl_supply (s : State) (x : Control) : (s.withCtl x).supply = s.supply := rfl
@[simp] theorem State.withCtl_fan (s : State) (x : Control) : (s.withCtl x).fan = s.fan := rfl
@[simp] theorem State.withCtl_gauges (s : State) (x : Control) : (s.withCtl x).gauges = s.gauges := rfl
@[simp] theorem State.withCtl_svc (s : State) (x : Control) : (s.withCtl x).svc = s.svc := rfl
@[simp] theorem State.withCtl_faults (s : State) (x : Control) : (s.withCtl x).faults = s.faults := rfl
@[simp] theorem State.withCtl_free (s : State) (x : Control) : (s.withCtl x).free = s.free := rfl
@[simp] theorem State.withCtl_pending (s : State) (x : Control) : (s.withCtl x).pending = s.pending := rfl

@[simp] theorem State.withLine_pins (s : State) (x : Line) : (s.withLine x).pins = s.pins := rfl
@[simp] theorem State.withLine_uid (s : State) (x : Line) : (s.withLine x).uid = s.uid := rfl
@[simp] theorem State.withLine_store (s : State) (x : Line) : (s.withLine x).store = s.store := rfl
@[simp] theorem State.withLine_straps (s : State) (x : Line) : (s.withLine x).straps = s.straps := rfl
@[simp] theorem State.withLine_cfg (s : State) (x : Line) : (s.withLine x).cfg = s.cfg := rfl
@[simp] theorem State.withLine_ctl (s : State) (x : Line) : (s.withLine x).ctl = s.ctl := rfl
@[simp] theorem State.withLine_line (s : State) (x : Line) : (s.withLine x).line = x := rfl
@[simp] theorem State.withLine_peers (s : State) (x : Line) : (s.withLine x).peers = s.peers := rfl
@[simp] theorem State.withLine_sw (s : State) (x : Line) : (s.withLine x).sw = s.sw := rfl
@[simp] theorem State.withLine_res (s : State) (x : Line) : (s.withLine x).res = s.res := rfl
@[simp] theorem State.withLine_meas (s : State) (x : Line) : (s.withLine x).meas = s.meas := rfl
@[simp] theorem State.withLine_out (s : State) (x : Line) : (s.withLine x).out = s.out := rfl
@[simp] theorem State.withLine_flash (s : State) (x : Line) : (s.withLine x).flash = s.flash := rfl
@[simp] theorem State.withLine_supply (s : State) (x : Line) : (s.withLine x).supply = s.supply := rfl
@[simp] theorem State.withLine_fan (s : State) (x : Line) : (s.withLine x).fan = s.fan := rfl
@[simp] theorem State.withLine_gauges (s : State) (x : Line) : (s.withLine x).gauges = s.gauges := rfl
@[simp] theorem State.withLine_svc (s : State) (x : Line) : (s.withLine x).svc = s.svc := rfl
@[simp] theorem State.withLine_faults (s : State) (x : Line) : (s.withLine x).faults = s.faults := rfl
@[simp] theorem State.withLine_free (s : State) (x : Line) : (s.withLine x).free = s.free := rfl
@[simp] theorem State.withLine_pending (s : State) (x : Line) : (s.withLine x).pending = s.pending := rfl

@[simp] theorem State.withPeers_pins (s : State) (x : PeerTable) : (s.withPeers x).pins = s.pins := rfl
@[simp] theorem State.withPeers_uid (s : State) (x : PeerTable) : (s.withPeers x).uid = s.uid := rfl
@[simp] theorem State.withPeers_store (s : State) (x : PeerTable) : (s.withPeers x).store = s.store := rfl
@[simp] theorem State.withPeers_straps (s : State) (x : PeerTable) : (s.withPeers x).straps = s.straps := rfl
@[simp] theorem State.withPeers_cfg (s : State) (x : PeerTable) : (s.withPeers x).cfg = s.cfg := rfl
@[simp] theorem State.withPeers_ctl (s : State) (x : PeerTable) : (s.withPeers x).ctl = s.ctl := rfl
@[simp] theorem State.withPeers_line (s : State) (x : PeerTable) : (s.withPeers x).line = s.line := rfl
@[simp] theorem State.withPeers_peers (s : State) (x : PeerTable) : (s.withPeers x).peers = x := rfl
@[simp] theorem State.withPeers_sw (s : State) (x : PeerTable) : (s.withPeers x).sw = s.sw := rfl
@[simp] theorem State.withPeers_res (s : State) (x : PeerTable) : (s.withPeers x).res = s.res := rfl
@[simp] theorem State.withPeers_meas (s : State) (x : PeerTable) : (s.withPeers x).meas = s.meas := rfl
@[simp] theorem State.withPeers_out (s : State) (x : PeerTable) : (s.withPeers x).out = s.out := rfl
@[simp] theorem State.withPeers_flash (s : State) (x : PeerTable) : (s.withPeers x).flash = s.flash := rfl
@[simp] theorem State.withPeers_supply (s : State) (x : PeerTable) : (s.withPeers x).supply = s.supply := rfl
@[simp] theorem State.withPeers_fan (s : State) (x : PeerTable) : (s.withPeers x).fan = s.fan := rfl
@[simp] theorem State.withPeers_gauges (s : State) (x : PeerTable) : (s.withPeers x).gauges = s.gauges := rfl
@[simp] theorem State.withPeers_svc (s : State) (x : PeerTable) : (s.withPeers x).svc = s.svc := rfl
@[simp] theorem State.withPeers_faults (s : State) (x : PeerTable) : (s.withPeers x).faults = s.faults := rfl
@[simp] theorem State.withPeers_free (s : State) (x : PeerTable) : (s.withPeers x).free = s.free := rfl
@[simp] theorem State.withPeers_pending (s : State) (x : PeerTable) : (s.withPeers x).pending = s.pending := rfl

@[simp] theorem State.withSw_pins (s : State) (x : SwitchInputs) : (s.withSw x).pins = s.pins := rfl
@[simp] theorem State.withSw_uid (s : State) (x : SwitchInputs) : (s.withSw x).uid = s.uid := rfl
@[simp] theorem State.withSw_store (s : State) (x : SwitchInputs) : (s.withSw x).store = s.store := rfl
@[simp] theorem State.withSw_straps (s : State) (x : SwitchInputs) : (s.withSw x).straps = s.straps := rfl
@[simp] theorem State.withSw_cfg (s : State) (x : SwitchInputs) : (s.withSw x).cfg = s.cfg := rfl
@[simp] theorem State.withSw_ctl (s : State) (x : SwitchInputs) : (s.withSw x).ctl = s.ctl := rfl
@[simp] theorem State.withSw_line (s : State) (x : SwitchInputs) : (s.withSw x).line = s.line := rfl
@[simp] theorem State.withSw_peers (s : State) (x : SwitchInputs) : (s.withSw x).peers = s.peers := rfl
@[simp] theorem State.withSw_sw (s : State) (x : SwitchInputs) : (s.withSw x).sw = x := rfl
@[simp] theorem State.withSw_res (s : State) (x : SwitchInputs) : (s.withSw x).res = s.res := rfl
@[simp] theorem State.withSw_meas (s : State) (x : SwitchInputs) : (s.withSw x).meas = s.meas := rfl
@[simp] theorem State.withSw_out (s : State) (x : SwitchInputs) : (s.withSw x).out = s.out := rfl
@[simp] theorem State.withSw_flash (s : State) (x : SwitchInputs) : (s.withSw x).flash = s.flash := rfl
@[simp] theorem State.withSw_supply (s : State) (x : SwitchInputs) : (s.withSw x).supply = s.supply := rfl
@[simp] theorem State.withSw_fan (s : State) (x : SwitchInputs) : (s.withSw x).fan = s.fan := rfl
@[simp] theorem State.withSw_gauges (s : State) (x : SwitchInputs) : (s.withSw x).gauges = s.gauges := rfl
@[simp] theorem State.withSw_svc (s : State) (x : SwitchInputs) : (s.withSw x).svc = s.svc := rfl
@[simp] theorem State.withSw_faults (s : State) (x : SwitchInputs) : (s.withSw x).faults = s.faults := rfl
@[simp] theorem State.withSw_free (s : State) (x : SwitchInputs) : (s.withSw x).free = s.free := rfl
@[simp] theorem State.withSw_pending (s : State) (x : SwitchInputs) : (s.withSw x).pending = s.pending := rfl

@[simp] theorem State.withRes_pins (s : State) (x : Resolver) : (s.withRes x).pins = s.pins := rfl
@[simp] theorem State.withRes_uid (s : State) (x : Resolver) : (s.withRes x).uid = s.uid := rfl
@[simp] theorem State.withRes_store (s : State) (x : Resolver) : (s.withRes x).store = s.store := rfl
@[simp] theorem State.withRes_straps (s : State) (x : Resolver) : (s.withRes x).straps = s.straps := rfl
@[simp] theorem State.withRes_cfg (s : State) (x : Resolver) : (s.withRes x).cfg = s.cfg := rfl
@[simp] theorem State.withRes_ctl (s : State) (x : Resolver) : (s.withRes x).ctl = s.ctl := rfl
@[simp] theorem State.withRes_line (s : State) (x : Resolver) : (s.withRes x).line = s.line := rfl
@[simp] theorem State.withRes_peers (s : State) (x : Resolver) : (s.withRes x).peers = s.peers := rfl
@[simp] theorem State.withRes_sw (s : State) (x : Resolver) : (s.withRes x).sw = s.sw := rfl
@[simp] theorem State.withRes_res (s : State) (x : Resolver) : (s.withRes x).res = x := rfl
@[simp] theorem State.withRes_meas (s : State) (x : Resolver) : (s.withRes x).meas = s.meas := rfl
@[simp] theorem State.withRes_out (s : State) (x : Resolver) : (s.withRes x).out = s.out := rfl
@[simp] theorem State.withRes_flash (s : State) (x : Resolver) : (s.withRes x).flash = s.flash := rfl
@[simp] theorem State.withRes_supply (s : State) (x : Resolver) : (s.withRes x).supply = s.supply := rfl
@[simp] theorem State.withRes_fan (s : State) (x : Resolver) : (s.withRes x).fan = s.fan := rfl
@[simp] theorem State.withRes_gauges (s : State) (x : Resolver) : (s.withRes x).gauges = s.gauges := rfl
@[simp] theorem State.withRes_svc (s : State) (x : Resolver) : (s.withRes x).svc = s.svc := rfl
@[simp] theorem State.withRes_faults (s : State) (x : Resolver) : (s.withRes x).faults = s.faults := rfl
@[simp] theorem State.withRes_free (s : State) (x : Resolver) : (s.withRes x).free = s.free := rfl
@[simp] theorem State.withRes_pending (s : State) (x : Resolver) : (s.withRes x).pending = s.pending := rfl

@[simp] theorem State.withMeas_pins (s : State) (x : Measurement) : (s.withMeas x).pins = s.pins := rfl
@[simp] theorem State.withMeas_uid (s : State) (x : Measurement) : (s.withMeas x).uid = s.uid := rfl
@[simp] theorem State.withMeas_store (s : State) (x : Measurement) : (s.withMeas x).store = s.store := rfl
@[simp] theorem State.withMeas_straps (s : State) (x : Measurement) : (s.withMeas x).straps = s.straps := rfl
@[simp] theorem State.withMeas_cfg (s : State) (x : Measurement) : (s.withMeas x).cfg = s.cfg := rfl
@[simp] theorem State.withMeas_ctl (s : State) (x : Measurement) : (s.withMeas x).ctl = s.ctl := rfl
@[simp] theorem State.withMeas_line (s : State) (x : Measurement) : (s.withMeas x).line = s.line := rfl
@[simp] theorem State.withMeas_peers (s : State) (x : Measurement) : (s.withMeas x).peers = s.peers := rfl
@[simp] theorem State.withMeas_sw (s : State) (x : Measurement) : (s.withMeas x).sw = s.sw := rfl
@[simp] theorem State.withMeas_res (s : State) (x : Measurement) : (s.withMeas x).res = s.res := rfl
@[simp] theorem State.withMeas_meas (s : State) (x : Measurement) : (s.withMeas x).meas = x := rfl
@[simp] theorem State.withMeas_out (s : State) (x : Measurement) : (s.withMeas x).out = s.out := rfl
@[simp] theorem State.withMeas_flash (s : State) (x : Measurement) : (s.withMeas x).flash = s.flash := rfl
@[simp] theorem State.withMeas_supply (s : State) (x : Measurement) : (s.withMeas x).supply = s.supply := rfl
@[simp] theorem State.withMeas_fan (s : State) (x : Measurement) : (s.withMeas x).fan = s.fan := rfl
@[simp] theorem State.withMeas_gauges (s : State) (x : Measurement) : (s.withMeas x).gauges = s.gauges := rfl
@[simp] theorem State.withMeas_svc (s : State) (x : Measurement) : (s.withMeas x).svc = s.svc := rfl
@[simp] theorem State.withMeas_faults (s : State) (x : Measurement) : (s.withMeas x).faults = s.faults := rfl
@[simp] theorem State.withMeas_free (s : State) (x : Measurement) : (s.withMeas x).free = s.free := rfl
@[simp] theorem State.withMeas_pending (s : State) (x : Measurement) : (s.withMeas x).pending = s.pending := rfl

@[simp] theorem State.withOut_pins (s : State) (x : Outputs) : (s.withOut x).pins = s.pins := rfl
@[simp] theorem State.withOut_uid (s : State) (x : Outputs) : (s.withOut x).uid = s.uid := rfl
@[simp] theorem State.withOut_store (s : State) (x : Outputs) : (s.withOut x).store = s.store := rfl
@[simp] theorem State.withOut_straps (s : State) (x : Outputs) : (s.withOut x).straps = s.straps := rfl
@[simp] theorem State.withOut_cfg (s : State) (x : Outputs) : (s.withOut x).cfg = s.cfg := rfl
@[simp] theorem State.withOut_ctl (s : State) (x : Outputs) : (s.withOut x).ctl = s.ctl := rfl
@[simp] theorem State.withOut_line (s : State) (x : Outputs) : (s.withOut x).line = s.line := rfl
@[simp] theorem State.withOut_peers (s : State) (x : Outputs) : (s.withOut x).peers = s.peers := rfl
@[simp] theorem State.withOut_sw (s : State) (x : Outputs) : (s.withOut x).sw = s.sw := rfl
@[simp] theorem State.withOut_res (s : State) (x : Outputs) : (s.withOut x).res = s.res := rfl
@[simp] theorem State.withOut_meas (s : State) (x : Outputs) : (s.withOut x).meas = s.meas := rfl
@[simp] theorem State.withOut_out (s : State) (x : Outputs) : (s.withOut x).out = x := rfl
@[simp] theorem State.withOut_flash (s : State) (x : Outputs) : (s.withOut x).flash = s.flash := rfl
@[simp] theorem State.withOut_supply (s : State) (x : Outputs) : (s.withOut x).supply = s.supply := rfl
@[simp] theorem State.withOut_fan (s : State) (x : Outputs) : (s.withOut x).fan = s.fan := rfl
@[simp] theorem State.withOut_gauges (s : State) (x : Outputs) : (s.withOut x).gauges = s.gauges := rfl
@[simp] theorem State.withOut_svc (s : State) (x : Outputs) : (s.withOut x).svc = s.svc := rfl
@[simp] theorem State.withOut_faults (s : State) (x : Outputs) : (s.withOut x).faults = s.faults := rfl
@[simp] theorem State.withOut_free (s : State) (x : Outputs) : (s.withOut x).free = s.free := rfl
@[simp] theorem State.withOut_pending (s : State) (x : Outputs) : (s.withOut x).pending = s.pending := rfl

@[simp] theorem State.withFlash_pins (s : State) (x : Flasher) : (s.withFlash x).pins = s.pins := rfl
@[simp] theorem State.withFlash_uid (s : State) (x : Flasher) : (s.withFlash x).uid = s.uid := rfl
@[simp] theorem State.withFlash_store (s : State) (x : Flasher) : (s.withFlash x).store = s.store := rfl
@[simp] theorem State.withFlash_straps (s : State) (x : Flasher) : (s.withFlash x).straps = s.straps := rfl
@[simp] theorem State.withFlash_cfg (s : State) (x : Flasher) : (s.withFlash x).cfg = s.cfg := rfl
@[simp] theorem State.withFlash_ctl (s : State) (x : Flasher) : (s.withFlash x).ctl = s.ctl := rfl
@[simp] theorem State.withFlash_line (s : State) (x : Flasher) : (s.withFlash x).line = s.line := rfl
@[simp] theorem State.withFlash_peers (s : State) (x : Flasher) : (s.withFlash x).peers = s.peers := rfl
@[simp] theorem State.withFlash_sw (s : State) (x : Flasher) : (s.withFlash x).sw = s.sw := rfl
@[simp] theorem State.withFlash_res (s : State) (x : Flasher) : (s.withFlash x).res = s.res := rfl
@[simp] theorem State.withFlash_meas (s : State) (x : Flasher) : (s.withFlash x).meas = s.meas := rfl
@[simp] theorem State.withFlash_out (s : State) (x : Flasher) : (s.withFlash x).out = s.out := rfl
@[simp] theorem State.withFlash_flash (s : State) (x : Flasher) : (s.withFlash x).flash = x := rfl
@[simp] theorem State.withFlash_supply (s : State) (x : Flasher) : (s.withFlash x).supply = s.supply := rfl
@[simp] theorem State.withFlash_fan (s : State) (x : Flasher) : (s.withFlash x).fan = s.fan := rfl
@[simp] theorem State.withFlash_gauges (s : State) (x : Flasher) : (s.withFlash x).gauges = s.gauges := rfl
@[simp] theorem State.withFlash_svc (s : State) (x : Flasher) : (s.withFlash x).svc = s.svc := rfl
@[simp] theorem State.withFlash_faults (s : State) (x : Flasher) : (s.withFlash x).faults = s.faults := rfl
@[simp] theorem State.withFlash_free (s : State) (x : Flasher) : (s.withFlash x).free = s.free := rfl
@[simp] theorem State.withFlash_pending (s : State) (x : Flasher) : (s.withFlash x).pending = s.pending := rfl

@[simp] theorem State.withSupply_pins (s : State) (x : Supply) : (s.withSupply x).pins = s.pins := rfl
@[simp] theorem State.withSupply_uid (s : State) (x : Supply) : (s.withSupply x).uid = s.uid := rfl
@[simp] theorem State.withSupply_store (s : State) (x : Supply) : (s.withSupply x).store = s.store := rfl
@[simp] theorem State.withSupply_straps (s : State) (x : Supply) : (s.withSupply x).straps = s.straps := rfl
@[simp] theorem State.withSupply_cfg (s : State) (x : Supply) : (s.withSupply x).cfg = s.cfg := rfl
@[simp] theorem State.withSupply_ctl (s : State) (x : Supply) : (s.withSupply x).ctl = s.ctl := rfl
@[simp] theorem State.withSupply_line (s : State) (x : Supply) : (s.withSupply x).line = s.line := rfl
@[simp] theorem State.withSupply_peers (s : State) (x : Supply) : (s.withSupply x).peers = s.peers := rfl
@[simp] theorem State.withSupply_sw (s : State) (x : Supply) : (s.withSupply x).sw = s.sw := rfl
@[simp] theorem State.withSupply_res (s : State) (x : Supply) : (s.withSupply x).res = s.res := rfl
@[simp] theorem State.withSupply_meas (s : State) (x : Supply) : (s.withSupply x).meas = s.meas := rfl
@[simp] theorem State.withSupply_out (s : State) (x : Supply) : (s.withSupply x).out = s.out := rfl
@[simp] theorem State.withSupply_flash (s : State) (x : Supply) : (s.withSupply x).flash = s.flash := rfl
@[simp] theorem State.withSupply_supply (s : State) (x : Supply) : (s.withSupply x).supply = x := rfl
@[simp] theorem State.withSupply_fan (s : State) (x : Supply) : (s.withSupply x).fan = s.fan := rfl
@[simp] theorem State.withSupply_gauges (s : State) (x : Supply) : (s.withSupply x).gauges = s.gauges := rfl
@[simp] theorem State.withSupply_svc (s : State) (x : Supply) : (s.withSupply x).svc = s.svc := rfl
@[simp] theorem State.withSupply_faults (s : State) (x : Supply) : (s.withSupply x).faults = s.faults := rfl
@[simp] theorem State.withSupply_free (s : State) (x : Supply) : (s.withSupply x).free = s.free := rfl
@[simp] theorem State.withSupply_pending (s : State) (x : Supply) : (s.withSupply x).pending = s.pending := rfl

@[simp] theorem State.withFan_pins (s : State) (x : Fan) : (s.withFan x).pins = s.pins := rfl
@[simp] theorem State.withFan_uid (s : State) (x : Fan) : (s.withFan x).uid = s.uid := rfl
@[simp] theorem State.withFan_store (s : State) (x : Fan) : (s.withFan x).store = s.store := rfl
@[simp] theorem State.withFan_straps (s : State) (x : Fan) : (s.withFan x).straps = s.straps := rfl
@[simp] theorem State.withFan_cfg (s : State) (x : Fan) : (s.withFan x).cfg = s.cfg := rfl
@[simp] theorem State.withFan_ctl (s : State) (x : Fan) : (s.withFan x).ctl = s.ctl := rfl
@[simp] theorem State.withFan_line (s : State) (x : Fan) : (s.withFan x).line = s.line := rfl
@[simp] theorem State.withFan_peers (s : State) (x : Fan) : (s.withFan x).peers = s.peers := rfl
@[simp] theorem State.withFan_sw (s : State) (x : Fan) : (s.withFan x).sw = s.sw := rfl
@[simp] theorem State.withFan_res (s : State) (x : Fan) : (s.withFan x).res = s.res := rfl
@[simp] theorem State.withFan_meas (s : State) (x : Fan) : (s.withFan x).meas = s.meas := rfl
@[simp] theorem State.withFan_out (s : State) (x : Fan) : (s.withFan x).out = s.out := rfl
@[simp] theorem State.withFan_flash (s : State) (x : Fan) : (s.withFan x).flash = s.flash := rfl
@[simp] theorem State.withFan_supply (s : State) (x : Fan) : (s.withFan x).supply = s.supply := rfl
@[simp] theorem State.withFan_fan (s : State) (x : Fan) : (s.withFan x).fan = x := rfl
@[simp] theorem State.withFan_gauges (s : State) (x : Fan) : (s.withFan x).gauges = s.gauges := rfl
@[simp] theorem State.withFan_svc (s : State) (x : Fan) : (s.withFan x).svc = s.svc := rfl
@[simp] theorem State.withFan_faults (s : State) (x : Fan) : (s.withFan x).faults = s.faults := rfl
@[simp] theorem State.withFan_free (s : State) (x : Fan) : (s.withFan x).free = s.free := rfl
@[simp] theorem State.withFan_pending (s : State) (x : Fan) : (s.withFan x).pending = s.pending := rfl

@[simp] theorem State.withGauges_pins (s : State) (x : Gauges) : (s.withGauges x).pins = s.pins := rfl
@[simp] theorem State.withGauges_uid (s : State) (x : Gauges) : (s.withGauges x).uid = s.uid := rfl
@[simp] theorem State.withGauges_store (s : State) (x : Gauges) : (s.withGauges x).store = s.store := rfl
@[simp] theorem State.withGauges_straps (s : State) (x : Gauges) : (s.withGauges x).straps = s.straps := rfl
@[simp] theorem State.withGauges_cfg (s : State) (x : Gauges) : (s.withGauges x).cfg = s.cfg := rfl
@[simp] theorem State.withGauges_ctl (s : State) (x : Gauges) : (s.withGauges x).ctl = s.ctl := rfl
@[simp] theorem State.withGauges_line (s : State) (x : Gauges) : (s.withGauges x).line = s.line := rfl
@[simp] theorem State.withGauges_peers (s : State) (x : Gauges) : (s.withGauges x).peers = s.peers := rfl
@[simp] theorem State.withGauges_sw (s : State) (x : Gauges) : (s.withGauges x).sw = s.sw := rfl
@[simp] theorem State.withGauges_res (s : State) (x : Gauges) : (s.withGauges x).res = s.res := rfl
@[simp] theorem State.withGauges_meas (s : State) (x : Gauges) : (s.withGauges x).meas = s.meas := rfl
@[simp] theorem State.withGauges_out (s : State) (x : Gauges) : (s.withGauges x).out = s.out := rfl
@[simp] theorem State.withGauges_flash (s : State) (x : Gauges) : (s.withGauges x).flash = s.flash := rfl
@[simp] theorem State.withGauges_supply (s : State) (x : Gauges) : (s.withGauges x).supply = s.supply := rfl
@[simp] theorem State.withGauges_fan (s : State) (x : Gauges) : (s.withGauges x).fan = s.fan := rfl
@[simp] theorem State.withGauges_gauges (s : State) (x : Gauges) : (s.withGauges x).gauges = x := rfl
@[simp] theorem State.withGauges_svc (s : State) (x : Gauges) : (s.withGauges x).svc = s.svc := rfl
@[simp] theorem State.withGauges_faults (s : State) (x : Gauges) : (s.withGauges x).faults = s.faults := rfl
@[simp] theorem State.withGauges_free (s : State) (x : Gauges) : (s.withGauges x).free = s.free := rfl
@[simp] theorem State.withGauges_pending (s : State) (x : Gauges) : (s.withGauges x).pending = s.pending := rfl

@[simp] theorem State.withSvc_pins (s : State) (x : Service) : (s.withSvc x).pins = s.pins := rfl
@[simp] theorem State.withSvc_uid (s : State) (x : Service) : (s.withSvc x).uid = s.uid := rfl
@[simp] theorem State.withSvc_store (s : State) (x : Service) : (s.withSvc x).store = s.store := rfl
@[simp] theorem State.withSvc_straps (s : State) (x : Service) : (s.withSvc x).straps = s.straps := rfl
@[simp] theorem State.withSvc_cfg (s : State) (x : Service) : (s.withSvc x).cfg = s.cfg := rfl
@[simp] theorem State.withSvc_ctl (s : State) (x : Service) : (s.withSvc x).ctl = s.ctl := rfl
@[simp] theorem State.withSvc_line (s : State) (x : Service) : (s.withSvc x).line = s.line := rfl
@[simp] theorem State.withSvc_peers (s : State) (x : Service) : (s.withSvc x).peers = s.peers := rfl
@[simp] theorem State.withSvc_sw (s : State) (x : Service) : (s.withSvc x).sw = s.sw := rfl
@[simp] theorem State.withSvc_res (s : State) (x : Service) : (s.withSvc x).res = s.res := rfl
@[simp] theorem State.withSvc_meas (s : State) (x : Service) : (s.withSvc x).meas = s.meas := rfl
@[simp] theorem State.withSvc_out (s : State) (x : Service) : (s.withSvc x).out = s.out := rfl
@[simp] theorem State.withSvc_flash (s : State) (x : Service) : (s.withSvc x).flash = s.flash := rfl
@[simp] theorem State.withSvc_supply (s : State) (x : Service) : (s.withSvc x).supply = s.supply := rfl
@[simp] theorem State.withSvc_fan (s : State) (x : Service) : (s.withSvc x).fan = s.fan := rfl
@[simp] theorem State.withSvc_gauges (s : State) (x : Service) : (s.withSvc x).gauges = s.gauges := rfl
@[simp] theorem State.withSvc_svc (s : State) (x : Service) : (s.withSvc x).svc = x := rfl
@[simp] theorem State.withSvc_faults (s : State) (x : Service) : (s.withSvc x).faults = s.faults := rfl
@[simp] theorem State.withSvc_free (s : State) (x : Service) : (s.withSvc x).free = s.free := rfl
@[simp] theorem State.withSvc_pending (s : State) (x : Service) : (s.withSvc x).pending = s.pending := rfl

@[simp] theorem State.withFaults_pins (s : State) (x : FaultList) : (s.withFaults x).pins = s.pins := rfl
@[simp] theorem State.withFaults_uid (s : State) (x : FaultList) : (s.withFaults x).uid = s.uid := rfl
@[simp] theorem State.withFaults_store (s : State) (x : FaultList) : (s.withFaults x).store = s.store := rfl
@[simp] theorem State.withFaults_straps (s : State) (x : FaultList) : (s.withFaults x).straps = s.straps := rfl
@[simp] theorem State.withFaults_cfg (s : State) (x : FaultList) : (s.withFaults x).cfg = s.cfg := rfl
@[simp] theorem State.withFaults_ctl (s : State) (x : FaultList) : (s.withFaults x).ctl = s.ctl := rfl
@[simp] theorem State.withFaults_line (s : State) (x : FaultList) : (s.withFaults x).line = s.line := rfl
@[simp] theorem State.withFaults_peers (s : State) (x : FaultList) : (s.withFaults x).peers = s.peers := rfl
@[simp] theorem State.withFaults_sw (s : State) (x : FaultList) : (s.withFaults x).sw = s.sw := rfl
@[simp] theorem State.withFaults_res (s : State) (x : FaultList) : (s.withFaults x).res = s.res := rfl
@[simp] theorem State.withFaults_meas (s : State) (x : FaultList) : (s.withFaults x).meas = s.meas := rfl
@[simp] theorem State.withFaults_out (s : State) (x : FaultList) : (s.withFaults x).out = s.out := rfl
@[simp] theorem State.withFaults_flash (s : State) (x : FaultList) : (s.withFaults x).flash = s.flash := rfl
@[simp] theorem State.withFaults_supply (s : State) (x : FaultList) : (s.withFaults x).supply = s.supply := rfl
@[simp] theorem State.withFaults_fan (s : State) (x : FaultList) : (s.withFaults x).fan = s.fan := rfl
@[simp] theorem State.withFaults_gauges (s : State) (x : FaultList) : (s.withFaults x).gauges = s.gauges := rfl
@[simp] theorem State.withFaults_svc (s : State) (x : FaultList) : (s.withFaults x).svc = s.svc := rfl
@[simp] theorem State.withFaults_faults (s : State) (x : FaultList) : (s.withFaults x).faults = x := rfl
@[simp] theorem State.withFaults_free (s : State) (x : FaultList) : (s.withFaults x).free = s.free := rfl
@[simp] theorem State.withFaults_pending (s : State) (x : FaultList) : (s.withFaults x).pending = s.pending := rfl

@[simp] theorem State.withFree_pins (s : State) (x : Nat) : (s.withFree x).pins = s.pins := rfl
@[simp] theorem State.withFree_uid (s : State) (x : Nat) : (s.withFree x).uid = s.uid := rfl
@[simp] theorem State.withFree_store (s : State) (x : Nat) : (s.withFree x).store = s.store := rfl
@[simp] theorem State.withFree_straps (s : State) (x : Nat) : (s.withFree x).straps = s.straps := rfl
@[simp] theorem State.withFree_cfg (s : State) (x : Nat) : (s.withFree x).cfg = s.cfg := rfl
@[simp] theorem State.withFree_ctl (s : State) (x : Nat) : (s.withFree x).ctl = s.ctl := rfl
@[simp] theorem State.withFree_line (s : State) (x : Nat) : (s.withFree x).line = s.line := rfl
@[simp] theorem State.withFree_peers (s : State) (x : Nat) : (s.withFree x).peers = s.peers := rfl
@[simp] theorem State.withFree_sw (s : State) (x : Nat) : (s.withFree x).sw = s.sw := rfl
@[simp] theorem State.withFree_res (s : State) (x : Nat) : (s.withFree x).res = s.res := rfl
@[simp] theorem State.withFree_meas (s : State) (x : Nat) : (s.withFree x).meas = s.meas := rfl
@[simp] theorem State.withFree_out (s : State) (x : Nat) : (s.withFree x).out = s.out := rfl
@[simp] theorem State.withFree_flash (s : State) (x : Nat) : (s.withFree x).flash = s.flash := rfl
@[simp] theorem State.withFree_supply (s : State) (x : Nat) : (s.withFree x).supply = s.supply := rfl
@[simp] theorem State.withFree_fan (s : State) (x : Nat) : (s.withFree x).fan = s.fan := rfl
@[simp] theorem State.withFree_gauges (s : State) (x : Nat) : (s.withFree x).gauges = s.gauges := rfl
@[simp] theorem State.withFree_svc (s : State) (x : Nat) : (s.withFree x).svc = s.svc := rfl
@[simp] theorem State.withFree_faults (s : State) (x : Nat) : (s.withFree x).faults = s.faults := rfl
@[simp] theorem State.withFree_free (s : State) (x : Nat) : (s.withFree x).free = x := rfl
@[simp] theorem State.withFree_pending (s : State) (x : Nat) : (s.withFree x).pending = s.pending := rfl

@[simp] theorem State.withPending_pins (s : State) (x : List Instr) : (s.withPending x).pins = s.pins := rfl
@[simp] theorem State.withPending_uid (s : State) (x : List Instr) : (s.withPending x).uid = s.uid := rfl
@[simp] theorem State.withPending_store (s : State) (x : List Instr) : (s.withPending x).store = s.store := rfl
@[simp] theorem State.withPending_straps (s : State) (x : List Instr) : (s.withPending x).straps = s.straps := rfl
@[simp] theorem State.withPending_cfg (s : State) (x : List Instr) : (s.withPending x).cfg = s.cfg := rfl
@[simp] theorem State.withPending_ctl (s : State) (x : List Instr) : (s.withPending x).ctl = s.ctl := rfl
@[simp] theorem State.withPending_line (s : State) (x : List Instr) : (s.withPending x).line = s.line := rfl
@[simp] theorem State.withPending_peers (s : State) (x : List Instr) : (s.withPending x).peers = s.peers := rfl
@[simp] theorem State.withPending_sw (s : State) (x : List Instr) : (s.withPending x).sw = s.sw := rfl
@[simp] theorem State.withPending_res (s : State) (x : List Instr) : (s.withPending x).res = s.res := rfl
@[simp] theorem State.withPending_meas (s : State) (x : List Instr) : (s.withPending x).meas = s.meas := rfl
@[simp] theorem State.withPending_out (s : State) (x : List Instr) : (s.withPending x).out = s.out := rfl
@[simp] theorem State.withPending_flash (s : State) (x : List Instr) : (s.withPending x).flash = s.flash := rfl
@[simp] theorem State.withPending_supply (s : State) (x : List Instr) : (s.withPending x).supply = s.supply := rfl
@[simp] theorem State.withPending_fan (s : State) (x : List Instr) : (s.withPending x).fan = s.fan := rfl
@[simp] theorem State.withPending_gauges (s : State) (x : List Instr) : (s.withPending x).gauges = s.gauges := rfl
@[simp] theorem State.withPending_svc (s : State) (x : List Instr) : (s.withPending x).svc = s.svc := rfl
@[simp] theorem State.withPending_faults (s : State) (x : List Instr) : (s.withPending x).faults = s.faults := rfl
@[simp] theorem State.withPending_free (s : State) (x : List Instr) : (s.withPending x).free = s.free := rfl
@[simp] theorem State.withPending_pending (s : State) (x : List Instr) : (s.withPending x).pending = x := rfl

@[simp] theorem State.setView_pins (s : State) (v : LineView) : (s.setView v).pins = s.pins := rfl
@[simp] theorem State.setView_uid (s : State) (v : LineView) : (s.setView v).uid = s.uid := rfl
@[simp] theorem State.setView_store (s : State) (v : LineView) : (s.setView v).store = s.store := rfl
@[simp] theorem State.setView_straps (s : State) (v : LineView) : (s.setView v).straps = s.straps := rfl
@[simp] theorem State.setView_cfg (s : State) (v : LineView) : (s.setView v).cfg = s.cfg := rfl
@[simp] theorem State.setView_ctl (s : State) (v : LineView) : (s.setView v).ctl = s.ctl := rfl
@[simp] theorem State.setView_peers (s : State) (v : LineView) : (s.setView v).peers = s.peers := rfl
@[simp] theorem State.setView_sw (s : State) (v : LineView) : (s.setView v).sw = s.sw := rfl
@[simp] theorem State.setView_res (s : State) (v : LineView) : (s.setView v).res = s.res := rfl
@[simp] theorem State.setView_meas (s : State) (v : LineView) : (s.setView v).meas = s.meas := rfl
@[simp] theorem State.setView_out (s : State) (v : LineView) : (s.setView v).out = s.out := rfl
@[simp] theorem State.setView_flash (s : State) (v : LineView) : (s.setView v).flash = s.flash := rfl
@[simp] theorem State.setView_supply (s : State) (v : LineView) : (s.setView v).supply = s.supply := rfl
@[simp] theorem State.setView_fan (s : State) (v : LineView) : (s.setView v).fan = s.fan := rfl
@[simp] theorem State.setView_gauges (s : State) (v : LineView) : (s.setView v).gauges = s.gauges := rfl
@[simp] theorem State.setView_svc (s : State) (v : LineView) : (s.setView v).svc = s.svc := rfl
@[simp] theorem State.setView_faults (s : State) (v : LineView) : (s.setView v).faults = s.faults := rfl
@[simp] theorem State.setView_free (s : State) (v : LineView) : (s.setView v).free = s.free := rfl
@[simp] theorem State.setView_pending (s : State) (v : LineView) : (s.setView v).pending = s.pending := rfl

@[simp] theorem State.setChannel_pins (s : State) (i : Fin 8) (c : Channel) : (s.setChannel i c).pins = s.pins := rfl
@[simp] theorem State.setChannel_uid (s : State) (i : Fin 8) (c : Channel) : (s.setChannel i c).uid = s.uid := rfl
@[simp] theorem State.setChannel_store (s : State) (i : Fin 8) (c : Channel) : (s.setChannel i c).store = s.store := rfl
@[simp] theorem State.setChannel_straps (s : State) (i : Fin 8) (c : Channel) : (s.setChannel i c).straps = s.straps := rfl
@[simp] theorem State.setChannel_cfg (s : State) (i : Fin 8) (c : Channel) : (s.setChannel i c).cfg = s.cfg := rfl
@[simp] theorem State.setChannel_ctl (s : State) (i : Fin 8) (c : Channel) : (s.setChannel i c).ctl = s.ctl := rfl
@[simp] theorem State.setChannel_line (s : State) (i : Fin 8) (c : Channel) : (s.setChannel i c).line = s.line := rfl
@[simp] theorem State.setChannel_peers (s : State) (i : Fin 8) (c : Channel) : (s.setChannel i c).peers = s.peers := rfl
@[simp] theorem State.setChannel_sw (s : State) (i : Fin 8) (c : Channel) : (s.setChannel i c).sw = s.sw := rfl
@[simp] theorem State.setChannel_res (s : State) (i : Fin 8) (c : Channel) : (s.setChannel i c).res = s.res := rfl
@[simp] theorem State.setChannel_meas (s : State) (i : Fin 8) (c : Channel) : (s.setChannel i c).meas = s.meas := rfl
@[simp] theorem State.setChannel_flash (s : State) (i : Fin 8) (c : Channel) : (s.setChannel i c).flash = s.flash := rfl
@[simp] theorem State.setChannel_supply (s : State) (i : Fin 8) (c : Channel) : (s.setChannel i c).supply = s.supply := rfl
@[simp] theorem State.setChannel_fan (s : State) (i : Fin 8) (c : Channel) : (s.setChannel i c).fan = s.fan := rfl
@[simp] theorem State.setChannel_gauges (s : State) (i : Fin 8) (c : Channel) : (s.setChannel i c).gauges = s.gauges := rfl
@[simp] theorem State.setChannel_svc (s : State) (i : Fin 8) (c : Channel) : (s.setChannel i c).svc = s.svc := rfl
@[simp] theorem State.setChannel_faults (s : State) (i : Fin 8) (c : Channel) : (s.setChannel i c).faults = s.faults := rfl
@[simp] theorem State.setChannel_free (s : State) (i : Fin 8) (c : Channel) : (s.setChannel i c).free = s.free := rfl
@[simp] theorem State.setChannel_pending (s : State) (i : Fin 8) (c : Channel) : (s.setChannel i c).pending = s.pending := rfl

@[simp] theorem State.setInput_pins (s : State) (i : Fin 8) (x : SwitchState) : (s.setInput i x).pins = s.pins := rfl
@[simp] theorem State.setInput_uid (s : State) (i : Fin 8) (x : SwitchState) : (s.setInput i x).uid = s.uid := rfl
@[simp] theorem State.setInput_store (s : State) (i : Fin 8) (x : SwitchState) : (s.setInput i x).store = s.store := rfl
@[simp] theorem State.setInput_straps (s : State) (i : Fin 8) (x : SwitchState) : (s.setInput i x).straps = s.straps := rfl
@[simp] theorem State.setInput_cfg (s : State) (i : Fin 8) (x : SwitchState) : (s.setInput i x).cfg = s.cfg := rfl
@[simp] theorem State.setInput_ctl (s : State) (i : Fin 8) (x : SwitchState) : (s.setInput i x).ctl = s.ctl := rfl
@[simp] theorem State.setInput_line (s : State) (i : Fin 8) (x : SwitchState) : (s.setInput i x).line = s.line := rfl
@[simp] theorem State.setInput_peers (s : State) (i : Fin 8) (x : SwitchState) : (s.setInput i x).peers = s.peers := rfl
@[simp] theorem State.setInput_res (s : State) (i : Fin 8) (x : SwitchState) : (s.setInput i x).res = s.res := rfl
@[simp] theorem State.setInput_meas (s : State) (i : Fin 8) (x : SwitchState) : (s.setInput i x).meas = s.meas := rfl
@[simp] theorem State.setInput_out (s : State) (i : Fin 8) (x : SwitchState) : (s.setInput i x).out = s.out := rfl
@[simp] theorem State.setInput_flash (s : State) (i : Fin 8) (x : SwitchState) : (s.setInput i x).flash = s.flash := rfl
@[simp] theorem State.setInput_supply (s : State) (i : Fin 8) (x : SwitchState) : (s.setInput i x).supply = s.supply := rfl
@[simp] theorem State.setInput_fan (s : State) (i : Fin 8) (x : SwitchState) : (s.setInput i x).fan = s.fan := rfl
@[simp] theorem State.setInput_gauges (s : State) (i : Fin 8) (x : SwitchState) : (s.setInput i x).gauges = s.gauges := rfl
@[simp] theorem State.setInput_svc (s : State) (i : Fin 8) (x : SwitchState) : (s.setInput i x).svc = s.svc := rfl
@[simp] theorem State.setInput_faults (s : State) (i : Fin 8) (x : SwitchState) : (s.setInput i x).faults = s.faults := rfl
@[simp] theorem State.setInput_free (s : State) (i : Fin 8) (x : SwitchState) : (s.setInput i x).free = s.free := rfl
@[simp] theorem State.setInput_pending (s : State) (i : Fin 8) (x : SwitchState) : (s.setInput i x).pending = s.pending := rfl

@[simp] theorem State.addFault_pins (s : State) (k : FaultKind) (x : Option Nat) : (s.addFault k x).pins = s.pins := rfl
@[simp] theorem State.addFault_uid (s : State) (k : FaultKind) (x : Option Nat) : (s.addFault k x).uid = s.uid := rfl
@[simp] theorem State.addFault_store (s : State) (k : FaultKind) (x : Option Nat) : (s.addFault k x).store = s.store := rfl
@[simp] theorem State.addFault_straps (s : State) (k : FaultKind) (x : Option Nat) : (s.addFault k x).straps = s.straps := rfl
@[simp] theorem State.addFault_cfg (s : State) (k : FaultKind) (x : Option Nat) : (s.addFault k x).cfg = s.cfg := rfl
@[simp] theorem State.addFault_ctl (s : State) (k : FaultKind) (x : Option Nat) : (s.addFault k x).ctl = s.ctl := rfl
@[simp] theorem State.addFault_line (s : State) (k : FaultKind) (x : Option Nat) : (s.addFault k x).line = s.line := rfl
@[simp] theorem State.addFault_peers (s : State) (k : FaultKind) (x : Option Nat) : (s.addFault k x).peers = s.peers := rfl
@[simp] theorem State.addFault_sw (s : State) (k : FaultKind) (x : Option Nat) : (s.addFault k x).sw = s.sw := rfl
@[simp] theorem State.addFault_res (s : State) (k : FaultKind) (x : Option Nat) : (s.addFault k x).res = s.res := rfl
@[simp] theorem State.addFault_meas (s : State) (k : FaultKind) (x : Option Nat) : (s.addFault k x).meas = s.meas := rfl
@[simp] theorem State.addFault_out (s : State) (k : FaultKind) (x : Option Nat) : (s.addFault k x).out = s.out := rfl
@[simp] theorem State.addFault_flash (s : State) (k : FaultKind) (x : Option Nat) : (s.addFault k x).flash = s.flash := rfl
@[simp] theorem State.addFault_supply (s : State) (k : FaultKind) (x : Option Nat) : (s.addFault k x).supply = s.supply := rfl
@[simp] theorem State.addFault_fan (s : State) (k : FaultKind) (x : Option Nat) : (s.addFault k x).fan = s.fan := rfl
@[simp] theorem State.addFault_gauges (s : State) (k : FaultKind) (x : Option Nat) : (s.addFault k x).gauges = s.gauges := rfl
@[simp] theorem State.addFault_svc (s : State) (k : FaultKind) (x : Option Nat) : (s.addFault k x).svc = s.svc := rfl
@[simp] theorem State.addFault_free (s : State) (k : FaultKind) (x : Option Nat) : (s.addFault k x).free = s.free := rfl
@[simp] theorem State.addFault_pending (s : State) (k : FaultKind) (x : Option Nat) : (s.addFault k x).pending = s.pending := rfl

@[simp] theorem State.recomputeLocal_pins (s : State) : (s.recomputeLocal).pins = s.pins := rfl
@[simp] theorem State.recomputeLocal_uid (s : State) : (s.recomputeLocal).uid = s.uid := rfl
@[simp] theorem State.recomputeLocal_store (s : State) : (s.recomputeLocal).store = s.store := rfl
@[simp] theorem State.recomputeLocal_straps (s : State) : (s.recomputeLocal).straps = s.straps := rfl
@[simp] theorem State.recomputeLocal_cfg (s : State) : (s.recomputeLocal).cfg = s.cfg := rfl
@[simp] theorem State.recomputeLocal_ctl (s : State) : (s.recomputeLocal).ctl = s.ctl := rfl
@[simp] theorem State.recomputeLocal_line (s : State) : (s.recomputeLocal).line = s.line := rfl
@[simp] theorem State.recomputeLocal_peers (s : State) : (s.recomputeLocal).peers = s.peers := rfl
@[simp] theorem State.recomputeLocal_res (s : State) : (s.recomputeLocal).res = s.res := rfl
@[simp] theorem State.recomputeLocal_meas (s : State) : (s.recomputeLocal).meas = s.meas := rfl
@[simp] theorem State.recomputeLocal_out (s : State) : (s.recomputeLocal).out = s.out := rfl
@[simp] theorem State.recomputeLocal_flash (s : State) : (s.recomputeLocal).flash = s.flash := rfl
@[simp] theorem State.recomputeLocal_supply (s : State) : (s.recomputeLocal).supply = s.supply := rfl
@[simp] theorem State.recomputeLocal_fan (s : State) : (s.recomputeLocal).fan = s.fan := rfl
@[simp] theorem State.recomputeLocal_gauges (s : State) : (s.recomputeLocal).gauges = s.gauges := rfl
@[simp] theorem State.recomputeLocal_svc (s : State) : (s.recomputeLocal).svc = s.svc := rfl
@[simp] theorem State.recomputeLocal_faults (s : State) : (s.recomputeLocal).faults = s.faults := rfl
@[simp] theorem State.recomputeLocal_free (s : State) : (s.recomputeLocal).free = s.free := rfl
@[simp] theorem State.recomputeLocal_pending (s : State) : (s.recomputeLocal).pending = s.pending := rfl

@[simp] theorem State.stageUnion_pins (s : State) : (s.stageUnion).pins = s.pins := rfl
@[simp] theorem State.stageUnion_uid (s : State) : (s.stageUnion).uid = s.uid := rfl
@[simp] theorem State.stageUnion_store (s : State) : (s.stageUnion).store = s.store := rfl
@[simp] theorem State.stageUnion_straps (s : State) : (s.stageUnion).straps = s.straps := rfl
@[simp] theorem State.stageUnion_cfg (s : State) : (s.stageUnion).cfg = s.cfg := rfl
@[simp] theorem State.stageUnion_ctl (s : State) : (s.stageUnion).ctl = s.ctl := rfl
@[simp] theorem State.stageUnion_line (s : State) : (s.stageUnion).line = s.line := rfl
@[simp] theorem State.stageUnion_peers (s : State) : (s.stageUnion).peers = s.peers := rfl
@[simp] theorem State.stageUnion_sw (s : State) : (s.stageUnion).sw = s.sw := rfl
@[simp] theorem State.stageUnion_meas (s : State) : (s.stageUnion).meas = s.meas := rfl
@[simp] theorem State.stageUnion_out (s : State) : (s.stageUnion).out = s.out := rfl
@[simp] theorem State.stageUnion_flash (s : State) : (s.stageUnion).flash = s.flash := rfl
@[simp] theorem State.stageUnion_supply (s : State) : (s.stageUnion).supply = s.supply := rfl
@[simp] theorem State.stageUnion_fan (s : State) : (s.stageUnion).fan = s.fan := rfl
@[simp] theorem State.stageUnion_gauges (s : State) : (s.stageUnion).gauges = s.gauges := rfl
@[simp] theorem State.stageUnion_svc (s : State) : (s.stageUnion).svc = s.svc := rfl
@[simp] theorem State.stageUnion_faults (s : State) : (s.stageUnion).faults = s.faults := rfl
@[simp] theorem State.stageUnion_free (s : State) : (s.stageUnion).free = s.free := rfl
@[simp] theorem State.stageUnion_pending (s : State) : (s.stageUnion).pending = s.pending := rfl

@[simp] theorem State.stageEffective_pins (s : State) : (s.stageEffective).pins = s.pins := rfl
@[simp] theorem State.stageEffective_uid (s : State) : (s.stageEffective).uid = s.uid := rfl
@[simp] theorem State.stageEffective_store (s : State) : (s.stageEffective).store = s.store := rfl
@[simp] theorem State.stageEffective_straps (s : State) : (s.stageEffective).straps = s.straps := rfl
@[simp] theorem State.stageEffective_cfg (s : State) : (s.stageEffective).cfg = s.cfg := rfl
@[simp] theorem State.stageEffective_ctl (s : State) : (s.stageEffective).ctl = s.ctl := rfl
@[simp] theorem State.stageEffective_line (s : State) : (s.stageEffective).line = s.line := rfl
@[simp] theorem State.stageEffective_peers (s : State) : (s.stageEffective).peers = s.peers := rfl
@[simp] theorem State.stageEffective_sw (s : State) : (s.stageEffective).sw = s.sw := rfl
@[simp] theorem State.stageEffective_meas (s : State) : (s.stageEffective).meas = s.meas := rfl
@[simp] theorem State.stageEffective_out (s : State) : (s.stageEffective).out = s.out := rfl
@[simp] theorem State.stageEffective_flash (s : State) : (s.stageEffective).flash = s.flash := rfl
@[simp] theorem State.stageEffective_supply (s : State) : (s.stageEffective).supply = s.supply := rfl
@[simp] theorem State.stageEffective_fan (s : State) : (s.stageEffective).fan = s.fan := rfl
@[simp] theorem State.stageEffective_gauges (s : State) : (s.stageEffective).gauges = s.gauges := rfl
@[simp] theorem State.stageEffective_svc (s : State) : (s.stageEffective).svc = s.svc := rfl
@[simp] theorem State.stageEffective_faults (s : State) : (s.stageEffective).faults = s.faults := rfl
@[simp] theorem State.stageEffective_free (s : State) : (s.stageEffective).free = s.free := rfl
@[simp] theorem State.stageEffective_pending (s : State) : (s.stageEffective).pending = s.pending := rfl

@[simp] theorem State.reply_pins (s : State) (n : Nat) (r : ResultCode) (d : List Byte) : (s.reply n r d).pins = s.pins := rfl
@[simp] theorem State.reply_uid (s : State) (n : Nat) (r : ResultCode) (d : List Byte) : (s.reply n r d).uid = s.uid := rfl
@[simp] theorem State.reply_store (s : State) (n : Nat) (r : ResultCode) (d : List Byte) : (s.reply n r d).store = s.store := rfl
@[simp] theorem State.reply_straps (s : State) (n : Nat) (r : ResultCode) (d : List Byte) : (s.reply n r d).straps = s.straps := rfl
@[simp] theorem State.reply_cfg (s : State) (n : Nat) (r : ResultCode) (d : List Byte) : (s.reply n r d).cfg = s.cfg := rfl
@[simp] theorem State.reply_ctl (s : State) (n : Nat) (r : ResultCode) (d : List Byte) : (s.reply n r d).ctl = s.ctl := rfl
@[simp] theorem State.reply_peers (s : State) (n : Nat) (r : ResultCode) (d : List Byte) : (s.reply n r d).peers = s.peers := rfl
@[simp] theorem State.reply_sw (s : State) (n : Nat) (r : ResultCode) (d : List Byte) : (s.reply n r d).sw = s.sw := rfl
@[simp] theorem State.reply_res (s : State) (n : Nat) (r : ResultCode) (d : List Byte) : (s.reply n r d).res = s.res := rfl
@[simp] theorem State.reply_meas (s : State) (n : Nat) (r : ResultCode) (d : List Byte) : (s.reply n r d).meas = s.meas := rfl
@[simp] theorem State.reply_out (s : State) (n : Nat) (r : ResultCode) (d : List Byte) : (s.reply n r d).out = s.out := rfl
@[simp] theorem State.reply_flash (s : State) (n : Nat) (r : ResultCode) (d : List Byte) : (s.reply n r d).flash = s.flash := rfl
@[simp] theorem State.reply_supply (s : State) (n : Nat) (r : ResultCode) (d : List Byte) : (s.reply n r d).supply = s.supply := rfl
@[simp] theorem State.reply_fan (s : State) (n : Nat) (r : ResultCode) (d : List Byte) : (s.reply n r d).fan = s.fan := rfl
@[simp] theorem State.reply_gauges (s : State) (n : Nat) (r : ResultCode) (d : List Byte) : (s.reply n r d).gauges = s.gauges := rfl
@[simp] theorem State.reply_svc (s : State) (n : Nat) (r : ResultCode) (d : List Byte) : (s.reply n r d).svc = s.svc := rfl
@[simp] theorem State.reply_faults (s : State) (n : Nat) (r : ResultCode) (d : List Byte) : (s.reply n r d).faults = s.faults := rfl
@[simp] theorem State.reply_free (s : State) (n : Nat) (r : ResultCode) (d : List Byte) : (s.reply n r d).free = s.free := rfl
@[simp] theorem State.reply_pending (s : State) (n : Nat) (r : ResultCode) (d : List Byte) : (s.reply n r d).pending = s.pending := rfl

@[simp] theorem State.ignore_pins (s : State) : (s.ignore).pins = s.pins := rfl
@[simp] theorem State.ignore_uid (s : State) : (s.ignore).uid = s.uid := rfl
@[simp] theorem State.ignore_store (s : State) : (s.ignore).store = s.store := rfl
@[simp] theorem State.ignore_straps (s : State) : (s.ignore).straps = s.straps := rfl
@[simp] theorem State.ignore_cfg (s : State) : (s.ignore).cfg = s.cfg := rfl
@[simp] theorem State.ignore_ctl (s : State) : (s.ignore).ctl = s.ctl := rfl
@[simp] theorem State.ignore_line (s : State) : (s.ignore).line = s.line := rfl
@[simp] theorem State.ignore_peers (s : State) : (s.ignore).peers = s.peers := rfl
@[simp] theorem State.ignore_sw (s : State) : (s.ignore).sw = s.sw := rfl
@[simp] theorem State.ignore_res (s : State) : (s.ignore).res = s.res := rfl
@[simp] theorem State.ignore_meas (s : State) : (s.ignore).meas = s.meas := rfl
@[simp] theorem State.ignore_out (s : State) : (s.ignore).out = s.out := rfl
@[simp] theorem State.ignore_flash (s : State) : (s.ignore).flash = s.flash := rfl
@[simp] theorem State.ignore_supply (s : State) : (s.ignore).supply = s.supply := rfl
@[simp] theorem State.ignore_fan (s : State) : (s.ignore).fan = s.fan := rfl
@[simp] theorem State.ignore_gauges (s : State) : (s.ignore).gauges = s.gauges := rfl
@[simp] theorem State.ignore_faults (s : State) : (s.ignore).faults = s.faults := rfl
@[simp] theorem State.ignore_free (s : State) : (s.ignore).free = s.free := rfl
@[simp] theorem State.ignore_pending (s : State) : (s.ignore).pending = s.pending := rfl

@[simp] theorem State.armMarks_pins (s : State) (x : SideSet) : (s.armMarks x).pins = s.pins := rfl
@[simp] theorem State.armMarks_uid (s : State) (x : SideSet) : (s.armMarks x).uid = s.uid := rfl
@[simp] theorem State.armMarks_store (s : State) (x : SideSet) : (s.armMarks x).store = s.store := rfl
@[simp] theorem State.armMarks_straps (s : State) (x : SideSet) : (s.armMarks x).straps = s.straps := rfl
@[simp] theorem State.armMarks_cfg (s : State) (x : SideSet) : (s.armMarks x).cfg = s.cfg := rfl
@[simp] theorem State.armMarks_ctl (s : State) (x : SideSet) : (s.armMarks x).ctl = s.ctl := rfl
@[simp] theorem State.armMarks_line (s : State) (x : SideSet) : (s.armMarks x).line = s.line := rfl
@[simp] theorem State.armMarks_peers (s : State) (x : SideSet) : (s.armMarks x).peers = s.peers := rfl
@[simp] theorem State.armMarks_sw (s : State) (x : SideSet) : (s.armMarks x).sw = s.sw := rfl
@[simp] theorem State.armMarks_res (s : State) (x : SideSet) : (s.armMarks x).res = s.res := rfl
@[simp] theorem State.armMarks_out (s : State) (x : SideSet) : (s.armMarks x).out = s.out := rfl
@[simp] theorem State.armMarks_flash (s : State) (x : SideSet) : (s.armMarks x).flash = s.flash := rfl
@[simp] theorem State.armMarks_supply (s : State) (x : SideSet) : (s.armMarks x).supply = s.supply := rfl
@[simp] theorem State.armMarks_fan (s : State) (x : SideSet) : (s.armMarks x).fan = s.fan := rfl
@[simp] theorem State.armMarks_gauges (s : State) (x : SideSet) : (s.armMarks x).gauges = s.gauges := rfl
@[simp] theorem State.armMarks_svc (s : State) (x : SideSet) : (s.armMarks x).svc = s.svc := rfl
@[simp] theorem State.armMarks_faults (s : State) (x : SideSet) : (s.armMarks x).faults = s.faults := rfl
@[simp] theorem State.armMarks_free (s : State) (x : SideSet) : (s.armMarks x).free = s.free := rfl
@[simp] theorem State.armMarks_pending (s : State) (x : SideSet) : (s.armMarks x).pending = s.pending := rfl

@[simp] theorem State.clearMarks_pins (s : State) : (s.clearMarks).pins = s.pins := rfl
@[simp] theorem State.clearMarks_uid (s : State) : (s.clearMarks).uid = s.uid := rfl
@[simp] theorem State.clearMarks_store (s : State) : (s.clearMarks).store = s.store := rfl
@[simp] theorem State.clearMarks_straps (s : State) : (s.clearMarks).straps = s.straps := rfl
@[simp] theorem State.clearMarks_cfg (s : State) : (s.clearMarks).cfg = s.cfg := rfl
@[simp] theorem State.clearMarks_ctl (s : State) : (s.clearMarks).ctl = s.ctl := rfl
@[simp] theorem State.clearMarks_line (s : State) : (s.clearMarks).line = s.line := rfl
@[simp] theorem State.clearMarks_peers (s : State) : (s.clearMarks).peers = s.peers := rfl
@[simp] theorem State.clearMarks_sw (s : State) : (s.clearMarks).sw = s.sw := rfl
@[simp] theorem State.clearMarks_res (s : State) : (s.clearMarks).res = s.res := rfl
@[simp] theorem State.clearMarks_out (s : State) : (s.clearMarks).out = s.out := rfl
@[simp] theorem State.clearMarks_flash (s : State) : (s.clearMarks).flash = s.flash := rfl
@[simp] theorem State.clearMarks_supply (s : State) : (s.clearMarks).supply = s.supply := rfl
@[simp] theorem State.clearMarks_fan (s : State) : (s.clearMarks).fan = s.fan := rfl
@[simp] theorem State.clearMarks_gauges (s : State) : (s.clearMarks).gauges = s.gauges := rfl
@[simp] theorem State.clearMarks_svc (s : State) : (s.clearMarks).svc = s.svc := rfl
@[simp] theorem State.clearMarks_faults (s : State) : (s.clearMarks).faults = s.faults := rfl
@[simp] theorem State.clearMarks_free (s : State) : (s.clearMarks).free = s.free := rfl
@[simp] theorem State.clearMarks_pending (s : State) : (s.clearMarks).pending = s.pending := rfl

end Sys2Proof.Machine
end

