-- ==== Sys2Proof/Laws/Settle.lean ====
section
/-! SUPPORT. What the hand-ons leave as it was: for each stage one lemma that names the blocks it may change, and one
lemma per field it leaves. -/

namespace Sys2Proof.Machine

set_option Elab.async false



@[simp] theorem State.flashIdle_pins (s : State) : (s.flashIdle).pins = s.pins := rfl
@[simp] theorem State.flashIdle_uid (s : State) : (s.flashIdle).uid = s.uid := rfl
@[simp] theorem State.flashIdle_store (s : State) : (s.flashIdle).store = s.store := rfl
@[simp] theorem State.flashIdle_straps (s : State) : (s.flashIdle).straps = s.straps := rfl
@[simp] theorem State.flashIdle_cfg (s : State) : (s.flashIdle).cfg = s.cfg := rfl
@[simp] theorem State.flashIdle_ctl (s : State) : (s.flashIdle).ctl = s.ctl := rfl
@[simp] theorem State.flashIdle_line (s : State) : (s.flashIdle).line = s.line := rfl
@[simp] theorem State.flashIdle_peers (s : State) : (s.flashIdle).peers = s.peers := rfl
@[simp] theorem State.flashIdle_sw (s : State) : (s.flashIdle).sw = s.sw := rfl
@[simp] theorem State.flashIdle_res (s : State) : (s.flashIdle).res = s.res := rfl
@[simp] theorem State.flashIdle_out (s : State) : (s.flashIdle).out = s.out := rfl
@[simp] theorem State.flashIdle_supply (s : State) : (s.flashIdle).supply = s.supply := rfl
@[simp] theorem State.flashIdle_fan (s : State) : (s.flashIdle).fan = s.fan := rfl
@[simp] theorem State.flashIdle_gauges (s : State) : (s.flashIdle).gauges = s.gauges := rfl
@[simp] theorem State.flashIdle_svc (s : State) : (s.flashIdle).svc = s.svc := rfl
@[simp] theorem State.flashIdle_faults (s : State) : (s.flashIdle).faults = s.faults := rfl
@[simp] theorem State.flashIdle_free (s : State) : (s.flashIdle).free = s.free := rfl
@[simp] theorem State.flashIdle_pending (s : State) : (s.flashIdle).pending = s.pending := rfl


@[simp] theorem State.driveMotor_pins (s : State) (m : Fin 8) (b : Bool) : (s.driveMotor m b).pins = s.pins := rfl
@[simp] theorem State.driveMotor_uid (s : State) (m : Fin 8) (b : Bool) : (s.driveMotor m b).uid = s.uid := rfl
@[simp] theorem State.driveMotor_store (s : State) (m : Fin 8) (b : Bool) : (s.driveMotor m b).store = s.store := rfl
@[simp] theorem State.driveMotor_straps (s : State) (m : Fin 8) (b : Bool) : (s.driveMotor m b).straps = s.straps := rfl
@[simp] theorem State.driveMotor_cfg (s : State) (m : Fin 8) (b : Bool) : (s.driveMotor m b).cfg = s.cfg := rfl
@[simp] theorem State.driveMotor_ctl (s : State) (m : Fin 8) (b : Bool) : (s.driveMotor m b).ctl = s.ctl := rfl
@[simp] theorem State.driveMotor_line (s : State) (m : Fin 8) (b : Bool) : (s.driveMotor m b).line = s.line := rfl
@[simp] theorem State.driveMotor_peers (s : State) (m : Fin 8) (b : Bool) : (s.driveMotor m b).peers = s.peers := rfl
@[simp] theorem State.driveMotor_sw (s : State) (m : Fin 8) (b : Bool) : (s.driveMotor m b).sw = s.sw := rfl
@[simp] theorem State.driveMotor_res (s : State) (m : Fin 8) (b : Bool) : (s.driveMotor m b).res = s.res := rfl
@[simp] theorem State.driveMotor_meas (s : State) (m : Fin 8) (b : Bool) : (s.driveMotor m b).meas = s.meas := rfl
@[simp] theorem State.driveMotor_flash (s : State) (m : Fin 8) (b : Bool) : (s.driveMotor m b).flash = s.flash := rfl
@[simp] theorem State.driveMotor_supply (s : State) (m : Fin 8) (b : Bool) : (s.driveMotor m b).supply = s.supply := rfl
@[simp] theorem State.driveMotor_fan (s : State) (m : Fin 8) (b : Bool) : (s.driveMotor m b).fan = s.fan := rfl
@[simp] theorem State.driveMotor_gauges (s : State) (m : Fin 8) (b : Bool) : (s.driveMotor m b).gauges = s.gauges := rfl
@[simp] theorem State.driveMotor_svc (s : State) (m : Fin 8) (b : Bool) : (s.driveMotor m b).svc = s.svc := rfl
@[simp] theorem State.driveMotor_faults (s : State) (m : Fin 8) (b : Bool) : (s.driveMotor m b).faults = s.faults := rfl
@[simp] theorem State.driveMotor_free (s : State) (m : Fin 8) (b : Bool) : (s.driveMotor m b).free = s.free := rfl
@[simp] theorem State.driveMotor_pending (s : State) (m : Fin 8) (b : Bool) : (s.driveMotor m b).pending = s.pending := rfl


@[simp] theorem State.loadPeriodic_pins (s : State) (st : StationState) : (s.loadPeriodic st).pins = s.pins := rfl
@[simp] theorem State.loadPeriodic_uid (s : State) (st : StationState) : (s.loadPeriodic st).uid = s.uid := rfl
@[simp] theorem State.loadPeriodic_store (s : State) (st : StationState) : (s.loadPeriodic st).store = s.store := rfl
@[simp] theorem State.loadPeriodic_straps (s : State) (st : StationState) : (s.loadPeriodic st).straps = s.straps := rfl
@[simp] theorem State.loadPeriodic_cfg (s : State) (st : StationState) : (s.loadPeriodic st).cfg = s.cfg := rfl
@[simp] theorem State.loadPeriodic_ctl (s : State) (st : StationState) : (s.loadPeriodic st).ctl = s.ctl := rfl
@[simp] theorem State.loadPeriodic_peers (s : State) (st : StationState) : (s.loadPeriodic st).peers = s.peers := rfl
@[simp] theorem State.loadPeriodic_sw (s : State) (st : StationState) : (s.loadPeriodic st).sw = s.sw := rfl
@[simp] theorem State.loadPeriodic_res (s : State) (st : StationState) : (s.loadPeriodic st).res = s.res := rfl
@[simp] theorem State.loadPeriodic_meas (s : State) (st : StationState) : (s.loadPeriodic st).meas = s.meas := rfl
@[simp] theorem State.loadPeriodic_out (s : State) (st : StationState) : (s.loadPeriodic st).out = s.out := rfl
@[simp] theorem State.loadPeriodic_flash (s : State) (st : StationState) : (s.loadPeriodic st).flash = s.flash := rfl
@[simp] theorem State.loadPeriodic_supply (s : State) (st : StationState) : (s.loadPeriodic st).supply = s.supply := rfl
@[simp] theorem State.loadPeriodic_fan (s : State) (st : StationState) : (s.loadPeriodic st).fan = s.fan := rfl
@[simp] theorem State.loadPeriodic_gauges (s : State) (st : StationState) : (s.loadPeriodic st).gauges = s.gauges := rfl
@[simp] theorem State.loadPeriodic_svc (s : State) (st : StationState) : (s.loadPeriodic st).svc = s.svc := rfl
@[simp] theorem State.loadPeriodic_faults (s : State) (st : StationState) : (s.loadPeriodic st).faults = s.faults := rfl
@[simp] theorem State.loadPeriodic_free (s : State) (st : StationState) : (s.loadPeriodic st).free = s.free := rfl
@[simp] theorem State.loadPeriodic_pending (s : State) (st : StationState) : (s.loadPeriodic st).pending = s.pending := rfl

@[simp] theorem State.enterAwake_pins (s : State) : (s.enterAwake).pins = s.pins := rfl
@[simp] theorem State.enterAwake_uid (s : State) : (s.enterAwake).uid = s.uid := rfl
@[simp] theorem State.enterAwake_store (s : State) : (s.enterAwake).store = s.store := rfl
@[simp] theorem State.enterAwake_straps (s : State) : (s.enterAwake).straps = s.straps := rfl
@[simp] theorem State.enterAwake_cfg (s : State) : (s.enterAwake).cfg = s.cfg := rfl
@[simp] theorem State.enterAwake_peers (s : State) : (s.enterAwake).peers = s.peers := rfl
@[simp] theorem State.enterAwake_sw (s : State) : (s.enterAwake).sw = s.sw := rfl
@[simp] theorem State.enterAwake_res (s : State) : (s.enterAwake).res = s.res := rfl
@[simp] theorem State.enterAwake_meas (s : State) : (s.enterAwake).meas = s.meas := rfl
@[simp] theorem State.enterAwake_out (s : State) : (s.enterAwake).out = s.out := rfl
@[simp] theorem State.enterAwake_flash (s : State) : (s.enterAwake).flash = s.flash := rfl
@[simp] theorem State.enterAwake_supply (s : State) : (s.enterAwake).supply = s.supply := rfl
@[simp] theorem State.enterAwake_fan (s : State) : (s.enterAwake).fan = s.fan := rfl
@[simp] theorem State.enterAwake_gauges (s : State) : (s.enterAwake).gauges = s.gauges := rfl
@[simp] theorem State.enterAwake_svc (s : State) : (s.enterAwake).svc = s.svc := rfl
@[simp] theorem State.enterAwake_faults (s : State) : (s.enterAwake).faults = s.faults := rfl
@[simp] theorem State.enterAwake_free (s : State) : (s.enterAwake).free = s.free := rfl
@[simp] theorem State.enterAwake_pending (s : State) : (s.enterAwake).pending = s.pending := rfl

@[simp] theorem State.enterStandby_pins (s : State) : (s.enterStandby).pins = s.pins := rfl
@[simp] theorem State.enterStandby_uid (s : State) : (s.enterStandby).uid = s.uid := rfl
@[simp] theorem State.enterStandby_store (s : State) : (s.enterStandby).store = s.store := rfl
@[simp] theorem State.enterStandby_straps (s : State) : (s.enterStandby).straps = s.straps := rfl
@[simp] theorem State.enterStandby_cfg (s : State) : (s.enterStandby).cfg = s.cfg := rfl
@[simp] theorem State.enterStandby_peers (s : State) : (s.enterStandby).peers = s.peers := rfl
@[simp] theorem State.enterStandby_sw (s : State) : (s.enterStandby).sw = s.sw := rfl
@[simp] theorem State.enterStandby_res (s : State) : (s.enterStandby).res = s.res := rfl
@[simp] theorem State.enterStandby_meas (s : State) : (s.enterStandby).meas = s.meas := rfl
@[simp] theorem State.enterStandby_out (s : State) : (s.enterStandby).out = s.out := rfl
@[simp] theorem State.enterStandby_flash (s : State) : (s.enterStandby).flash = s.flash := rfl
@[simp] theorem State.enterStandby_supply (s : State) : (s.enterStandby).supply = s.supply := rfl
@[simp] theorem State.enterStandby_fan (s : State) : (s.enterStandby).fan = s.fan := rfl
@[simp] theorem State.enterStandby_gauges (s : State) : (s.enterStandby).gauges = s.gauges := rfl
@[simp] theorem State.enterStandby_svc (s : State) : (s.enterStandby).svc = s.svc := rfl
@[simp] theorem State.enterStandby_faults (s : State) : (s.enterStandby).faults = s.faults := rfl
@[simp] theorem State.enterStandby_free (s : State) : (s.enterStandby).free = s.free := rfl
@[simp] theorem State.enterStandby_pending (s : State) : (s.enterStandby).pending = s.pending := rfl

/-- What `State.stageOrders` may change. -/
theorem State.stageOrders_frame (s : State) :
    ∃ supply', s.stageOrders = { s with supply := supply' } := by
  exact ⟨_, rfl⟩

@[simp] theorem State.stageOrders_pins (s : State) : (s.stageOrders).pins = s.pins := by
  obtain ⟨_, h⟩ := State.stageOrders_frame s; rw [h]
@[simp] theorem State.stageOrders_uid (s : State) : (s.stageOrders).uid = s.uid := by
  obtain ⟨_, h⟩ := State.stageOrders_frame s; rw [h]
@[simp] theorem State.stageOrders_store (s : State) : (s.stageOrders).store = s.store := by
  obtain ⟨_, h⟩ := State.stageOrders_frame s; rw [h]
@[simp] theorem State.stageOrders_straps (s : State) : (s.stageOrders).straps = s.straps := by
  obtain ⟨_, h⟩ := State.stageOrders_frame s; rw [h]
@[simp] theorem State.stageOrders_cfg (s : State) : (s.stageOrders).cfg = s.cfg := by
  obtain ⟨_, h⟩ := State.stageOrders_frame s; rw [h]
@[simp] theorem State.stageOrders_ctl (s : State) : (s.stageOrders).ctl = s.ctl := by
  obtain ⟨_, h⟩ := State.stageOrders_frame s; rw [h]
@[simp] theorem State.stageOrders_line (s : State) : (s.stageOrders).line = s.line := by
  obtain ⟨_, h⟩ := State.stageOrders_frame s; rw [h]
@[simp] theorem State.stageOrders_peers (s : State) : (s.stageOrders).peers = s.peers := by
  obtain ⟨_, h⟩ := State.stageOrders_frame s; rw [h]
@[simp] theorem State.stageOrders_sw (s : State) : (s.stageOrders).sw = s.sw := by
  obtain ⟨_, h⟩ := State.stageOrders_frame s; rw [h]
@[simp] theorem State.stageOrders_res (s : State) : (s.stageOrders).res = s.res := by
  obtain ⟨_, h⟩ := State.stageOrders_frame s; rw [h]
@[simp] theorem State.stageOrders_meas (s : State) : (s.stageOrders).meas = s.meas := by
  obtain ⟨_, h⟩ := State.stageOrders_frame s; rw [h]
@[simp] theorem State.stageOrders_out (s : State) : (s.stageOrders).out = s.out := by
  obtain ⟨_, h⟩ := State.stageOrders_frame s; rw [h]
@[simp] theorem State.stageOrders_flash (s : State) : (s.stageOrders).flash = s.flash := by
  obtain ⟨_, h⟩ := State.stageOrders_frame s; rw [h]
@[simp] theorem State.stageOrders_fan (s : State) : (s.stageOrders).fan = s.fan := by
  obtain ⟨_, h⟩ := State.stageOrders_frame s; rw [h]
@[simp] theorem State.stageOrders_gauges (s : State) : (s.stageOrders).gauges = s.gauges := by
  obtain ⟨_, h⟩ := State.stageOrders_frame s; rw [h]
@[simp] theorem State.stageOrders_svc (s : State) : (s.stageOrders).svc = s.svc := by
  obtain ⟨_, h⟩ := State.stageOrders_frame s; rw [h]
@[simp] theorem State.stageOrders_faults (s : State) : (s.stageOrders).faults = s.faults := by
  obtain ⟨_, h⟩ := State.stageOrders_frame s; rw [h]
@[simp] theorem State.stageOrders_free (s : State) : (s.stageOrders).free = s.free := by
  obtain ⟨_, h⟩ := State.stageOrders_frame s; rw [h]
@[simp] theorem State.stageOrders_pending (s : State) : (s.stageOrders).pending = s.pending := by
  obtain ⟨_, h⟩ := State.stageOrders_frame s; rw [h]

/-- What `State.stageSupply` may change. -/
theorem State.stageSupply_frame (s : State) (b : Bool) :
    ∃ supply', s.stageSupply b = { s with supply := supply' } := by
  unfold State.stageSupply; exact State.stageOrders_frame (State.withSupply _ _)

@[simp] theorem State.stageSupply_pins (s : State) (b : Bool) : (s.stageSupply b).pins = s.pins := by
  obtain ⟨_, h⟩ := State.stageSupply_frame s b; rw [h]
@[simp] theorem State.stageSupply_uid (s : State) (b : Bool) : (s.stageSupply b).uid = s.uid := by
  obtain ⟨_, h⟩ := State.stageSupply_frame s b; rw [h]
@[simp] theorem State.stageSupply_store (s : State) (b : Bool) : (s.stageSupply b).store = s.store := by
  obtain ⟨_, h⟩ := State.stageSupply_frame s b; rw [h]
@[simp] theorem State.stageSupply_straps (s : State) (b : Bool) : (s.stageSupply b).straps = s.straps := by
  obtain ⟨_, h⟩ := State.stageSupply_frame s b; rw [h]
@[simp] theorem State.stageSupply_cfg (s : State) (b : Bool) : (s.stageSupply b).cfg = s.cfg := by
  obtain ⟨_, h⟩ := State.stageSupply_frame s b; rw [h]
@[simp] theorem State.stageSupply_ctl (s : State) (b : Bool) : (s.stageSupply b).ctl = s.ctl := by
  obtain ⟨_, h⟩ := State.stageSupply_frame s b; rw [h]
@[simp] theorem State.stageSupply_line (s : State) (b : Bool) : (s.stageSupply b).line = s.line := by
  obtain ⟨_, h⟩ := State.stageSupply_frame s b; rw [h]
@[simp] theorem State.stageSupply_peers (s : State) (b : Bool) : (s.stageSupply b).peers = s.peers := by
  obtain ⟨_, h⟩ := State.stageSupply_frame s b; rw [h]
@[simp] theorem State.stageSupply_sw (s : State) (b : Bool) : (s.stageSupply b).sw = s.sw := by
  obtain ⟨_, h⟩ := State.stageSupply_frame s b; rw [h]
@[simp] theorem State.stageSupply_res (s : State) (b : Bool) : (s.stageSupply b).res = s.res := by
  obtain ⟨_, h⟩ := State.stageSupply_frame s b; rw [h]
@[simp] theorem State.stageSupply_meas (s : State) (b : Bool) : (s.stageSupply b).meas = s.meas := by
  obtain ⟨_, h⟩ := State.stageSupply_frame s b; rw [h]
@[simp] theorem State.stageSupply_out (s : State) (b : Bool) : (s.stageSupply b).out = s.out := by
  obtain ⟨_, h⟩ := State.stageSupply_frame s b; rw [h]
@[simp] theorem State.stageSupply_flash (s : State) (b : Bool) : (s.stageSupply b).flash = s.flash := by
  obtain ⟨_, h⟩ := State.stageSupply_frame s b; rw [h]
@[simp] theorem State.stageSupply_fan (s : State) (b : Bool) : (s.stageSupply b).fan = s.fan := by
  obtain ⟨_, h⟩ := State.stageSupply_frame s b; rw [h]
@[simp] theorem State.stageSupply_gauges (s : State) (b : Bool) : (s.stageSupply b).gauges = s.gauges := by
  obtain ⟨_, h⟩ := State.stageSupply_frame s b; rw [h]
@[simp] theorem State.stageSupply_svc (s : State) (b : Bool) : (s.stageSupply b).svc = s.svc := by
  obtain ⟨_, h⟩ := State.stageSupply_frame s b; rw [h]
@[simp] theorem State.stageSupply_faults (s : State) (b : Bool) : (s.stageSupply b).faults = s.faults := by
  obtain ⟨_, h⟩ := State.stageSupply_frame s b; rw [h]
@[simp] theorem State.stageSupply_free (s : State) (b : Bool) : (s.stageSupply b).free = s.free := by
  obtain ⟨_, h⟩ := State.stageSupply_frame s b; rw [h]
@[simp] theorem State.stageSupply_pending (s : State) (b : Bool) : (s.stageSupply b).pending = s.pending := by
  obtain ⟨_, h⟩ := State.stageSupply_frame s b; rw [h]

/-- What `State.stageChannels` may change. -/
theorem State.stageChannels_frame (s : State) (b : Bool) :
    ∃ meas' out', s.stageChannels b = { s with meas := meas', out := out' } := by
  exact ⟨_, _, rfl⟩

@[simp] theorem State.stageChannels_pins (s : State) (b : Bool) : (s.stageChannels b).pins = s.pins := by
  obtain ⟨_, _, h⟩ := State.stageChannels_frame s b; rw [h]
@[simp] theorem State.stageChannels_uid (s : State) (b : Bool) : (s.stageChannels b).uid = s.uid := by
  obtain ⟨_, _, h⟩ := State.stageChannels_frame s b; rw [h]
@[simp] theorem State.stageChannels_store (s : State) (b : Bool) : (s.stageChannels b).store = s.store := by
  obtain ⟨_, _, h⟩ := State.stageChannels_frame s b; rw [h]
@[simp] theorem State.stageChannels_straps (s : State) (b : Bool) : (s.stageChannels b).straps = s.straps := by
  obtain ⟨_, _, h⟩ := State.stageChannels_frame s b; rw [h]
@[simp] theorem State.stageChannels_cfg (s : State) (b : Bool) : (s.stageChannels b).cfg = s.cfg := by
  obtain ⟨_, _, h⟩ := State.stageChannels_frame s b; rw [h]
@[simp] theorem State.stageChannels_ctl (s : State) (b : Bool) : (s.stageChannels b).ctl = s.ctl := by
  obtain ⟨_, _, h⟩ := State.stageChannels_frame s b; rw [h]
@[simp] theorem State.stageChannels_line (s : State) (b : Bool) : (s.stageChannels b).line = s.line := by
  obtain ⟨_, _, h⟩ := State.stageChannels_frame s b; rw [h]
@[simp] theorem State.stageChannels_peers (s : State) (b : Bool) : (s.stageChannels b).peers = s.peers := by
  obtain ⟨_, _, h⟩ := State.stageChannels_frame s b; rw [h]
@[simp] theorem State.stageChannels_sw (s : State) (b : Bool) : (s.stageChannels b).sw = s.sw := by
  obtain ⟨_, _, h⟩ := State.stageChannels_frame s b; rw [h]
@[simp] theorem State.stageChannels_res (s : State) (b : Bool) : (s.stageChannels b).res = s.res := by
  obtain ⟨_, _, h⟩ := State.stageChannels_frame s b; rw [h]
@[simp] theorem State.stageChannels_flash (s : State) (b : Bool) : (s.stageChannels b).flash = s.flash := by
  obtain ⟨_, _, h⟩ := State.stageChannels_frame s b; rw [h]
@[simp] theorem State.stageChannels_supply (s : State) (b : Bool) : (s.stageChannels b).supply = s.supply := by
  obtain ⟨_, _, h⟩ := State.stageChannels_frame s b; rw [h]
@[simp] theorem State.stageChannels_fan (s : State) (b : Bool) : (s.stageChannels b).fan = s.fan := by
  obtain ⟨_, _, h⟩ := State.stageChannels_frame s b; rw [h]
@[simp] theorem State.stageChannels_gauges (s : State) (b : Bool) : (s.stageChannels b).gauges = s.gauges := by
  obtain ⟨_, _, h⟩ := State.stageChannels_frame s b; rw [h]
@[simp] theorem State.stageChannels_svc (s : State) (b : Bool) : (s.stageChannels b).svc = s.svc := by
  obtain ⟨_, _, h⟩ := State.stageChannels_frame s b; rw [h]
@[simp] theorem State.stageChannels_faults (s : State) (b : Bool) : (s.stageChannels b).faults = s.faults := by
  obtain ⟨_, _, h⟩ := State.stageChannels_frame s b; rw [h]
@[simp] theorem State.stageChannels_free (s : State) (b : Bool) : (s.stageChannels b).free = s.free := by
  obtain ⟨_, _, h⟩ := State.stageChannels_frame s b; rw [h]
@[simp] theorem State.stageChannels_pending (s : State) (b : Bool) : (s.stageChannels b).pending = s.pending := by
  obtain ⟨_, _, h⟩ := State.stageChannels_frame s b; rw [h]

/-- What `State.stageLoad` may change. -/
theorem State.stageLoad_frame (s : State) :
    ∃ out' supply', s.stageLoad = { s with out := out', supply := supply' } := by
  exact ⟨_, _, rfl⟩

@[simp] theorem State.stageLoad_pins (s : State) : (s.stageLoad).pins = s.pins := by
  obtain ⟨_, _, h⟩ := State.stageLoad_frame s; rw [h]
@[simp] theorem State.stageLoad_uid (s : State) : (s.stageLoad).uid = s.uid := by
  obtain ⟨_, _, h⟩ := State.stageLoad_frame s; rw [h]
@[simp] theorem State.stageLoad_store (s : State) : (s.stageLoad).store = s.store := by
  obtain ⟨_, _, h⟩ := State.stageLoad_frame s; rw [h]
@[simp] theorem State.stageLoad_straps (s : State) : (s.stageLoad).straps = s.straps := by
  obtain ⟨_, _, h⟩ := State.stageLoad_frame s; rw [h]
@[simp] theorem State.stageLoad_cfg (s : State) : (s.stageLoad).cfg = s.cfg := by
  obtain ⟨_, _, h⟩ := State.stageLoad_frame s; rw [h]
@[simp] theorem State.stageLoad_ctl (s : State) : (s.stageLoad).ctl = s.ctl := by
  obtain ⟨_, _, h⟩ := State.stageLoad_frame s; rw [h]
@[simp] theorem State.stageLoad_line (s : State) : (s.stageLoad).line = s.line := by
  obtain ⟨_, _, h⟩ := State.stageLoad_frame s; rw [h]
@[simp] theorem State.stageLoad_peers (s : State) : (s.stageLoad).peers = s.peers := by
  obtain ⟨_, _, h⟩ := State.stageLoad_frame s; rw [h]
@[simp] theorem State.stageLoad_sw (s : State) : (s.stageLoad).sw = s.sw := by
  obtain ⟨_, _, h⟩ := State.stageLoad_frame s; rw [h]
@[simp] theorem State.stageLoad_res (s : State) : (s.stageLoad).res = s.res := by
  obtain ⟨_, _, h⟩ := State.stageLoad_frame s; rw [h]
@[simp] theorem State.stageLoad_meas (s : State) : (s.stageLoad).meas = s.meas := by
  obtain ⟨_, _, h⟩ := State.stageLoad_frame s; rw [h]
@[simp] theorem State.stageLoad_flash (s : State) : (s.stageLoad).flash = s.flash := by
  obtain ⟨_, _, h⟩ := State.stageLoad_frame s; rw [h]
@[simp] theorem State.stageLoad_fan (s : State) : (s.stageLoad).fan = s.fan := by
  obtain ⟨_, _, h⟩ := State.stageLoad_frame s; rw [h]
@[simp] theorem State.stageLoad_gauges (s : State) : (s.stageLoad).gauges = s.gauges := by
  obtain ⟨_, _, h⟩ := State.stageLoad_frame s; rw [h]
@[simp] theorem State.stageLoad_svc (s : State) : (s.stageLoad).svc = s.svc := by
  obtain ⟨_, _, h⟩ := State.stageLoad_frame s; rw [h]
@[simp] theorem State.stageLoad_faults (s : State) : (s.stageLoad).faults = s.faults := by
  obtain ⟨_, _, h⟩ := State.stageLoad_frame s; rw [h]
@[simp] theorem State.stageLoad_free (s : State) : (s.stageLoad).free = s.free := by
  obtain ⟨_, _, h⟩ := State.stageLoad_frame s; rw [h]
@[simp] theorem State.stageLoad_pending (s : State) : (s.stageLoad).pending = s.pending := by
  obtain ⟨_, _, h⟩ := State.stageLoad_frame s; rw [h]

/-- What `State.requestStatus` may change. -/
theorem State.requestStatus_frame (s : State) :
    ∃ line', s.requestStatus = { s with line := line' } := by
  unfold State.requestStatus; split
  · exact ⟨_, rfl⟩
  · exact ⟨_, rfl⟩

@[simp] theorem State.requestStatus_pins (s : State) : (s.requestStatus).pins = s.pins := by
  obtain ⟨_, h⟩ := State.requestStatus_frame s; rw [h]
@[simp] theorem State.requestStatus_uid (s : State) : (s.requestStatus).uid = s.uid := by
  obtain ⟨_, h⟩ := State.requestStatus_frame s; rw [h]
@[simp] theorem State.requestStatus_store (s : State) : (s.requestStatus).store = s.store := by
  obtain ⟨_, h⟩ := State.requestStatus_frame s; rw [h]
@[simp] theorem State.requestStatus_straps (s : State) : (s.requestStatus).straps = s.straps := by
  obtain ⟨_, h⟩ := State.requestStatus_frame s; rw [h]
@[simp] theorem State.requestStatus_cfg (s : State) : (s.requestStatus).cfg = s.cfg := by
  obtain ⟨_, h⟩ := State.requestStatus_frame s; rw [h]
@[simp] theorem State.requestStatus_ctl (s : State) : (s.requestStatus).ctl = s.ctl := by
  obtain ⟨_, h⟩ := State.requestStatus_frame s; rw [h]
@[simp] theorem State.requestStatus_peers (s : State) : (s.requestStatus).peers = s.peers := by
  obtain ⟨_, h⟩ := State.requestStatus_frame s; rw [h]
@[simp] theorem State.requestStatus_sw (s : State) : (s.requestStatus).sw = s.sw := by
  obtain ⟨_, h⟩ := State.requestStatus_frame s; rw [h]
@[simp] theorem State.requestStatus_res (s : State) : (s.requestStatus).res = s.res := by
  obtain ⟨_, h⟩ := State.requestStatus_frame s; rw [h]
@[simp] theorem State.requestStatus_meas (s : State) : (s.requestStatus).meas = s.meas := by
  obtain ⟨_, h⟩ := State.requestStatus_frame s; rw [h]
@[simp] theorem State.requestStatus_out (s : State) : (s.requestStatus).out = s.out := by
  obtain ⟨_, h⟩ := State.requestStatus_frame s; rw [h]
@[simp] theorem State.requestStatus_flash (s : State) : (s.requestStatus).flash = s.flash := by
  obtain ⟨_, h⟩ := State.requestStatus_frame s; rw [h]
@[simp] theorem State.requestStatus_supply (s : State) : (s.requestStatus).supply = s.supply := by
  obtain ⟨_, h⟩ := State.requestStatus_frame s; rw [h]
@[simp] theorem State.requestStatus_fan (s : State) : (s.requestStatus).fan = s.fan := by
  obtain ⟨_, h⟩ := State.requestStatus_frame s; rw [h]
@[simp] theorem State.requestStatus_gauges (s : State) : (s.requestStatus).gauges = s.gauges := by
  obtain ⟨_, h⟩ := State.requestStatus_frame s; rw [h]
@[simp] theorem State.requestStatus_svc (s : State) : (s.requestStatus).svc = s.svc := by
  obtain ⟨_, h⟩ := State.requestStatus_frame s; rw [h]
@[simp] theorem State.requestStatus_faults (s : State) : (s.requestStatus).faults = s.faults := by
  obtain ⟨_, h⟩ := State.requestStatus_frame s; rw [h]
@[simp] theorem State.requestStatus_free (s : State) : (s.requestStatus).free = s.free := by
  obtain ⟨_, h⟩ := State.requestStatus_frame s; rw [h]
@[simp] theorem State.requestStatus_pending (s : State) : (s.requestStatus).pending = s.pending := by
  obtain ⟨_, h⟩ := State.requestStatus_frame s; rw [h]

/-- What `State.requestAnnounce` may change. -/
theorem State.requestAnnounce_frame (s : State) :
    ∃ line', s.requestAnnounce = { s with line := line' } := by
  unfold State.requestAnnounce; split
  · exact ⟨_, rfl⟩
  · exact ⟨_, rfl⟩

@[simp] theorem State.requestAnnounce_pins (s : State) : (s.requestAnnounce).pins = s.pins := by
  obtain ⟨_, h⟩ := State.requestAnnounce_frame s; rw [h]
@[simp] theorem State.requestAnnounce_uid (s : State) : (s.requestAnnounce).uid = s.uid := by
  obtain ⟨_, h⟩ := State.requestAnnounce_frame s; rw [h]
@[simp] theorem State.requestAnnounce_store (s : State) : (s.requestAnnounce).store = s.store := by
  obtain ⟨_, h⟩ := State.requestAnnounce_frame s; rw [h]
@[simp] theorem State.requestAnnounce_straps (s : State) : (s.requestAnnounce).straps = s.straps := by
  obtain ⟨_, h⟩ := State.requestAnnounce_frame s; rw [h]
@[simp] theorem State.requestAnnounce_cfg (s : State) : (s.requestAnnounce).cfg = s.cfg := by
  obtain ⟨_, h⟩ := State.requestAnnounce_frame s; rw [h]
@[simp] theorem State.requestAnnounce_ctl (s : State) : (s.requestAnnounce).ctl = s.ctl := by
  obtain ⟨_, h⟩ := State.requestAnnounce_frame s; rw [h]
@[simp] theorem State.requestAnnounce_peers (s : State) : (s.requestAnnounce).peers = s.peers := by
  obtain ⟨_, h⟩ := State.requestAnnounce_frame s; rw [h]
@[simp] theorem State.requestAnnounce_sw (s : State) : (s.requestAnnounce).sw = s.sw := by
  obtain ⟨_, h⟩ := State.requestAnnounce_frame s; rw [h]
@[simp] theorem State.requestAnnounce_res (s : State) : (s.requestAnnounce).res = s.res := by
  obtain ⟨_, h⟩ := State.requestAnnounce_frame s; rw [h]
@[simp] theorem State.requestAnnounce_meas (s : State) : (s.requestAnnounce).meas = s.meas := by
  obtain ⟨_, h⟩ := State.requestAnnounce_frame s; rw [h]
@[simp] theorem State.requestAnnounce_out (s : State) : (s.requestAnnounce).out = s.out := by
  obtain ⟨_, h⟩ := State.requestAnnounce_frame s; rw [h]
@[simp] theorem State.requestAnnounce_flash (s : State) : (s.requestAnnounce).flash = s.flash := by
  obtain ⟨_, h⟩ := State.requestAnnounce_frame s; rw [h]
@[simp] theorem State.requestAnnounce_supply (s : State) : (s.requestAnnounce).supply = s.supply := by
  obtain ⟨_, h⟩ := State.requestAnnounce_frame s; rw [h]
@[simp] theorem State.requestAnnounce_fan (s : State) : (s.requestAnnounce).fan = s.fan := by
  obtain ⟨_, h⟩ := State.requestAnnounce_frame s; rw [h]
@[simp] theorem State.requestAnnounce_gauges (s : State) : (s.requestAnnounce).gauges = s.gauges := by
  obtain ⟨_, h⟩ := State.requestAnnounce_frame s; rw [h]
@[simp] theorem State.requestAnnounce_svc (s : State) : (s.requestAnnounce).svc = s.svc := by
  obtain ⟨_, h⟩ := State.requestAnnounce_frame s; rw [h]
@[simp] theorem State.requestAnnounce_faults (s : State) : (s.requestAnnounce).faults = s.faults := by
  obtain ⟨_, h⟩ := State.requestAnnounce_frame s; rw [h]
@[simp] theorem State.requestAnnounce_free (s : State) : (s.requestAnnounce).free = s.free := by
  obtain ⟨_, h⟩ := State.requestAnnounce_frame s; rw [h]
@[simp] theorem State.requestAnnounce_pending (s : State) : (s.requestAnnounce).pending = s.pending := by
  obtain ⟨_, h⟩ := State.requestAnnounce_frame s; rw [h]

/-- What `State.requestFlash` may change. -/
theorem State.requestFlash_frame (s : State) (x : SideSet) :
    ∃ line', s.requestFlash x = { s with line := line' } := by
  unfold State.requestFlash; split
  · exact ⟨_, rfl⟩
  · exact ⟨_, rfl⟩

@[simp] theorem State.requestFlash_pins (s : State) (x : SideSet) : (s.requestFlash x).pins = s.pins := by
  obtain ⟨_, h⟩ := State.requestFlash_frame s x; rw [h]
@[simp] theorem State.requestFlash_uid (s : State) (x : SideSet) : (s.requestFlash x).uid = s.uid := by
  obtain ⟨_, h⟩ := State.requestFlash_frame s x; rw [h]
@[simp] theorem State.requestFlash_store (s : State) (x : SideSet) : (s.requestFlash x).store = s.store := by
  obtain ⟨_, h⟩ := State.requestFlash_frame s x; rw [h]
@[simp] theorem State.requestFlash_straps (s : State) (x : SideSet) : (s.requestFlash x).straps = s.straps := by
  obtain ⟨_, h⟩ := State.requestFlash_frame s x; rw [h]
@[simp] theorem State.requestFlash_cfg (s : State) (x : SideSet) : (s.requestFlash x).cfg = s.cfg := by
  obtain ⟨_, h⟩ := State.requestFlash_frame s x; rw [h]
@[simp] theorem State.requestFlash_ctl (s : State) (x : SideSet) : (s.requestFlash x).ctl = s.ctl := by
  obtain ⟨_, h⟩ := State.requestFlash_frame s x; rw [h]
@[simp] theorem State.requestFlash_peers (s : State) (x : SideSet) : (s.requestFlash x).peers = s.peers := by
  obtain ⟨_, h⟩ := State.requestFlash_frame s x; rw [h]
@[simp] theorem State.requestFlash_sw (s : State) (x : SideSet) : (s.requestFlash x).sw = s.sw := by
  obtain ⟨_, h⟩ := State.requestFlash_frame s x; rw [h]
@[simp] theorem State.requestFlash_res (s : State) (x : SideSet) : (s.requestFlash x).res = s.res := by
  obtain ⟨_, h⟩ := State.requestFlash_frame s x; rw [h]
@[simp] theorem State.requestFlash_meas (s : State) (x : SideSet) : (s.requestFlash x).meas = s.meas := by
  obtain ⟨_, h⟩ := State.requestFlash_frame s x; rw [h]
@[simp] theorem State.requestFlash_out (s : State) (x : SideSet) : (s.requestFlash x).out = s.out := by
  obtain ⟨_, h⟩ := State.requestFlash_frame s x; rw [h]
@[simp] theorem State.requestFlash_flash (s : State) (x : SideSet) : (s.requestFlash x).flash = s.flash := by
  obtain ⟨_, h⟩ := State.requestFlash_frame s x; rw [h]
@[simp] theorem State.requestFlash_supply (s : State) (x : SideSet) : (s.requestFlash x).supply = s.supply := by
  obtain ⟨_, h⟩ := State.requestFlash_frame s x; rw [h]
@[simp] theorem State.requestFlash_fan (s : State) (x : SideSet) : (s.requestFlash x).fan = s.fan := by
  obtain ⟨_, h⟩ := State.requestFlash_frame s x; rw [h]
@[simp] theorem State.requestFlash_gauges (s : State) (x : SideSet) : (s.requestFlash x).gauges = s.gauges := by
  obtain ⟨_, h⟩ := State.requestFlash_frame s x; rw [h]
@[simp] theorem State.requestFlash_svc (s : State) (x : SideSet) : (s.requestFlash x).svc = s.svc := by
  obtain ⟨_, h⟩ := State.requestFlash_frame s x; rw [h]
@[simp] theorem State.requestFlash_faults (s : State) (x : SideSet) : (s.requestFlash x).faults = s.faults := by
  obtain ⟨_, h⟩ := State.requestFlash_frame s x; rw [h]
@[simp] theorem State.requestFlash_free (s : State) (x : SideSet) : (s.requestFlash x).free = s.free := by
  obtain ⟨_, h⟩ := State.requestFlash_frame s x; rw [h]
@[simp] theorem State.requestFlash_pending (s : State) (x : SideSet) : (s.requestFlash x).pending = s.pending := by
  obtain ⟨_, h⟩ := State.requestFlash_frame s x; rw [h]

/-- What `State.enterFlashOn` may change. -/
theorem State.enterFlashOn_frame (s : State) (x : SideSet) (k : OnEntry) :
    ∃ meas' flash' line', s.enterFlashOn x k = { s with meas := meas', flash := flash', line := line' } := by
  have key (t : State) (h : ∃ m f, t = { s with meas := m, flash := f }) :
      ∃ m f l, t.requestFlash x = { s with meas := m, flash := f, line := l } := by
    obtain ⟨m, f, rfl⟩ := h
    obtain ⟨l, hl⟩ := State.requestFlash_frame { s with meas := m, flash := f } x
    exact ⟨m, f, l, hl⟩
  cases k
  · exact key _ ⟨_, _, rfl⟩
  · exact key _ ⟨_, _, rfl⟩
  · exact key _ ⟨_, _, rfl⟩
  · exact ⟨_, _, _, rfl⟩

@[simp] theorem State.enterFlashOn_pins (s : State) (x : SideSet) (k : OnEntry) : (s.enterFlashOn x k).pins = s.pins := by
  obtain ⟨_, _, _, h⟩ := State.enterFlashOn_frame s x k; rw [h]
@[simp] theorem State.enterFlashOn_uid (s : State) (x : SideSet) (k : OnEntry) : (s.enterFlashOn x k).uid = s.uid := by
  obtain ⟨_, _, _, h⟩ := State.enterFlashOn_frame s x k; rw [h]
@[simp] theorem State.enterFlashOn_store (s : State) (x : SideSet) (k : OnEntry) : (s.enterFlashOn x k).store = s.store := by
  obtain ⟨_, _, _, h⟩ := State.enterFlashOn_frame s x k; rw [h]
@[simp] theorem State.enterFlashOn_straps (s : State) (x : SideSet) (k : OnEntry) : (s.enterFlashOn x k).straps = s.straps := by
  obtain ⟨_, _, _, h⟩ := State.enterFlashOn_frame s x k; rw [h]
@[simp] theorem State.enterFlashOn_cfg (s : State) (x : SideSet) (k : OnEntry) : (s.enterFlashOn x k).cfg = s.cfg := by
  obtain ⟨_, _, _, h⟩ := State.enterFlashOn_frame s x k; rw [h]
@[simp] theorem State.enterFlashOn_ctl (s : State) (x : SideSet) (k : OnEntry) : (s.enterFlashOn x k).ctl = s.ctl := by
  obtain ⟨_, _, _, h⟩ := State.enterFlashOn_frame s x k; rw [h]
@[simp] theorem State.enterFlashOn_peers (s : State) (x : SideSet) (k : OnEntry) : (s.enterFlashOn x k).peers = s.peers := by
  obtain ⟨_, _, _, h⟩ := State.enterFlashOn_frame s x k; rw [h]
@[simp] theorem State.enterFlashOn_sw (s : State) (x : SideSet) (k : OnEntry) : (s.enterFlashOn x k).sw = s.sw := by
  obtain ⟨_, _, _, h⟩ := State.enterFlashOn_frame s x k; rw [h]
@[simp] theorem State.enterFlashOn_res (s : State) (x : SideSet) (k : OnEntry) : (s.enterFlashOn x k).res = s.res := by
  obtain ⟨_, _, _, h⟩ := State.enterFlashOn_frame s x k; rw [h]
@[simp] theorem State.enterFlashOn_out (s : State) (x : SideSet) (k : OnEntry) : (s.enterFlashOn x k).out = s.out := by
  obtain ⟨_, _, _, h⟩ := State.enterFlashOn_frame s x k; rw [h]
@[simp] theorem State.enterFlashOn_supply (s : State) (x : SideSet) (k : OnEntry) : (s.enterFlashOn x k).supply = s.supply := by
  obtain ⟨_, _, _, h⟩ := State.enterFlashOn_frame s x k; rw [h]
@[simp] theorem State.enterFlashOn_fan (s : State) (x : SideSet) (k : OnEntry) : (s.enterFlashOn x k).fan = s.fan := by
  obtain ⟨_, _, _, h⟩ := State.enterFlashOn_frame s x k; rw [h]
@[simp] theorem State.enterFlashOn_gauges (s : State) (x : SideSet) (k : OnEntry) : (s.enterFlashOn x k).gauges = s.gauges := by
  obtain ⟨_, _, _, h⟩ := State.enterFlashOn_frame s x k; rw [h]
@[simp] theorem State.enterFlashOn_svc (s : State) (x : SideSet) (k : OnEntry) : (s.enterFlashOn x k).svc = s.svc := by
  obtain ⟨_, _, _, h⟩ := State.enterFlashOn_frame s x k; rw [h]
@[simp] theorem State.enterFlashOn_faults (s : State) (x : SideSet) (k : OnEntry) : (s.enterFlashOn x k).faults = s.faults := by
  obtain ⟨_, _, _, h⟩ := State.enterFlashOn_frame s x k; rw [h]
@[simp] theorem State.enterFlashOn_free (s : State) (x : SideSet) (k : OnEntry) : (s.enterFlashOn x k).free = s.free := by
  obtain ⟨_, _, _, h⟩ := State.enterFlashOn_frame s x k; rw [h]
@[simp] theorem State.enterFlashOn_pending (s : State) (x : SideSet) (k : OnEntry) : (s.enterFlashOn x k).pending = s.pending := by
  obtain ⟨_, _, _, h⟩ := State.enterFlashOn_frame s x k; rw [h]

/-- What `State.stageFlasher` may change. -/
theorem State.stageFlasher_frame (s : State) :
    ∃ meas' flash' line', s.stageFlasher.1 = { s with meas := meas', flash := flash', line := line' } := by
  unfold State.stageFlasher
  dsimp only
  split
  · exact ⟨_, _, _, rfl⟩
  · split
    · exact ⟨_, _, _, rfl⟩
    · rename_i x _
      split
      · obtain ⟨m, f, l, h⟩ := State.enterFlashOn_frame
          (s.withFlash { s.flash with reportedLeft := false, reportedRight := false }) x .start
        exact ⟨m, f, l, h⟩
      · exact State.enterFlashOn_frame s x .change

@[simp] theorem State.stageFlasher_pins (s : State) : (s.stageFlasher.1).pins = s.pins := by
  obtain ⟨_, _, _, h⟩ := State.stageFlasher_frame s; rw [h]
@[simp] theorem State.stageFlasher_uid (s : State) : (s.stageFlasher.1).uid = s.uid := by
  obtain ⟨_, _, _, h⟩ := State.stageFlasher_frame s; rw [h]
@[simp] theorem State.stageFlasher_store (s : State) : (s.stageFlasher.1).store = s.store := by
  obtain ⟨_, _, _, h⟩ := State.stageFlasher_frame s; rw [h]
@[simp] theorem State.stageFlasher_straps (s : State) : (s.stageFlasher.1).straps = s.straps := by
  obtain ⟨_, _, _, h⟩ := State.stageFlasher_frame s; rw [h]
@[simp] theorem State.stageFlasher_cfg (s : State) : (s.stageFlasher.1).cfg = s.cfg := by
  obtain ⟨_, _, _, h⟩ := State.stageFlasher_frame s; rw [h]
@[simp] theorem State.stageFlasher_ctl (s : State) : (s.stageFlasher.1).ctl = s.ctl := by
  obtain ⟨_, _, _, h⟩ := State.stageFlasher_frame s; rw [h]
@[simp] theorem State.stageFlasher_peers (s : State) : (s.stageFlasher.1).peers = s.peers := by
  obtain ⟨_, _, _, h⟩ := State.stageFlasher_frame s; rw [h]
@[simp] theorem State.stageFlasher_sw (s : State) : (s.stageFlasher.1).sw = s.sw := by
  obtain ⟨_, _, _, h⟩ := State.stageFlasher_frame s; rw [h]
@[simp] theorem State.stageFlasher_res (s : State) : (s.stageFlasher.1).res = s.res := by
  obtain ⟨_, _, _, h⟩ := State.stageFlasher_frame s; rw [h]
@[simp] theorem State.stageFlasher_out (s : State) : (s.stageFlasher.1).out = s.out := by
  obtain ⟨_, _, _, h⟩ := State.stageFlasher_frame s; rw [h]
@[simp] theorem State.stageFlasher_supply (s : State) : (s.stageFlasher.1).supply = s.supply := by
  obtain ⟨_, _, _, h⟩ := State.stageFlasher_frame s; rw [h]
@[simp] theorem State.stageFlasher_fan (s : State) : (s.stageFlasher.1).fan = s.fan := by
  obtain ⟨_, _, _, h⟩ := State.stageFlasher_frame s; rw [h]
@[simp] theorem State.stageFlasher_gauges (s : State) : (s.stageFlasher.1).gauges = s.gauges := by
  obtain ⟨_, _, _, h⟩ := State.stageFlasher_frame s; rw [h]
@[simp] theorem State.stageFlasher_svc (s : State) : (s.stageFlasher.1).svc = s.svc := by
  obtain ⟨_, _, _, h⟩ := State.stageFlasher_frame s; rw [h]
@[simp] theorem State.stageFlasher_faults (s : State) : (s.stageFlasher.1).faults = s.faults := by
  obtain ⟨_, _, _, h⟩ := State.stageFlasher_frame s; rw [h]
@[simp] theorem State.stageFlasher_free (s : State) : (s.stageFlasher.1).free = s.free := by
  obtain ⟨_, _, _, h⟩ := State.stageFlasher_frame s; rw [h]
@[simp] theorem State.stageFlasher_pending (s : State) : (s.stageFlasher.1).pending = s.pending := by
  obtain ⟨_, _, _, h⟩ := State.stageFlasher_frame s; rw [h]

/-- What `State.stageFan` may change. -/
theorem State.stageFan_frame (s : State) :
    ∃ fan' out', s.stageFan = { s with fan := fan', out := out' } := by
  unfold State.stageFan
  split
  · exact ⟨_, _, rfl⟩
  · exact ⟨_, _, rfl⟩

@[simp] theorem State.stageFan_pins (s : State) : (s.stageFan).pins = s.pins := by
  obtain ⟨_, _, h⟩ := State.stageFan_frame s; rw [h]
@[simp] theorem State.stageFan_uid (s : State) : (s.stageFan).uid = s.uid := by
  obtain ⟨_, _, h⟩ := State.stageFan_frame s; rw [h]
@[simp] theorem State.stageFan_store (s : State) : (s.stageFan).store = s.store := by
  obtain ⟨_, _, h⟩ := State.stageFan_frame s; rw [h]
@[simp] theorem State.stageFan_straps (s : State) : (s.stageFan).straps = s.straps := by
  obtain ⟨_, _, h⟩ := State.stageFan_frame s; rw [h]
@[simp] theorem State.stageFan_cfg (s : State) : (s.stageFan).cfg = s.cfg := by
  obtain ⟨_, _, h⟩ := State.stageFan_frame s; rw [h]
@[simp] theorem State.stageFan_ctl (s : State) : (s.stageFan).ctl = s.ctl := by
  obtain ⟨_, _, h⟩ := State.stageFan_frame s; rw [h]
@[simp] theorem State.stageFan_line (s : State) : (s.stageFan).line = s.line := by
  obtain ⟨_, _, h⟩ := State.stageFan_frame s; rw [h]
@[simp] theorem State.stageFan_peers (s : State) : (s.stageFan).peers = s.peers := by
  obtain ⟨_, _, h⟩ := State.stageFan_frame s; rw [h]
@[simp] theorem State.stageFan_sw (s : State) : (s.stageFan).sw = s.sw := by
  obtain ⟨_, _, h⟩ := State.stageFan_frame s; rw [h]
@[simp] theorem State.stageFan_res (s : State) : (s.stageFan).res = s.res := by
  obtain ⟨_, _, h⟩ := State.stageFan_frame s; rw [h]
@[simp] theorem State.stageFan_meas (s : State) : (s.stageFan).meas = s.meas := by
  obtain ⟨_, _, h⟩ := State.stageFan_frame s; rw [h]
@[simp] theorem State.stageFan_flash (s : State) : (s.stageFan).flash = s.flash := by
  obtain ⟨_, _, h⟩ := State.stageFan_frame s; rw [h]
@[simp] theorem State.stageFan_supply (s : State) : (s.stageFan).supply = s.supply := by
  obtain ⟨_, _, h⟩ := State.stageFan_frame s; rw [h]
@[simp] theorem State.stageFan_gauges (s : State) : (s.stageFan).gauges = s.gauges := by
  obtain ⟨_, _, h⟩ := State.stageFan_frame s; rw [h]
@[simp] theorem State.stageFan_svc (s : State) : (s.stageFan).svc = s.svc := by
  obtain ⟨_, _, h⟩ := State.stageFan_frame s; rw [h]
@[simp] theorem State.stageFan_faults (s : State) : (s.stageFan).faults = s.faults := by
  obtain ⟨_, _, h⟩ := State.stageFan_frame s; rw [h]
@[simp] theorem State.stageFan_free (s : State) : (s.stageFan).free = s.free := by
  obtain ⟨_, _, h⟩ := State.stageFan_frame s; rw [h]
@[simp] theorem State.stageFan_pending (s : State) : (s.stageFan).pending = s.pending := by
  obtain ⟨_, _, h⟩ := State.stageFan_frame s; rw [h]

/-- What `State.stageLoads` may change. -/
theorem State.stageLoads_frame (s : State) (b : Bool) :
    ∃ res' meas' out' fan' supply', s.stageLoads b = { s with res := res', meas := meas', out := out', fan := fan', supply := supply' } := by
  obtain ⟨f, o, h⟩ := State.stageFan_frame (s.stageEffective.stageChannels b)
  exact ⟨_, _, _, _, _, by unfold State.stageLoads; rw [h]; rfl⟩

@[simp] theorem State.stageLoads_pins (s : State) (b : Bool) : (s.stageLoads b).pins = s.pins := by
  obtain ⟨_, _, _, _, _, h⟩ := State.stageLoads_frame s b; rw [h]
@[simp] theorem State.stageLoads_uid (s : State) (b : Bool) : (s.stageLoads b).uid = s.uid := by
  obtain ⟨_, _, _, _, _, h⟩ := State.stageLoads_frame s b; rw [h]
@[simp] theorem State.stageLoads_store (s : State) (b : Bool) : (s.stageLoads b).store = s.store := by
  obtain ⟨_, _, _, _, _, h⟩ := State.stageLoads_frame s b; rw [h]
@[simp] theorem State.stageLoads_straps (s : State) (b : Bool) : (s.stageLoads b).straps = s.straps := by
  obtain ⟨_, _, _, _, _, h⟩ := State.stageLoads_frame s b; rw [h]
@[simp] theorem State.stageLoads_cfg (s : State) (b : Bool) : (s.stageLoads b).cfg = s.cfg := by
  obtain ⟨_, _, _, _, _, h⟩ := State.stageLoads_frame s b; rw [h]
@[simp] theorem State.stageLoads_ctl (s : State) (b : Bool) : (s.stageLoads b).ctl = s.ctl := by
  obtain ⟨_, _, _, _, _, h⟩ := State.stageLoads_frame s b; rw [h]
@[simp] theorem State.stageLoads_line (s : State) (b : Bool) : (s.stageLoads b).line = s.line := by
  obtain ⟨_, _, _, _, _, h⟩ := State.stageLoads_frame s b; rw [h]
@[simp] theorem State.stageLoads_peers (s : State) (b : Bool) : (s.stageLoads b).peers = s.peers := by
  obtain ⟨_, _, _, _, _, h⟩ := State.stageLoads_frame s b; rw [h]
@[simp] theorem State.stageLoads_sw (s : State) (b : Bool) : (s.stageLoads b).sw = s.sw := by
  obtain ⟨_, _, _, _, _, h⟩ := State.stageLoads_frame s b; rw [h]
@[simp] theorem State.stageLoads_flash (s : State) (b : Bool) : (s.stageLoads b).flash = s.flash := by
  obtain ⟨_, _, _, _, _, h⟩ := State.stageLoads_frame s b; rw [h]
@[simp] theorem State.stageLoads_gauges (s : State) (b : Bool) : (s.stageLoads b).gauges = s.gauges := by
  obtain ⟨_, _, _, _, _, h⟩ := State.stageLoads_frame s b; rw [h]
@[simp] theorem State.stageLoads_svc (s : State) (b : Bool) : (s.stageLoads b).svc = s.svc := by
  obtain ⟨_, _, _, _, _, h⟩ := State.stageLoads_frame s b; rw [h]
@[simp] theorem State.stageLoads_faults (s : State) (b : Bool) : (s.stageLoads b).faults = s.faults := by
  obtain ⟨_, _, _, _, _, h⟩ := State.stageLoads_frame s b; rw [h]
@[simp] theorem State.stageLoads_free (s : State) (b : Bool) : (s.stageLoads b).free = s.free := by
  obtain ⟨_, _, _, _, _, h⟩ := State.stageLoads_frame s b; rw [h]
@[simp] theorem State.stageLoads_pending (s : State) (b : Bool) : (s.stageLoads b).pending = s.pending := by
  obtain ⟨_, _, _, _, _, h⟩ := State.stageLoads_frame s b; rw [h]

/-- What `State.reloadQuiet` may change. -/
theorem State.reloadQuiet_frame (s : State) :
    ∃ ctl', s.reloadQuiet = { s with ctl := ctl' } := by
  unfold State.reloadQuiet; split
  · exact ⟨_, rfl⟩
  · exact ⟨_, rfl⟩

@[simp] theorem State.reloadQuiet_pins (s : State) : (s.reloadQuiet).pins = s.pins := by
  obtain ⟨_, h⟩ := State.reloadQuiet_frame s; rw [h]
@[simp] theorem State.reloadQuiet_uid (s : State) : (s.reloadQuiet).uid = s.uid := by
  obtain ⟨_, h⟩ := State.reloadQuiet_frame s; rw [h]
@[simp] theorem State.reloadQuiet_store (s : State) : (s.reloadQuiet).store = s.store := by
  obtain ⟨_, h⟩ := State.reloadQuiet_frame s; rw [h]
@[simp] theorem State.reloadQuiet_straps (s : State) : (s.reloadQuiet).straps = s.straps := by
  obtain ⟨_, h⟩ := State.reloadQuiet_frame s; rw [h]
@[simp] theorem State.reloadQuiet_cfg (s : State) : (s.reloadQuiet).cfg = s.cfg := by
  obtain ⟨_, h⟩ := State.reloadQuiet_frame s; rw [h]
@[simp] theorem State.reloadQuiet_line (s : State) : (s.reloadQuiet).line = s.line := by
  obtain ⟨_, h⟩ := State.reloadQuiet_frame s; rw [h]
@[simp] theorem State.reloadQuiet_peers (s : State) : (s.reloadQuiet).peers = s.peers := by
  obtain ⟨_, h⟩ := State.reloadQuiet_frame s; rw [h]
@[simp] theorem State.reloadQuiet_sw (s : State) : (s.reloadQuiet).sw = s.sw := by
  obtain ⟨_, h⟩ := State.reloadQuiet_frame s; rw [h]
@[simp] theorem State.reloadQuiet_res (s : State) : (s.reloadQuiet).res = s.res := by
  obtain ⟨_, h⟩ := State.reloadQuiet_frame s; rw [h]
@[simp] theorem State.reloadQuiet_meas (s : State) : (s.reloadQuiet).meas = s.meas := by
  obtain ⟨_, h⟩ := State.reloadQuiet_frame s; rw [h]
@[simp] theorem State.reloadQuiet_out (s : State) : (s.reloadQuiet).out = s.out := by
  obtain ⟨_, h⟩ := State.reloadQuiet_frame s; rw [h]
@[simp] theorem State.reloadQuiet_flash (s : State) : (s.reloadQuiet).flash = s.flash := by
  obtain ⟨_, h⟩ := State.reloadQuiet_frame s; rw [h]
@[simp] theorem State.reloadQuiet_supply (s : State) : (s.reloadQuiet).supply = s.supply := by
  obtain ⟨_, h⟩ := State.reloadQuiet_frame s; rw [h]
@[simp] theorem State.reloadQuiet_fan (s : State) : (s.reloadQuiet).fan = s.fan := by
  obtain ⟨_, h⟩ := State.reloadQuiet_frame s; rw [h]
@[simp] theorem State.reloadQuiet_gauges (s : State) : (s.reloadQuiet).gauges = s.gauges := by
  obtain ⟨_, h⟩ := State.reloadQuiet_frame s; rw [h]
@[simp] theorem State.reloadQuiet_svc (s : State) : (s.reloadQuiet).svc = s.svc := by
  obtain ⟨_, h⟩ := State.reloadQuiet_frame s; rw [h]
@[simp] theorem State.reloadQuiet_faults (s : State) : (s.reloadQuiet).faults = s.faults := by
  obtain ⟨_, h⟩ := State.reloadQuiet_frame s; rw [h]
@[simp] theorem State.reloadQuiet_free (s : State) : (s.reloadQuiet).free = s.free := by
  obtain ⟨_, h⟩ := State.reloadQuiet_frame s; rw [h]
@[simp] theorem State.reloadQuiet_pending (s : State) : (s.reloadQuiet).pending = s.pending := by
  obtain ⟨_, h⟩ := State.reloadQuiet_frame s; rw [h]

/-- What `State.stageControl` may change. -/
theorem State.stageControl_frame (s : State) (e : EffectiveSet) :
    ∃ ctl' line', s.stageControl e = { s with ctl := ctl', line := line' } := by
  unfold State.stageControl
  split
  · exact ⟨_, _, rfl⟩
  · exact ⟨_, _, rfl⟩
  · split
    · exact ⟨_, _, rfl⟩
    · obtain ⟨c, h⟩ := State.reloadQuiet_frame s
      exact ⟨c, s.line, h⟩

@[simp] theorem State.stageControl_pins (s : State) (e : EffectiveSet) : (s.stageControl e).pins = s.pins := by
  obtain ⟨_, _, h⟩ := State.stageControl_frame s e; rw [h]
@[simp] theorem State.stageControl_uid (s : State) (e : EffectiveSet) : (s.stageControl e).uid = s.uid := by
  obtain ⟨_, _, h⟩ := State.stageControl_frame s e; rw [h]
@[simp] theorem State.stageControl_store (s : State) (e : EffectiveSet) : (s.stageControl e).store = s.store := by
  obtain ⟨_, _, h⟩ := State.stageControl_frame s e; rw [h]
@[simp] theorem State.stageControl_straps (s : State) (e : EffectiveSet) : (s.stageControl e).straps = s.straps := by
  obtain ⟨_, _, h⟩ := State.stageControl_frame s e; rw [h]
@[simp] theorem State.stageControl_cfg (s : State) (e : EffectiveSet) : (s.stageControl e).cfg = s.cfg := by
  obtain ⟨_, _, h⟩ := State.stageControl_frame s e; rw [h]
@[simp] theorem State.stageControl_peers (s : State) (e : EffectiveSet) : (s.stageControl e).peers = s.peers := by
  obtain ⟨_, _, h⟩ := State.stageControl_frame s e; rw [h]
@[simp] theorem State.stageControl_sw (s : State) (e : EffectiveSet) : (s.stageControl e).sw = s.sw := by
  obtain ⟨_, _, h⟩ := State.stageControl_frame s e; rw [h]
@[simp] theorem State.stageControl_res (s : State) (e : EffectiveSet) : (s.stageControl e).res = s.res := by
  obtain ⟨_, _, h⟩ := State.stageControl_frame s e; rw [h]
@[simp] theorem State.stageControl_meas (s : State) (e : EffectiveSet) : (s.stageControl e).meas = s.meas := by
  obtain ⟨_, _, h⟩ := State.stageControl_frame s e; rw [h]
@[simp] theorem State.stageControl_out (s : State) (e : EffectiveSet) : (s.stageControl e).out = s.out := by
  obtain ⟨_, _, h⟩ := State.stageControl_frame s e; rw [h]
@[simp] theorem State.stageControl_flash (s : State) (e : EffectiveSet) : (s.stageControl e).flash = s.flash := by
  obtain ⟨_, _, h⟩ := State.stageControl_frame s e; rw [h]
@[simp] theorem State.stageControl_supply (s : State) (e : EffectiveSet) : (s.stageControl e).supply = s.supply := by
  obtain ⟨_, _, h⟩ := State.stageControl_frame s e; rw [h]
@[simp] theorem State.stageControl_fan (s : State) (e : EffectiveSet) : (s.stageControl e).fan = s.fan := by
  obtain ⟨_, _, h⟩ := State.stageControl_frame s e; rw [h]
@[simp] theorem State.stageControl_gauges (s : State) (e : EffectiveSet) : (s.stageControl e).gauges = s.gauges := by
  obtain ⟨_, _, h⟩ := State.stageControl_frame s e; rw [h]
@[simp] theorem State.stageControl_svc (s : State) (e : EffectiveSet) : (s.stageControl e).svc = s.svc := by
  obtain ⟨_, _, h⟩ := State.stageControl_frame s e; rw [h]
@[simp] theorem State.stageControl_faults (s : State) (e : EffectiveSet) : (s.stageControl e).faults = s.faults := by
  obtain ⟨_, _, h⟩ := State.stageControl_frame s e; rw [h]
@[simp] theorem State.stageControl_free (s : State) (e : EffectiveSet) : (s.stageControl e).free = s.free := by
  obtain ⟨_, _, h⟩ := State.stageControl_frame s e; rw [h]
@[simp] theorem State.stageControl_pending (s : State) (e : EffectiveSet) : (s.stageControl e).pending = s.pending := by
  obtain ⟨_, _, h⟩ := State.stageControl_frame s e; rw [h]

/-- What `State.stageStatus` may change. -/
theorem State.stageStatus_frame (s : State) (b : State) :
    ∃ line', s.stageStatus b = { s with line := line' } := by
  unfold State.stageStatus
  split
  · exact State.requestStatus_frame s
  · exact ⟨_, rfl⟩

@[simp] theorem State.stageStatus_pins (s : State) (b : State) : (s.stageStatus b).pins = s.pins := by
  obtain ⟨_, h⟩ := State.stageStatus_frame s b; rw [h]
@[simp] theorem State.stageStatus_uid (s : State) (b : State) : (s.stageStatus b).uid = s.uid := by
  obtain ⟨_, h⟩ := State.stageStatus_frame s b; rw [h]
@[simp] theorem State.stageStatus_store (s : State) (b : State) : (s.stageStatus b).store = s.store := by
  obtain ⟨_, h⟩ := State.stageStatus_frame s b; rw [h]
@[simp] theorem State.stageStatus_straps (s : State) (b : State) : (s.stageStatus b).straps = s.straps := by
  obtain ⟨_, h⟩ := State.stageStatus_frame s b; rw [h]
@[simp] theorem State.stageStatus_cfg (s : State) (b : State) : (s.stageStatus b).cfg = s.cfg := by
  obtain ⟨_, h⟩ := State.stageStatus_frame s b; rw [h]
@[simp] theorem State.stageStatus_ctl (s : State) (b : State) : (s.stageStatus b).ctl = s.ctl := by
  obtain ⟨_, h⟩ := State.stageStatus_frame s b; rw [h]
@[simp] theorem State.stageStatus_peers (s : State) (b : State) : (s.stageStatus b).peers = s.peers := by
  obtain ⟨_, h⟩ := State.stageStatus_frame s b; rw [h]
@[simp] theorem State.stageStatus_sw (s : State) (b : State) : (s.stageStatus b).sw = s.sw := by
  obtain ⟨_, h⟩ := State.stageStatus_frame s b; rw [h]
@[simp] theorem State.stageStatus_res (s : State) (b : State) : (s.stageStatus b).res = s.res := by
  obtain ⟨_, h⟩ := State.stageStatus_frame s b; rw [h]
@[simp] theorem State.stageStatus_meas (s : State) (b : State) : (s.stageStatus b).meas = s.meas := by
  obtain ⟨_, h⟩ := State.stageStatus_frame s b; rw [h]
@[simp] theorem State.stageStatus_out (s : State) (b : State) : (s.stageStatus b).out = s.out := by
  obtain ⟨_, h⟩ := State.stageStatus_frame s b; rw [h]
@[simp] theorem State.stageStatus_flash (s : State) (b : State) : (s.stageStatus b).flash = s.flash := by
  obtain ⟨_, h⟩ := State.stageStatus_frame s b; rw [h]
@[simp] theorem State.stageStatus_supply (s : State) (b : State) : (s.stageStatus b).supply = s.supply := by
  obtain ⟨_, h⟩ := State.stageStatus_frame s b; rw [h]
@[simp] theorem State.stageStatus_fan (s : State) (b : State) : (s.stageStatus b).fan = s.fan := by
  obtain ⟨_, h⟩ := State.stageStatus_frame s b; rw [h]
@[simp] theorem State.stageStatus_gauges (s : State) (b : State) : (s.stageStatus b).gauges = s.gauges := by
  obtain ⟨_, h⟩ := State.stageStatus_frame s b; rw [h]
@[simp] theorem State.stageStatus_svc (s : State) (b : State) : (s.stageStatus b).svc = s.svc := by
  obtain ⟨_, h⟩ := State.stageStatus_frame s b; rw [h]
@[simp] theorem State.stageStatus_faults (s : State) (b : State) : (s.stageStatus b).faults = s.faults := by
  obtain ⟨_, h⟩ := State.stageStatus_frame s b; rw [h]
@[simp] theorem State.stageStatus_free (s : State) (b : State) : (s.stageStatus b).free = s.free := by
  obtain ⟨_, h⟩ := State.stageStatus_frame s b; rw [h]
@[simp] theorem State.stageStatus_pending (s : State) (b : State) : (s.stageStatus b).pending = s.pending := by
  obtain ⟨_, h⟩ := State.stageStatus_frame s b; rw [h]

/-- What `State.settle` may change. -/
theorem State.settle_frame (s : State) (b : State) (x : Bool) :
    ∃ res' supply' meas' flash' line' out' fan' ctl', s.settle b x = { s with res := res', supply := supply', meas := meas', flash := flash', line := line', out := out', fan := fan', ctl := ctl' } := by
  obtain ⟨u, h0⟩ := State.stageSupply_frame s.stageUnion s.res.ign
  unfold State.settle
  dsimp only
  rw [h0]
  obtain ⟨m, f, l, h1⟩ := State.stageFlasher_frame { s.stageUnion with supply := u }
  rw [h1]
  generalize { s.stageUnion with supply := u }.stageFlasher.2 = y
  obtain ⟨r, m', o, g, u', h2⟩ := State.stageLoads_frame
    { s.stageUnion with supply := u, meas := m, flash := f, line := l } (x || y)
  rw [h2]
  obtain ⟨c, l', h3⟩ := State.stageControl_frame
    { s.stageUnion with
      res := r, supply := u', meas := m', flash := f, line := l, out := o, fan := g } b.res.eff
  rw [h3]
  obtain ⟨l'', h4⟩ := State.stageStatus_frame
    { s.stageUnion with
      res := r, supply := u', meas := m', flash := f, line := l', out := o, fan := g, ctl := c } b
  exact ⟨r, u', m', f, l'', o, g, c, h4⟩

@[simp] theorem State.settle_pins (s : State) (b : State) (x : Bool) : (s.settle b x).pins = s.pins := by
  obtain ⟨_, _, _, _, _, _, _, _, h⟩ := State.settle_frame s b x; rw [h]
@[simp] theorem State.settle_uid (s : State) (b : State) (x : Bool) : (s.settle b x).uid = s.uid := by
  obtain ⟨_, _, _, _, _, _, _, _, h⟩ := State.settle_frame s b x; rw [h]
@[simp] theorem State.settle_store (s : State) (b : State) (x : Bool) : (s.settle b x).store = s.store := by
  obtain ⟨_, _, _, _, _, _, _, _, h⟩ := State.settle_frame s b x; rw [h]
@[simp] theorem State.settle_straps (s : State) (b : State) (x : Bool) : (s.settle b x).straps = s.straps := by
  obtain ⟨_, _, _, _, _, _, _, _, h⟩ := State.settle_frame s b x; rw [h]
@[simp] theorem State.settle_cfg (s : State) (b : State) (x : Bool) : (s.settle b x).cfg = s.cfg := by
  obtain ⟨_, _, _, _, _, _, _, _, h⟩ := State.settle_frame s b x; rw [h]
@[simp] theorem State.settle_peers (s : State) (b : State) (x : Bool) : (s.settle b x).peers = s.peers := by
  obtain ⟨_, _, _, _, _, _, _, _, h⟩ := State.settle_frame s b x; rw [h]
@[simp] theorem State.settle_sw (s : State) (b : State) (x : Bool) : (s.settle b x).sw = s.sw := by
  obtain ⟨_, _, _, _, _, _, _, _, h⟩ := State.settle_frame s b x; rw [h]
@[simp] theorem State.settle_gauges (s : State) (b : State) (x : Bool) : (s.settle b x).gauges = s.gauges := by
  obtain ⟨_, _, _, _, _, _, _, _, h⟩ := State.settle_frame s b x; rw [h]
@[simp] theorem State.settle_svc (s : State) (b : State) (x : Bool) : (s.settle b x).svc = s.svc := by
  obtain ⟨_, _, _, _, _, _, _, _, h⟩ := State.settle_frame s b x; rw [h]
@[simp] theorem State.settle_faults (s : State) (b : State) (x : Bool) : (s.settle b x).faults = s.faults := by
  obtain ⟨_, _, _, _, _, _, _, _, h⟩ := State.settle_frame s b x; rw [h]
@[simp] theorem State.settle_free (s : State) (b : State) (x : Bool) : (s.settle b x).free = s.free := by
  obtain ⟨_, _, _, _, _, _, _, _, h⟩ := State.settle_frame s b x; rw [h]
@[simp] theorem State.settle_pending (s : State) (b : State) (x : Bool) : (s.settle b x).pending = s.pending := by
  obtain ⟨_, _, _, _, _, _, _, _, h⟩ := State.settle_frame s b x; rw [h]

end Sys2Proof.Machine
end

