-- ==== Sys2Proof/Laws/Ops.lean ====
section
/-! SUPPORT. One lemma for each shared operation that says once what it can do. -/

namespace Sys2Proof.Machine

/-! ## Numbers -/

theorem clampNat_within {lo hi : Nat} (h : lo ≤ hi) (n : Nat) : lo ≤ clampNat lo hi n ∧ clampNat lo hi n ≤ hi := by
  unfold clampNat; split <;> (try split) <;> omega

theorem clampNat_of_within {lo hi n : Nat} (h : lo ≤ n) (k : n ≤ hi) : clampNat lo hi n = n := by
  unfold clampNat; rw [if_neg (by omega), if_neg (by omega)]

theorem clampInt_within {lo hi : Int} (h : lo ≤ hi) (x : Int) : lo ≤ clampInt lo hi x ∧ clampInt lo hi x ≤ hi := by
  unfold clampInt; split <;> (try split) <;> omega

theorem clampInt_of_within {lo hi x : Int} (h : lo ≤ x) (k : x ≤ hi) : clampInt lo hi x = x := by
  unfold clampInt; rw [if_neg (by omega), if_neg (by omega)]

theorem satInc_le (top n : Nat) : satInc top n ≤ top := by unfold satInc; omega

theorem satInc_of_lt {top n : Nat} (h : n < top) : satInc top n = n + 1 := by unfold satInc; omega

/-! ## The step -/

/-- A step with a command in front runs it over the queue's rest; with nothing waiting it idles. -/
theorem step_cases (s : State) :
    (s.pending = [] ∧ step s = .next s) ∨ ∃ c rest, s.pending = c :: rest ∧ step s = exec c (s.withPending rest) := by
  unfold step
  split
  · rename_i h; exact .inl ⟨h, rfl⟩
  · rename_i c rest h; exact .inr ⟨c, rest, h, rfl⟩

/-! ## The line -/

/-- When a frame may begin (R3, R7). -/
theorem State.atIdle_iff (s : State) :
    s.atIdle = true ↔ s.up = true ∧ s.line.view = .idle ∧ s.line.inFlight = none := by
  simp [State.atIdle, and_assoc]

/-- Taking the line leaves the state, or puts the chosen entry in flight on an idle line. -/
theorem State.takeLine_cases (s : State) :
    s.takeLine = s ∨
      ∃ kind e, s.up = true ∧ s.line.view = .idle ∧ s.line.inFlight = none ∧
        s.line.choose s.strapInvalid = some (kind, e) ∧ s.takeLine = s.withLine (s.line.offer kind e) := by
  unfold State.takeLine
  split
  · rename_i h
    obtain ⟨up, idle, free⟩ := (State.atIdle_iff s).mp h
    split
    · rename_i c hc; exact .inr ⟨c.1, c.2, up, idle, free, hc, rfl⟩
    · exact .inl rfl
  · exact .inl rfl

/-- Another station's start bit is joined as the line is taken, or on an idle line with nothing eligible its frame is
received (R7). -/
theorem execJoinStartBit_cases (s : State) :
    (s.atIdle = true ∧ s.line.choose s.strapInvalid = none ∧ execJoinStartBit s = .next (s.setView .receiving)) ∨
      (¬(s.atIdle = true ∧ s.line.choose s.strapInvalid = none) ∧ execJoinStartBit s = .next s.takeLine) := by
  unfold execJoinStartBit
  split
  · rename_i h; exact .inl ⟨h.1, h.2, rfl⟩
  · rename_i h; exact .inr ⟨h, rfl⟩

theorem State.orderRestart_frame (s : State) :
    ∃ store' svc', s.orderRestart = { s with store := store', svc := svc' } := ⟨_, _, rfl⟩

/-- The order of a restart stands when a REPLY that carries one has left the queue, and the state is as it was
otherwise. -/
theorem State.orderIfLeft_cases (before : Queue) (s : State) :
    (s.line.queue.restartCount < before.restartCount ∧ s.orderIfLeft before = s.orderRestart) ∨
      (¬ s.line.queue.restartCount < before.restartCount ∧ s.orderIfLeft before = s) := by
  unfold State.orderIfLeft
  split
  · rename_i h; exact .inl ⟨h, rfl⟩
  · rename_i h; exact .inr ⟨h, rfl⟩

theorem State.enterIsolated_frame (s : State) :
    ∃ line' faults', s.enterIsolated = { s with line := line', faults := faults' } := ⟨_, _, rfl⟩

theorem State.findDuplicate_frame (s : State) :
    ∃ line' faults', s.findDuplicate = { s with line := line', faults := faults' } := by
  unfold State.findDuplicate
  split
  · exact ⟨_, _, rfl⟩
  · exact ⟨_, _, rfl⟩

/-- A failed attempt changes the line, and the store, the Service Responder or the Fault List at most. -/
theorem State.attemptFailed_frame (s : State) (f : InFlight) :
    ∃ store' line' svc' faults',
      s.attemptFailed f = { s with store := store', line := line', svc := svc', faults := faults' } := by
  unfold State.attemptFailed
  dsimp only
  split
  · exact ⟨_, _, _, _, rfl⟩
  · split
    · rcases State.orderIfLeft_cases s.line.queue (s.withLine (s.line.failAttempt f)) with ⟨-, h⟩ | ⟨-, h⟩
      · rw [h]; exact ⟨_, _, _, _, rfl⟩
      · rw [h]; exact ⟨_, _, _, _, rfl⟩
    · rcases State.orderIfLeft_cases s.line.queue (s.withLine (s.line.failAttempt f)) with ⟨-, h⟩ | ⟨-, h⟩
      · rw [h]; exact ⟨_, _, _, _, rfl⟩
      · rw [h]; exact ⟨_, _, _, _, rfl⟩

/-! ## Received frames -/

/-- A frame's end: not received, objected to, or handed on after the duplicate check. -/
theorem State.receive_cases (s : State) (sender : Fin 16) (format : Bool) (hand : State → State) :
    (s.receives = false ∧ s.receive sender format hand = s) ∨
      (s.receives = true ∧ format = false ∧ s.receive sender format hand = (s.setView .busy).raiseObjection) ∨
      (s.receives = true ∧ format = true ∧
        s.receive sender format hand = hand ((s.setView .busy).duplicateCheck sender)) := by
  unfold State.receive
  split
  · rename_i h
    split
    · rename_i k; exact .inr (.inr ⟨h, k, rfl⟩)
    · rename_i k; exact .inr (.inl ⟨h, by simpa using k, rfl⟩)
  · rename_i h; exact .inl ⟨by simpa using h, rfl⟩

/-- A SERVICE frame's end: not received, objected to, heard and not taken, or served. -/
theorem State.service_cases (s : State) (target : Fin 16) (broadcast : Bool) (args : List Byte)
    (serve : State → State) :
    (s.receives = false ∧ s.service target broadcast args serve = s) ∨
      (s.receives = true ∧ serviceArgsOk args = false ∧
        s.service target broadcast args serve = (s.setView .busy).raiseObjection) ∨
      (s.receives = true ∧ serviceArgsOk args = true ∧
        ((s.setView .busy).heard target).takes target broadcast = false ∧
        s.service target broadcast args serve = (s.setView .busy).heard target) ∨
      (s.receives = true ∧ serviceArgsOk args = true ∧
        ((s.setView .busy).heard target).takes target broadcast = true ∧
        s.service target broadcast args serve = serve ((s.setView .busy).heard target)) := by
  unfold State.service
  split
  · rename_i h
    split
    · rename_i k
      dsimp only
      split
      · rename_i m; exact .inr (.inr (.inr ⟨h, k, m, rfl⟩))
      · rename_i m; exact .inr (.inr (.inl ⟨h, k, by simpa using m, rfl⟩))
    · rename_i k; exact .inr (.inl ⟨h, by simpa using k, rfl⟩)
  · rename_i h; exact .inl ⟨by simpa using h, rfl⟩

/-- A command that needs a REPLY slot is ignored when both are taken. -/
theorem State.withSlot_cases (s : State) (serve : State → State) :
    (s.line.replyFull = true ∧ s.withSlot serve = s.ignore) ∨
      (s.line.replyFull = false ∧ s.withSlot serve = serve s) := by
  unfold State.withSlot
  split
  · rename_i h; exact .inl ⟨h, rfl⟩
  · rename_i h; exact .inr ⟨by simpa using h, rfl⟩

/-! ## The Fault List and persistence timers -/

/-- The Fault List after an entry is made: a repeat counted, an entry appended, an acknowledged one displaced, or the
overflow flag set (R192). -/
theorem FaultList.add_cases (l : FaultList) (kind : FaultKind) (index : Option Nat) (clock : Nat) :
    (l.entries.any (·.same kind index) = true ∧ (l.add kind index clock).overflow = l.overflow ∧
        (l.add kind index clock).entries.length = l.entries.length) ∨
      (l.entries.any (·.same kind index) = false ∧ l.entries.length < 8 ∧
        l.add kind index clock = { l with entries := l.entries ++ [⟨kind, index, clock, 1, false⟩] }) ∨
      (l.entries.any (·.same kind index) = false ∧ 8 ≤ l.entries.length ∧ l.entries.any (·.acked) = true ∧
        l.add kind index clock =
          { l with entries := dropFirstAcked l.entries ++ [⟨kind, index, clock, 1, false⟩] }) ∨
      (l.entries.any (·.same kind index) = false ∧ 8 ≤ l.entries.length ∧ l.entries.any (·.acked) = false ∧
        l.add kind index clock = { l with overflow := true }) := by
  unfold FaultList.add
  dsimp only
  split
  · rename_i h; exact .inl ⟨h, rfl, by simp⟩
  · rename_i h
    split
    · rename_i k; exact .inr (.inl ⟨by simpa using h, k, rfl⟩)
    · rename_i k
      split
      · rename_i m; exact .inr (.inr (.inl ⟨by simpa using h, by omega, m, rfl⟩))
      · rename_i m; exact .inr (.inr (.inr ⟨by simpa using h, by omega, by simpa using m, rfl⟩))

theorem PTimer.judge_true (t : PTimer) : t.judge true = if t = .stopped then .running else t := rfl

theorem PTimer.judge_false (t : PTimer) : t.judge false = .stopped := rfl

theorem persIndex_injective {a b : PersTimer} (h : persIndex a = persIndex b) : a = b := by
  cases a <;> cases b <;> first | rfl | (simp [persIndex] at h)

theorem Supply.timer_setTimer (u : Supply) (a b : PersTimer) (x : PTimer) :
    (u.setTimer a x).timer b = if a = b then x else u.timer b := by
  unfold Supply.timer Supply.setTimer
  by_cases h : a = b
  · subst h; simp
  · have hne : (persIndex a).val ≠ (persIndex b).val := fun k => h (persIndex_injective (Fin.ext k))
    simp [h, hne]

end Sys2Proof.Machine
end

