-- ==== Sys2Proof/Laws/HandedOn.lean ====
section
/-! SUPPORT. The hand-ons leave what `HandedOn` says they leave. -/

namespace Sys2Proof.Machine

set_option Elab.async false

theorem CtlKept.refl (c : Control) : CtlKept c c := ⟨rfl, rfl, rfl, rfl, rfl, rfl⟩

theorem CtlKept.trans {a b c : Control} (h : CtlKept a b) (k : CtlKept b c) : CtlKept a c :=
  ⟨k.powered.trans h.powered, k.join.trans h.join, k.wake.trans h.wake, k.cause.trans h.cause,
    k.inputIndex.trans h.inputIndex, k.clock.trans h.clock⟩

theorem LineKept.refl (l : Line) : LineKept l l := ⟨rfl, rfl, rfl, rfl, rfl, rfl, rfl, rfl, rfl, rfl⟩

theorem LineKept.trans {a b c : Line} (h : LineKept a b) (k : LineKept b c) : LineKept a c :=
  ⟨k.view.trans h.view, k.sub.trans h.sub, k.isoWait.trans h.isoWait, k.probing.trans h.probing, k.run.trans h.run,
    k.spacing.trans h.spacing, k.announce.trans h.announce, k.reply.trans h.reply, k.flying.trans h.flying,
    by rw [k.counters, h.counters]⟩

theorem MeasKept.refl (m : Measurement) : MeasKept m m :=
  ⟨rfl, rfl, rfl, rfl, rfl, rfl, rfl, rfl, fun _ => rfl, fun _ => rfl, fun _ => rfl, fun _ => rfl, fun _ => rfl⟩

theorem MeasKept.trans {a b c : Measurement} (h : MeasKept a b) (k : MeasKept b c) : MeasKept a c :=
  ⟨k.passTimer.trans h.passTimer, k.slot.trans h.slot, k.supply.trans h.supply, k.die.trans h.die,
    k.battery.trans h.battery, k.senders.trans h.senders, k.minLatest.trans h.minLatest, k.minAvg.trans h.minAvg,
    fun i => (k.latest i).trans (h.latest i), fun i => (k.marked i).trans (h.marked i),
    fun i => (k.avg i).trans (h.avg i), fun i => (k.valid i).trans (h.valid i),
    fun i => (k.overRange i).trans (h.overRange i)⟩

theorem ChannelKept.refl (c : Channel) : ChannelKept c c := ⟨rfl, rfl, rfl⟩

theorem ChannelKept.trans {a b c : Channel} (h : ChannelKept a b) (k : ChannelKept b c) : ChannelKept a c :=
  ⟨k.openFlag.trans h.openFlag, k.testTimer.trans h.testTimer, k.testResult.trans h.testResult⟩

/-! ## The line -/

theorem Line.markReplaced_kept (l : Line) (kind : FrameKind) (age : Nat) : LineKept l (l.markReplaced kind age) := by
  refine ⟨rfl, rfl, rfl, rfl, rfl, rfl, rfl, rfl, ?_, rfl⟩
  unfold Line.markReplaced
  cases l.inFlight with
  | none => rfl
  | some f =>
    simp only [Option.map_some]
    split <;> rfl

theorem Line.putStatus_kept (l : Line) (content : List Byte) : LineKept l (l.putStatus content) := by
  unfold Line.putStatus
  split
  · exact ⟨rfl, rfl, rfl, rfl, rfl, rfl, rfl, rfl, rfl, rfl⟩
  · rename_i e _
    exact LineKept.trans (b := { l with queue := { l.queue with status := some { e with content := content } } })
      ⟨rfl, rfl, rfl, rfl, rfl, rfl, rfl, rfl, rfl, rfl⟩ (Line.markReplaced_kept _ _ _)

theorem Line.putFlash_kept (l : Line) (content : List Byte) : LineKept l (l.putFlash content) := by
  unfold Line.putFlash
  split
  · rename_i e _
    exact LineKept.trans
      (b := { l with queue := { l.queue with
        flash := l.queue.flash.map fun (x : Entry) => if x.age = e.age then { x with content := content } else x } })
      ⟨rfl, rfl, rfl, rfl, rfl, rfl, rfl, rfl, rfl, rfl⟩ (Line.markReplaced_kept _ _ _)
  · dsimp only
    split
    · exact ⟨rfl, rfl, rfl, rfl, rfl, rfl, rfl, rfl, rfl, rfl⟩
    · exact ⟨rfl, rfl, rfl, rfl, rfl, rfl, rfl, rfl, rfl, rfl⟩

theorem State.requestStatus_line (s : State) : LineKept s.line s.requestStatus.line := by
  unfold State.requestStatus
  split
  · exact LineKept.refl _
  · exact Line.putStatus_kept _ _

theorem State.requestFlash_line (s : State) (x : SideSet) : LineKept s.line (s.requestFlash x).line := by
  unfold State.requestFlash
  split
  · exact Line.putFlash_kept _ _
  · exact LineKept.refl _

/-! ## The Flasher -/

theorem State.armMarks_meas (s : State) (x : SideSet) : MeasKept s.meas (s.armMarks x).meas := by
  refine ⟨rfl, rfl, rfl, rfl, rfl, rfl, rfl, rfl, ?_, ?_, ?_, ?_, ?_⟩ <;> intro i <;> simp [State.armMarks]

theorem State.clearMarks_meas (s : State) : MeasKept s.meas s.clearMarks.meas := by
  refine ⟨rfl, rfl, rfl, rfl, rfl, rfl, rfl, rfl, ?_, ?_, ?_, ?_, ?_⟩ <;> intro i <;> simp [State.clearMarks]

theorem State.enterFlashOn_kept (s : State) (x : SideSet) (k : OnEntry) :
    LineKept s.line (s.enterFlashOn x k).line ∧ MeasKept s.meas (s.enterFlashOn x k).meas := by
  have key : ∀ t : State, t.line = s.line → MeasKept s.meas t.meas →
      LineKept s.line (t.requestFlash x).line ∧ MeasKept s.meas (t.requestFlash x).meas := by
    intro t h m
    refine ⟨h ▸ State.requestFlash_line t x, ?_⟩
    obtain ⟨_, e⟩ := State.requestFlash_frame t x
    rw [e]; exact m
  cases k with
  | start => exact key _ rfl (State.armMarks_meas s x)
  | expiry => exact key _ rfl (State.armMarks_meas s x)
  | change => exact key _ rfl (State.armMarks_meas s x)
  | align f => exact ⟨LineKept.refl _, State.armMarks_meas s x⟩

theorem State.stageFlasher_kept (s : State) :
    LineKept s.line s.stageFlasher.1.line ∧ MeasKept s.meas s.stageFlasher.1.meas := by
  unfold State.stageFlasher
  dsimp only
  split
  · exact ⟨LineKept.refl _, MeasKept.refl _⟩
  · split
    · exact ⟨LineKept.refl _, State.clearMarks_meas s⟩
    · rename_i x _
      split
      · exact State.enterFlashOn_kept
          (s.withFlash { s.flash with reportedLeft := false, reportedRight := false }) x .start
      · exact State.enterFlashOn_kept s x .change

/-! ## Channels, fan and supply -/

theorem Channel.goTo_kept (c : Channel) (st : ChannelState) : ChannelKept c (c.goTo st) := ⟨rfl, rfl, rfl⟩

theorem Channel.energize_kept (c : Channel) (e : ChannelEntry) : ChannelKept c (c.energize e) := by
  unfold Channel.energize
  split <;> exact ⟨rfl, rfl, rfl⟩

theorem Channel.release_kept (c : Channel) (e : ChannelEntry) : ChannelKept c (c.release e).1 := by
  unfold Channel.release
  split
  · exact Channel.energize_kept _ _
  · exact Channel.energize_kept _ _
  · exact Channel.goTo_kept _ _
  · exact Channel.goTo_kept _ _

theorem Channel.lightOn_kept (c : Channel) (e : ChannelEntry) (before : Command) (fresh : Bool) :
    ChannelKept c (c.lightOn e before fresh).1 := by
  unfold Channel.lightOn
  split
  · exact ChannelKept.refl _
  · split
    · exact Channel.energize_kept _ _
    · exact ChannelKept.refl _
  · exact Channel.goTo_kept _ _
  · exact Channel.goTo_kept _ _

theorem Channel.take_kept (c : Channel) (cmd : Command) : ChannelKept c (c.take cmd) := ⟨rfl, rfl, rfl⟩

theorem Channel.follow_kept (c : Channel) (e : ChannelEntry) (order : Order) (hold fresh : Bool) (cmd : Command) :
    ChannelKept c (c.follow e order hold fresh cmd).1 := by
  have h := Channel.take_kept c cmd
  have go : ∀ st, ChannelKept c ((c.take cmd).goTo st) := fun st => h.trans (Channel.goTo_kept _ st)
  have re : ChannelKept c ((c.take cmd).release e).1 := h.trans (Channel.release_kept _ e)
  have li : ∀ b, ChannelKept c ((c.take cmd).lightOn e b fresh).1 := fun b => h.trans (Channel.lightOn_kept _ e b fresh)
  unfold Channel.follow
  dsimp only
  repeat' split
  all_goals first | exact h | exact go _ | exact re | exact li _

theorem State.followChannel_kept (s : State) (fresh : Bool) (i : Fin 8) :
    ChannelKept s.out.channels[i] (s.followChannel fresh i).1 := by
  unfold State.followChannel
  dsimp only
  split
  · exact ChannelKept.refl _
  · split
    · exact Channel.follow_kept _ _ _ _ _ _
    · exact Channel.take_kept _ _

theorem State.redrive_kept (s : State) (i : Fin 8) (c : Channel) : ChannelKept c (s.redrive i c) := by
  unfold State.redrive
  split
  · exact ⟨rfl, rfl, rfl⟩
  · exact ChannelKept.refl _

theorem State.openGate_kept (s : State) (i : Fin 8) : ChannelKept s.out.channels[i] (s.openGate i) := by
  unfold State.openGate
  split
  · exact ChannelKept.refl _
  · exact ⟨rfl, rfl, rfl⟩

theorem State.stageChannels_channels (s : State) (fresh : Bool) (i : Fin 8) :
    ChannelKept s.out.channels[i] (s.stageChannels fresh).out.channels[i] := by
  unfold State.stageChannels
  simp only [State.withOut_out, Vector.getElem_ofFn, Fin.getElem_fin]
  refine ChannelKept.trans ?_ (State.openGate_kept _ ⟨i.val, i.isLt⟩)
  simp only [State.withOut_out, Vector.getElem_ofFn, Fin.getElem_fin]
  exact (State.followChannel_kept s fresh i).trans (State.redrive_kept _ _ _)

theorem State.restartIfArmed_base (s : State) (b : Bool) (i : Fin 8) :
    (s.restartIfArmed b i).base.latest = s.meas.channels[i].base.latest ∧
      (s.restartIfArmed b i).base.latestOver = s.meas.channels[i].base.latestOver ∧
      (s.restartIfArmed b i).base.avg = s.meas.channels[i].base.avg ∧
      (s.restartIfArmed b i).base.valid = s.meas.channels[i].base.valid ∧
      (s.restartIfArmed b i).base.overRange = s.meas.channels[i].base.overRange := by
  unfold State.restartIfArmed
  dsimp only
  split <;> exact ⟨rfl, rfl, rfl, rfl, rfl⟩

theorem State.stageChannels_meas (s : State) (fresh : Bool) : MeasKept s.meas (s.stageChannels fresh).meas := by
  unfold State.stageChannels
  dsimp only
  simp only [State.withOut_meas, State.withMeas_meas]
  refine ⟨rfl, rfl, rfl, rfl, rfl, rfl, rfl, rfl, ?_, ?_, ?_, ?_, ?_⟩ <;> intro i <;>
    simp only [Vector.getElem_ofFn, Fin.getElem_fin]
  · exact (State.restartIfArmed_base s _ i).1
  · exact (State.restartIfArmed_base s _ i).2.1
  · exact (State.restartIfArmed_base s _ i).2.2.1
  · exact (State.restartIfArmed_base s _ i).2.2.2.1
  · exact (State.restartIfArmed_base s _ i).2.2.2.2

theorem State.setChannel_kept (s : State) (m : Fin 8) (c : Channel) (h : ChannelKept s.out.channels[m] c) (i : Fin 8) :
    ChannelKept s.out.channels[i] (s.setChannel m c).out.channels[i] := by
  unfold State.setChannel
  simp only [State.withOut_out, Fin.getElem_fin, Vector.getElem_set]
  split
  · rename_i k
    obtain rfl : m = i := Fin.ext k
    exact h
  · exact ChannelKept.refl _

theorem State.driveMotor_channels (s : State) (m : Fin 8) (b : Bool) (i : Fin 8) :
    ChannelKept s.out.channels[i] (s.driveMotor m b).out.channels[i] := by
  unfold State.driveMotor
  dsimp only
  apply State.setChannel_kept
  split
  · split <;> exact ⟨rfl, rfl, rfl⟩
  · split <;> exact ⟨rfl, rfl, rfl⟩

/-- When a shed cause is held back (R155). -/
theorem Fan.defers_iff (f : Fan) (resolved : Nat) (shed crank : Bool) :
    f.defers resolved shed crank = true ↔ (f.state = .ramping ∨ f.state = .running) ∧ f.deferral.isSome = true ∧
      shed = true ∧ crank = false ∧ 0 < resolved := by
  simp [Fan.defers, and_assoc]

/-- When the limited cap stands (R145, R155). -/
theorem Fan.capNow_iff (f : Fan) (resolved : Nat) (order : Order) (crank : Bool) :
    f.capNow resolved order crank = true ↔ order = .limited ∨
      (f.defers resolved (decide (order = .shed)) crank = true ∧ f.capped = true) := by
  unfold Fan.capNow
  split
  · rename_i h
    have := ((Fan.defers_iff _ _ _ _).mp h).2.2.1
    simp_all
  · simp_all

theorem Fan.suspend_ramp (f : Fan) : f.suspend.ramp = f.ramp := by unfold Fan.suspend; split <;> rfl

theorem Fan.turn_ramp (f : Fan) (before : Nat) : (f.turn before).ramp = f.ramp := by
  unfold Fan.turn; dsimp only; split <;> split <;> rfl

theorem Fan.act_ramp (f : Fan) (before : Nat) (shed crank hold : Bool) : (f.act before shed crank hold).ramp = f.ramp := by
  unfold Fan.act
  dsimp only
  repeat' split
  all_goals first | rfl | exact Fan.suspend_ramp f | exact Fan.turn_ramp f before

theorem State.stageFan_kept (s : State) :
    s.stageFan.fan.ramp = s.fan.ramp ∧ ∀ i : Fin 8, ChannelKept s.out.channels[i] s.stageFan.out.channels[i] := by
  unfold State.stageFan
  split
  · exact ⟨rfl, fun _ => ChannelKept.refl _⟩
  · dsimp only
    refine ⟨?_, fun i => ?_⟩
    · simp only [State.driveMotor_fan, State.withFan_fan]
      split
      · exact Fan.act_ramp _ _ _ _ _
      · rfl
    · have h := fun f m b => State.driveMotor_channels (s.withFan f) m b i
      simp only [State.withFan_out] at h
      exact h _ _ _

theorem Supply.judgeCrank_kept (u : Supply) (c : Bool) :
    (u.judgeCrank c).a = u.a ∧ (u.judgeCrank c).thermal = u.thermal := by
  unfold Supply.judgeCrank
  repeat' split
  all_goals exact ⟨rfl, rfl⟩

theorem Supply.setTimer_a (u : Supply) (t : PersTimer) (x : PTimer) : (u.setTimer t x).a = u.a := rfl

theorem Supply.setTimer_thermal (u : Supply) (t : PersTimer) (x : PTimer) : (u.setTimer t x).thermal = u.thermal := rfl

theorem Supply.ignOff_kept (u : Supply) : u.ignOff.a = u.a ∧ u.ignOff.thermal = u.thermal := by
  unfold Supply.ignOff
  simp only [Supply.setTimer_a, Supply.setTimer_thermal, and_self]

theorem State.stageOrders_kept (s : State) :
    s.stageOrders.supply.a = s.supply.a ∧ s.stageOrders.supply.thermal = s.supply.thermal := ⟨rfl, rfl⟩

theorem State.stageSupply_kept (s : State) (b : Bool) :
    (s.stageSupply b).supply.a = s.supply.a ∧ (s.stageSupply b).supply.thermal = s.supply.thermal := by
  have key : ∀ (u : Supply) (c : Bool), u.a = s.supply.a ∧ u.thermal = s.supply.thermal →
      (s.withSupply (u.judgeCrank c)).stageOrders.supply.a = s.supply.a ∧
        (s.withSupply (u.judgeCrank c)).stageOrders.supply.thermal = s.supply.thermal := by
    intro u c h
    have ho := State.stageOrders_kept (s.withSupply (u.judgeCrank c))
    have hc := Supply.judgeCrank_kept u c
    exact ⟨ho.1.trans (hc.1.trans h.1), ho.2.trans (hc.2.trans h.2)⟩
  have first : ∀ p q : Prop, ∀ [Decidable p] [Decidable q],
      (if p then s.supply.ignOff else if q then s.supply.ignOn else s.supply).a = s.supply.a ∧
        (if p then s.supply.ignOff else if q then s.supply.ignOn else s.supply).thermal = s.supply.thermal := by
    intro p q _ _
    split
    · exact Supply.ignOff_kept _
    · split <;> exact ⟨rfl, rfl⟩
  unfold State.stageSupply
  dsimp only
  exact key _ _ ⟨(first _ _).1, (first _ _).2⟩

theorem State.stageLoad_kept (s : State) :
    s.stageLoad.supply.a = s.supply.a ∧ s.stageLoad.supply.thermal = s.supply.thermal ∧
      ∀ i : Fin 8, ChannelKept s.out.channels[i] s.stageLoad.out.channels[i] := by
  refine ⟨?_, ?_, fun i => ChannelKept.refl _⟩
  · unfold State.stageLoad; simp only [State.withSupply_supply]; split <;> rfl
  · unfold State.stageLoad; simp only [State.withSupply_supply]; split <;> rfl

/-! ## Station Control -/

theorem State.stageControl_kept (s : State) (e : EffectiveSet) :
    CtlKept s.ctl (s.stageControl e).ctl ∧ LineKept s.line (s.stageControl e).line := by
  unfold State.stageControl
  split
  · exact ⟨⟨rfl, rfl, rfl, rfl, rfl, rfl⟩, ⟨rfl, rfl, rfl, rfl, rfl, rfl, rfl, rfl, rfl, rfl⟩⟩
  · exact ⟨⟨rfl, rfl, rfl, rfl, rfl, rfl⟩, ⟨rfl, rfl, rfl, rfl, rfl, rfl, rfl, rfl, rfl, rfl⟩⟩
  · split
    · exact ⟨CtlKept.refl _, LineKept.refl _⟩
    · unfold State.reloadQuiet
      split
      · exact ⟨⟨rfl, rfl, rfl, rfl, rfl, rfl⟩, LineKept.refl _⟩
      · exact ⟨CtlKept.refl _, LineKept.refl _⟩

theorem State.stageStatus_line (s b : State) : LineKept s.line (s.stageStatus b).line := by
  unfold State.stageStatus
  split
  · exact State.requestStatus_line s
  · exact LineKept.refl _

/-! ## The STATUS they queue (R14, R22) -/

theorem Line.putFlash_status (l : Line) (content : List Byte) :
    (l.putFlash content).queue.status = l.queue.status := by
  unfold Line.putFlash
  split
  · rfl
  · dsimp only; split <;> rfl

theorem State.requestFlash_status (s : State) (x : SideSet) :
    (s.requestFlash x).line.queue.status = s.line.queue.status := by
  unfold State.requestFlash
  split
  · exact Line.putFlash_status _ _
  · rfl

theorem State.enterFlashOn_status (s : State) (x : SideSet) (k : OnEntry) :
    (s.enterFlashOn x k).line.queue.status = s.line.queue.status := by
  cases k
  · exact State.requestFlash_status _ x
  · exact State.requestFlash_status _ x
  · exact State.requestFlash_status _ x
  · rfl

theorem State.stageFlasher_status (s : State) : s.stageFlasher.1.line.queue.status = s.line.queue.status := by
  unfold State.stageFlasher
  dsimp only
  split
  · rfl
  · split
    · rfl
    · split <;> exact State.enterFlashOn_status _ _ _

theorem State.stageControl_status (s : State) (e : EffectiveSet) :
    (s.stageControl e).line.queue.status = s.line.queue.status := by
  unfold State.stageControl
  split
  · rfl
  · rfl
  · split
    · rfl
    · unfold State.reloadQuiet; split <;> rfl

/-- A STATUS placed in its slot stands there with its new content, and keeps age and attempts of a queued one (R14). -/
theorem Line.putStatus_status (l : Line) (content : List Byte) :
    (l.putStatus content).queue.status =
      some ((l.queue.status.map fun e => { e with content := content }).getD ⟨content, l.queue.nextAge, 0, false⟩) := by
  unfold Line.putStatus
  split
  · rename_i h; simp only [h, Option.map_none, Option.getD_none]
  · rename_i e h; simp only [h, Option.map_some, Option.getD_some, Line.markReplaced]

theorem Line.putStatus_content (l : Line) (content : List Byte) :
    (l.putStatus content).queue.status.map (·.content) = some content := by
  rw [Line.putStatus_status]
  cases l.queue.status <;> rfl

/-- What a STATUS carries does not depend on the Line Interface. -/
theorem State.statusContent_withLine (s : State) (l : Line) : (s.withLine l).statusContent = s.statusContent := rfl

theorem State.stageStatus_status (s b : State) :
    (s.stageStatus b).line.queue.status = s.line.queue.status ∨
      ((s.stageStatus b).line.sub ≠ .muted ∧
        (s.stageStatus b).line.queue.status.map (·.content) = some (s.stageStatus b).statusContent.payload) := by
  unfold State.stageStatus
  split
  · unfold State.requestStatus
    split
    · exact .inl rfl
    · rename_i h
      refine .inr ⟨?_, Line.putStatus_content _ _⟩
      rw [State.withLine_line, (Line.putStatus_kept _ _).sub]
      exact h
  · exact .inl rfl

/-! ## All of them -/

theorem State.stageLoads_kept (s : State) (b : Bool) :
    MeasKept s.meas (s.stageLoads b).meas ∧ (s.stageLoads b).fan.ramp = s.fan.ramp ∧
      (s.stageLoads b).supply.a = s.supply.a ∧ (s.stageLoads b).supply.thermal = s.supply.thermal ∧
      ∀ i : Fin 8, ChannelKept s.out.channels[i] (s.stageLoads b).out.channels[i] := by
  have hf := State.stageFan_kept (s.stageEffective.stageChannels b)
  have hl := State.stageLoad_kept (s.stageEffective.stageChannels b).stageFan
  unfold State.stageLoads
  refine ⟨?_, ?_, ?_, ?_, fun i => ?_⟩
  · simp only [State.stageLoad_meas, State.stageFan_meas]
    exact State.stageChannels_meas s.stageEffective b
  · simp only [State.stageLoad_fan]
    rw [hf.1]; rfl
  · rw [hl.1]; simp only [State.stageFan_supply, State.stageChannels_supply]; rfl
  · rw [hl.2.1]; simp only [State.stageFan_supply, State.stageChannels_supply]; rfl
  · exact ((State.stageChannels_channels s.stageEffective b i).trans (hf.2 i)).trans (hl.2.2 i)

/-- What the hand-ons leave of the state they start from. -/
theorem State.settle_handedOn (s b : State) (x : Bool) : HandedOn s (s.settle b x) := by
  have h1 := State.stageSupply_kept s.stageUnion s.res.ign
  have h2 := State.stageFlasher_kept (s.stageUnion.stageSupply s.res.ign)
  have h3 := State.stageLoads_kept (s.stageUnion.stageSupply s.res.ign).stageFlasher.1
    (x || (s.stageUnion.stageSupply s.res.ign).stageFlasher.2)
  have h4 := State.stageControl_kept ((s.stageUnion.stageSupply s.res.ign).stageFlasher.1.stageLoads
    (x || (s.stageUnion.stageSupply s.res.ign).stageFlasher.2)) b.res.eff
  refine ⟨by simp, by simp, by simp, by simp, by simp, ?_, ?_, ?_, by simp, by simp, ?_, fun i => ?_, ?_, ?_, ?_, by simp,
    by simp, by simp, by simp, by simp⟩
  · have := h4.1
    unfold State.settle
    simp only [State.stageStatus_ctl]
    simpa using this
  · have := h4.2
    unfold State.settle
    refine LineKept.trans ?_ (State.stageStatus_line _ b)
    refine LineKept.trans ?_ this
    simpa using h2.1
  · unfold State.settle
    refine (State.stageStatus_status _ b).imp_left fun h => ?_
    rw [h, State.stageControl_status, State.stageLoads_line, State.stageFlasher_status, State.stageSupply_line,
      State.stageUnion_line]
  · unfold State.settle
    simp only [State.stageStatus_meas, State.stageControl_meas]
    refine MeasKept.trans ?_ h3.1
    simpa using h2.2
  · unfold State.settle
    simp only [State.stageStatus_out, State.stageControl_out]
    have := h3.2.2.2.2 i
    simpa using this
  · unfold State.settle
    simp only [State.stageStatus_supply, State.stageControl_supply]
    rw [h3.2.2.1]
    simpa using h1.1
  · unfold State.settle
    simp only [State.stageStatus_supply, State.stageControl_supply]
    rw [h3.2.2.2.1]
    simpa using h1.2
  · unfold State.settle
    simp only [State.stageStatus_fan, State.stageControl_fan]
    rw [h3.2.1]
    simp

end Sys2Proof.Machine
end

