-- ==== Sys2Proof/Laws/Memory.lean ====
section
/-! SUPPORT. The laws of the 512-byte buffers: what a read gives after a write, and that every operation keeps the
canonical form. -/

namespace Sys2Proof.Machine

/-- A cell list in canonical form from `hi` on is one from any lower bound on. -/
theorem cellsWf_mono {l : List Host.Cell} {lo hi : Nat} (h : lo ≤ hi) (w : cellsWf hi l = true) : cellsWf lo l = true := by
  cases l with
  | nil => rfl
  | cons c t =>
    obtain ⟨k, v⟩ := c
    simp only [cellsWf, Bool.and_eq_true, decide_eq_true_eq] at w ⊢
    exact ⟨⟨⟨by omega, w.1.1.2⟩, w.1.2⟩, w.2⟩

/-- Below the first address of a canonical list every byte reads as the fill. -/
theorem cellsRead_below {l : List Host.Cell} {lo a : Nat} (w : cellsWf lo l = true) (h : a < lo) :
    cellsRead l a = Memory.fill := by
  induction l generalizing lo with
  | nil => rfl
  | cons c t ih =>
    obtain ⟨k, v⟩ := c
    simp only [cellsWf, Bool.and_eq_true, decide_eq_true_eq] at w
    simp only [cellsRead]
    rw [if_neg (by omega)]
    exact ih w.2 (by omega)

/-- A write keeps the canonical form. -/
theorem cellsWrite_wf {l : List Host.Cell} {lo a : Nat} {b : Byte} (w : cellsWf lo l = true) (h : lo ≤ a) (u : a < 512) :
    cellsWf lo (cellsWrite l a b) = true := by
  induction l generalizing lo with
  | nil =>
    simp only [cellsWrite]
    split
    · rfl
    · simp_all [cellsWf]
  | cons c t ih =>
    obtain ⟨k, v⟩ := c
    simp only [cellsWf, Bool.and_eq_true, decide_eq_true_eq] at w
    simp only [cellsWrite]
    split
    · split
      · simp [cellsWf, w]
      · rename_i hb
        simp only [cellsWf, Bool.and_eq_true, decide_eq_true_eq]
        exact ⟨⟨⟨h, u⟩, hb⟩, ⟨⟨by omega, w.1.1.2⟩, w.1.2⟩, w.2⟩
    · split
      · split
        · exact cellsWf_mono (by omega) w.2
        · rename_i hk hb
          simp only [cellsWf, Bool.and_eq_true, decide_eq_true_eq]
          exact ⟨⟨⟨h, u⟩, hb⟩, cellsWf_mono (by omega) w.2⟩
      · simp only [cellsWf, Bool.and_eq_true, decide_eq_true_eq]
        exact ⟨w.1, ih w.2 (by omega)⟩

/-- A read gives the byte last written there, and every other byte as before. -/
theorem cellsRead_cellsWrite {l : List Host.Cell} {lo a : Nat} {b : Byte} (w : cellsWf lo l = true) (x : Nat) :
    cellsRead (cellsWrite l a b) x = if x = a then b else cellsRead l x := by
  induction l generalizing lo with
  | nil =>
    simp only [cellsWrite]
    split
    · rename_i hb; subst hb; simp [cellsRead]
    · simp only [cellsRead, eq_comm (a := a)]
  | cons c t ih =>
    obtain ⟨k, v⟩ := c
    simp only [cellsWf, Bool.and_eq_true, decide_eq_true_eq] at w
    have hb (y : Nat) (h : y < k + 1) : cellsRead t y = Memory.fill := cellsRead_below w.2 h
    simp only [cellsWrite]
    split
    · rename_i hk
      split
      · rename_i hf; subst hf
        by_cases hx : x = a
        · subst hx; simp only [cellsRead, if_true]; rw [if_neg (by omega), hb x (by omega)]
        · simp [hx]
      · by_cases hx : x = a
        · subst hx; simp [cellsRead]
        · simp [cellsRead, hx, Ne.symm hx]
    · split
      · rename_i _ hk; subst hk
        split
        · rename_i hf; subst hf
          by_cases hx : x = a
          · subst hx; simp only [if_true]; exact hb x (by omega)
          · simp [cellsRead, hx, Ne.symm hx]
        · by_cases hx : x = a
          · subst hx; simp [cellsRead]
          · simp [cellsRead, hx, Ne.symm hx]
      · rename_i h1 h2
        simp only [cellsRead, ih w.2]
        by_cases hx : x = a
        · subst hx; rw [if_neg (by omega)]; simp
        · simp [hx]

/-- The cells of a list of bytes are in canonical form. -/
theorem cellsOf_wf {bytes : List Byte} {a : Nat} (h : a + bytes.length ≤ 512) : cellsWf a (cellsOf a bytes) = true := by
  induction bytes generalizing a with
  | nil => rfl
  | cons b t ih =>
    simp only [List.length_cons] at h
    have ht := ih (a := a + 1) (by omega)
    simp only [cellsOf]
    split
    · exact cellsWf_mono (by omega) ht
    · rename_i hb
      simp only [cellsWf, Bool.and_eq_true, decide_eq_true_eq]
      exact ⟨⟨⟨le_refl a, by omega⟩, hb⟩, ht⟩

theorem Memory.write_wf {m : Memory} (h : m.wf = true) (a : Nat) (b : Byte) : (m.write a b).wf = true := by
  unfold Memory.write
  split
  · rename_i u; exact cellsWrite_wf h (Nat.zero_le a) u
  · exact h

theorem Memory.writeAll_wf {m : Memory} (h : m.wf = true) (a : Nat) (bytes : List Byte) :
    (m.writeAll a bytes).wf = true := by
  induction bytes generalizing m a with
  | nil => exact h
  | cons b t ih => exact ih (Memory.write_wf h a b) (a + 1)

theorem Memory.ofBytes_wf (bytes : List Byte) : (Memory.ofBytes bytes).wf = true :=
  cellsOf_wf (by simp)

theorem Memory.withCheck_wf {m : Memory} (h : m.wf = true) : m.withCheck.wf = true := Memory.writeAll_wf h _ _

theorem Memory.empty_wf : (⟨[]⟩ : Memory).wf = true := rfl

/-- Reading a byte back after a write: the byte written, and every other byte as before. -/
theorem Memory.read_write {m : Memory} (h : m.wf = true) {a : Nat} (u : a < 512) (b : Byte) (x : Nat) :
    (m.write a b).read x = if x = a then b else m.read x := by
  unfold Memory.write Memory.read
  rw [if_pos u]
  exact cellsRead_cellsWrite h x

/-- A read beside the bytes written gives what it gave before. -/
theorem Memory.read_writeAll_other {m : Memory} (h : m.wf = true) (a : Nat) (bytes : List Byte) (x : Nat)
    (hx : x < a ∨ a + bytes.length ≤ x) (u : a + bytes.length ≤ 512) : (m.writeAll a bytes).read x = m.read x := by
  induction bytes generalizing m a with
  | nil => rfl
  | cons b t ih =>
    simp only [List.length_cons] at hx u
    have := ih (m := m.write a b) (Memory.write_wf h a b) (a + 1) (by omega) (by omega)
    rw [Memory.writeAll, this, Memory.read_write h (by omega), if_neg (by omega)]

end Sys2Proof.Machine
end

