-- ==== Sys2Proof/Laws/Store.lean ====
section
/-! SUPPORT. The configuration record: an entry that a load gave, written to its bytes (R188), loads as itself. -/

namespace Sys2Proof.Machine

@[simp] theorem putByte_toNat (n : Nat) : (putByte n).toNat = n % 256 := by simp [putByte]

@[simp] theorem putWord_length (n : Nat) : (putWord n).length = 2 := rfl

/-- The two bytes of a number below 65536 make that number. -/
theorem putWord_value (n : Nat) (h : n < 65536) : n / 256 % 256 * 256 + n % 256 = n := by omega

/-- A Switch Map entry whose hold time is in range loads as itself, where it is not enabled with a mode or target that
names none (R43). -/
theorem loadSwitch_bytes (e : SwitchEntry) (hm : e.mode < 256) (ht : e.target < 256) (hh : e.hold ≤ 60)
    (he : e.enabled = true → e.mode ≤ 2 ∧ e.target ≤ 15) : (loadSwitch e.bytes).1 = e := by
  obtain ⟨en, pol, wk, mode, target, hold⟩ := e
  simp only at hm ht hh he
  have h1 : mode % 256 = mode := Nat.mod_eq_of_lt hm
  have h2 : target % 256 = target := Nat.mod_eq_of_lt ht
  have h3 : hold % 256 = hold := Nat.mod_eq_of_lt (by omega)
  have h4 : clampNat 0 60 hold = hold := by simp [clampNat]; omega
  simp only [loadSwitch, SwitchEntry.bytes, byteAt, List.getD_cons_zero, List.getD_cons_succ, putByte_toNat, h1, h2, h3,
    loadNat, counted, h4]
  cases en <;> cases pol <;> cases wk <;> simp_all [putByte, pack, flagBit]

/-- A gauge entry within the ranges of R157 loads as itself, unless its kind would be read from a source that names
none. -/
theorem loadGauge_bytes (e : GaugeEntry) (h1 : e.sourceType < 256) (h2 : e.number < 256) (h3 : e.slot < 256)
    (h4 : 1 ≤ e.dfs ∧ e.dfs ≤ 1000) (h5 : 1 ≤ e.k ∧ e.k ≤ 256) (h6 : 50 ≤ e.fs ∧ e.fs ≤ 600)
    (h7 : e.vlo < e.vhi ∧ e.vhi ≤ 2000) (h8 : e.kind ≠ .off → badSource e.sourceType e.number e.slot = 0) :
    (loadGauge e.bytes).1 = e := by
  obtain ⟨kind, ty, num, slot, dfs, k, fs, vlo, vhi⟩ := e
  simp only at h1 h2 h3 h4 h5 h6 h7 h8
  simp only [loadGauge, GaugeEntry.bytes, putWord, List.cons_append, List.nil_append, byteAt, wordAt, List.getD_cons_zero,
    List.getD_cons_succ, putWord_value dfs (by omega), putWord_value k (by omega), putWord_value fs (by omega),
    putWord_value vlo (by omega), putWord_value vhi (by omega), putByte_toNat, Nat.mod_eq_of_lt h1, Nat.mod_eq_of_lt h2,
    Nat.mod_eq_of_lt h3, loadNat, counted, clampNat_of_within h4.1 h4.2, clampNat_of_within h5.1 h5.2,
    clampNat_of_within h6.1 h6.2, clampNat_of_within (Nat.zero_le vlo) (by omega : vlo ≤ 2000),
    clampNat_of_within (Nat.zero_le vhi) h7.2, if_neg (by omega : ¬(vhi ≤ vlo ∧ vlo = 2000)),
    if_neg (by omega : ¬vhi ≤ vlo)]
  cases kind <;> simp_all [GaugeKind.code, gaugeKindOf]

/-- A channel entry within the ranges of R81 loads as itself, but for the rule of the second Motor. -/
theorem loadChannel_bytes (e : ChannelEntry) (h1 : e.function < 256) (h2 : e.kind ≠ .off → e.function ≤ 18)
    (h3 : e.cls ≤ 3) (h4 : e.kind = .flashLamp ∨ e.kind = .stopTurn → e.cls = 0) (h5 : 1 ≤ e.level ∧ e.level ≤ 1000)
    (h6 : e.tail ≤ 1000) (h7 : 10 ≤ e.hardLimit ∧ e.hardLimit ≤ 400) (h8 : 1 ≤ e.overLimit ∧ e.overLimit ≤ 400)
    (h9 : 100 ≤ e.overTime ∧ e.overTime ≤ 5000) (h10 : e.openLimit ≤ 400) (h11 : e.inrush ≤ 250) (h12 : e.retryLimit ≤ 7) :
    (loadChannel e.bytes).1 = e := by
  obtain ⟨kind, fn, side, cls, level, tail, hard, ol, ot, op, inr, rl, ex⟩ := e
  simp only at h1 h2 h3 h4 h5 h6 h7 h8 h9 h10 h11 h12
  simp only [loadChannel, ChannelEntry.bytes, putWord, List.cons_append, List.nil_append, byteAt, wordAt,
    List.getD_cons_zero, List.getD_cons_succ, putWord_value level (by omega), putWord_value tail (by omega),
    putWord_value hard (by omega), putWord_value ol (by omega), putWord_value ot (by omega),
    putWord_value op (by omega), putByte_toNat, Nat.mod_eq_of_lt h1, Nat.mod_eq_of_lt (by omega : cls < 256),
    Nat.mod_eq_of_lt (by omega : inr < 256), Nat.mod_eq_of_lt (by omega : rl < 256), loadNat, counted,
    clampNat_of_within h5.1 h5.2, clampNat_of_within (Nat.zero_le tail) h6, clampNat_of_within h7.1 h7.2,
    clampNat_of_within h8.1 h8.2, clampNat_of_within h9.1 h9.2, clampNat_of_within (Nat.zero_le op) h10,
    clampNat_of_within (Nat.zero_le inr) h11, clampNat_of_within (Nat.zero_le rl) h12,
    clampNat_of_within (Nat.zero_le cls) h3]
  cases kind <;> cases side <;> cases ex <;>
    simp_all [ChannelKind.code, channelKindOf, Side.code, Exhaustion.code]

/-- Fields within their limits are left as they are. -/
theorem limitWords_of_within (limit : Nat → Nat) (l : List Nat) (j : Nat)
    (h : ∀ k, k < l.length → l.getD k 0 ≤ limit (j + k)) : (limitWords limit j l).1 = l := by
  induction l generalizing j with
  | nil => rfl
  | cons w t ih =>
    have hw : w ≤ limit j := by simpa using h 0 (by simp)
    have ht : (limitWords limit (j + 1) t).1 = t := ih (j + 1) fun k hk => by
      have := h (k + 1) (by simpa using hk)
      simpa [Nat.add_assoc, Nat.add_comm 1 k] using this
    simp only [limitWords, ht, Nat.min_eq_left hw]

/-- Sixteen two-byte fields behind a header of four bytes are read back as they were. -/
theorem words_read (a b c d : Byte) (l : List Nat) (hl : l.length = 16) (h : ∀ w ∈ l, w < 65536) :
    ((List.range 16).map fun j => wordAt ([a, b, c, d] ++ l.flatMap putWord) (4 + 2 * j)) = l := by
  match l, hl with
  | [x0, x1, x2, x3, x4, x5, x6, x7, x8, x9, x10, x11, x12, x13, x14, x15], _ =>
    simp only [List.mem_cons, List.not_mem_nil, or_false, forall_eq_or_imp, forall_eq] at h
    simp only [List.range_succ_eq_map, List.range_zero, List.map_cons, List.map_nil, List.flatMap_cons, List.flatMap_nil,
      putWord, List.cons_append, List.nil_append, wordAt, byteAt, List.getD_cons_succ, List.getD_cons_zero, putByte_toNat]
    simp only [putWord_value, h]

/-- A sender entry within the ranges of its mode loads as itself, but for the rule of its publish slot. -/
theorem loadSender_bytes (e : SenderEntry) (h1 : e.target < 256) (h2 : e.publish < 256) (h3 : e.count < 256)
    (h4 : e.words.length = 16) (h5 : ∀ w ∈ e.words, w < 65536) (h6 : e.mode = .switch → e.target ≤ 15)
    (h7 : e.mode = .resistive → 2 ≤ e.count ∧ e.count ≤ 8 ∧ monotone e.points = true ∧
      ∀ k, k < 16 → e.words.getD k 0 ≤ pointLimit e.count k)
    (h8 : e.mode = .ladder → 1 ≤ e.count ∧ e.count ≤ 4 ∧ e.target ≤ 1 ∧ (e.target = 1 → e.rzero ≠ e.rfull) ∧
      ∀ k, k < 16 → e.words.getD k 0 ≤ ladderLimit e.count k) : (loadSender e.bytes).1 = e := by
  obtain ⟨mode, target, publish, count, words⟩ := e
  simp only at h1 h2 h3 h4 h5 h6 h7 h8
  have hw := words_read (putByte mode.code) (putByte target) (putByte publish) (putByte count) words h4 h5
  have b0 : byteAt (SenderEntry.bytes ⟨mode, target, publish, count, words⟩) 0 = mode.code := by
    cases mode <;> rfl
  have b1 : byteAt (SenderEntry.bytes ⟨mode, target, publish, count, words⟩) 1 = target := by
    simp [SenderEntry.bytes, byteAt, Nat.mod_eq_of_lt h1]
  have b2 : byteAt (SenderEntry.bytes ⟨mode, target, publish, count, words⟩) 2 = publish := by
    simp [SenderEntry.bytes, byteAt, Nat.mod_eq_of_lt h2]
  have b3 : byteAt (SenderEntry.bytes ⟨mode, target, publish, count, words⟩) 3 = count := by
    simp [SenderEntry.bytes, byteAt, Nat.mod_eq_of_lt h3]
  have bw : ((List.range 16).map fun j => wordAt (SenderEntry.bytes ⟨mode, target, publish, count, words⟩) (4 + 2 * j))
      = words := hw
  simp only [loadSender, b0, b1, b2, b3, bw]
  cases mode with
  | off => rfl
  | switch => simp only [SenderMode.code, if_pos (h6 rfl)]
  | resistive =>
    obtain ⟨c1, c2, m, k⟩ := h7 rfl
    have hl := limitWords_of_within (pointLimit count) words 0 (by rw [h4]; simpa using k)
    simp only [SenderMode.code, loadNat, counted, clampNat_of_within c1 c2, hl, m, if_true]
  | ladder =>
    obtain ⟨c1, c2, t1, z, k⟩ := h8 rfl
    have hl := limitWords_of_within (ladderLimit count) words 0 (by rw [h4]; simpa using k)
    have hz : ¬(1 < target ∨ (target = 1 ∧
        SenderEntry.rzero ⟨.ladder, target, publish, count, words⟩ =
          SenderEntry.rfull ⟨.ladder, target, publish, count, words⟩)) := by
      rintro (x | ⟨x, y⟩)
      · omega
      · exact z x y
    simp only [SenderMode.code, loadNat, counted, clampNat_of_within c1 c2, hl, if_neg hz]

end Sys2Proof.Machine
end

