-- ==== Sys2Proof/Tests/Slice0.lean ====
section
/-! SUPPORT. Tests: a term each WellFormed check refuses; the specification's worked examples and tables; one small step
for some commands; and for every statement with hypotheses a witness that meets them. -/

namespace Sys2Proof.Tests

open Sys2Proof Sys2Proof.Machine

/-! ## WellFormed refuses an ill-formed term of each check -/

theorem test_wf_objected_length : (Instr.objectedFrame 0x12 0x11 [] 0xED false).wellFormed = false := by decide
theorem test_wf_station_number : (Instr.statusFrame 15 [0, 0, 0, 0, 0, 0, 0, 0]).wellFormed = false := by decide
theorem test_wf_status_length : (Instr.statusFrame 1 [0, 0, 0, 0, 0, 0, 0, 0, 0]).wellFormed = false := by decide
theorem test_wf_announce_length : (Instr.announceFrame 1 [0, 0, 0, 0, 0, 0, 0, 0, 0, 0]).wellFormed = false := by decide
theorem test_wf_announce_station : (Instr.announceFrame 15 [0, 0, 0, 0, 0, 0, 0, 0, 0, 0, 0]).wellFormed = false := by
  decide
theorem test_wf_flash_length : (Instr.flashFrame 1 [0, 0]).wellFormed = false := by decide
theorem test_wf_flash_station : (Instr.flashFrame 15 [0]).wellFormed = false := by decide
theorem test_wf_reply_length : (Instr.replyFrame 1 []).wellFormed = false := by decide
theorem test_wf_reply_station : (Instr.replyFrame 15 [0]).wellFormed = false := by decide
theorem test_wf_service_args : (Instr.read 1 [0, 0, 0, 0, 0, 0, 0, 0]).wellFormed = false := by decide
theorem test_wf_unknown_code : (Instr.unknownCommand 1 12 []).wellFormed = false := by decide
theorem test_wf_unknown_args : (Instr.unknownCommand 1 13 [0, 0, 0, 0, 0, 0, 0, 0]).wellFormed = false := by decide
theorem test_wf_status_accepts : (Instr.statusFrame 14 [0, 0, 0, 0, 0, 0, 0, 0]).wellFormed = true := by decide
theorem test_wf_unknown_accepts : (Instr.unknownCommand 1 13 []).wellFormed = true := by decide

/-- No row of the table has bits: no word spells a command. -/
theorem test_no_word_spells (s : State) (nbits w : Nat) :
    decodeTableWord nbits w = none ∧ s.withFetchWord nbits w = s := ⟨rfl, rfl⟩

/-! ## The specification's worked examples -/

/-- Rounding: an exact half goes up, and −107.5 to −107 (00_scope.md, section 9.9). -/
theorem test_round_half_up : roundDiv (-215) 2 = -107 ∧ roundDiv 5 2 = 3 ∧ roundDiv 7 3 = 2 := by decide

set_option maxRecDepth 20000 in
/-- The Check of 0x12, 0x11, 0x00 is 0xED (section 1.1). -/
theorem test_crc8_example : crc8 [0x12, 0x11, 0x00] = 0xED := by decide

/-- The heater switch at 225, 160 and 372 hΩ, and the rheostat at 163 hΩ (section 3.2). -/
theorem test_ladder_bands : bandOf [(0, 40), (80, 140), (180, 260), (300, 420)] 0 225 = some 2 ∧
    bandOf [(0, 40), (80, 140), (180, 260), (300, 420)] 0 160 = none ∧
    bandOf [(0, 40), (80, 140), (180, 260), (300, 420)] 0 372 = some 3 := by decide

theorem test_ladder_dimmer :
    dimmerValue ⟨.ladder, 1, 0, 1, [10, 320, 0, 0, 0, 0, 0, 0, 20, 300, 0, 0, 0, 0, 0, 0]⟩ 163 = 32 := by decide

/-- The supply block of section 4.2 sums to 22088 and averages to 1381. -/
theorem test_supply_average : roundDiv 22088 16 = 1381 := by decide

set_option maxRecDepth 20000 in
/-- The compensated duties of section 5.3. -/
theorem test_lamp_duties : lampDuty 250 1200 1380 = 189 ∧ lampDuty 500 1200 1100 = 595 ∧ lampDuty 999 1200 1300 = 851 ∧
    lampDuty 250 1200 1800 = 111 ∧ lampDuty 800 1200 400 = 1000 ∧ lampDuty 500 600 580 = 535 ∧
    lampDuty 1000 1200 1380 = 1000 := by decide

/-- The fan at V2 = 900 and 1380 cV (section 9.9). -/
theorem test_fan_duty : fanDuty 900 1380 = 652 := by decide

/-- The fuel gauge of section 9.9: 303 hΩ is 393 and 450 moves to 443; open wire; the ignition-off steps of R166. -/
theorem test_fuel_linearized :
    linearize [(60, 1000), (150, 750), (260, 500), (360, 250), (480, 0)] 303 = 393 ∧
    linearize [(60, 1000), (150, 750), (260, 500), (360, 250), (480, 0)] 1023 = 0 ∧
    linearize [(560, 0), (280, 250), (140, 500), (70, 750), (40, 1000)] 100 = 643 := by decide

theorem test_damping_steps : damp 450 393 32 = 443 ∧ damp 443 0 32 = 388 ∧ damp 388 0 32 = 340 ∧ damp 340 0 32 = 298 ∧
    damp 7 0 32 = 6 ∧ damp 600 643 64 = 610 := by decide

/-- The Thermal duties of section 9.9, the last above 1000 before its clamp. -/
theorem test_thermal_duties : thermalDuty 443 800 1000 1380 = 186 ∧ thermalDuty 443 800 1000 900 = 437 ∧
    thermalDuty 443 800 1000 600 = 983 ∧ thermalDuty 443 800 1000 1800 = 109 ∧ thermalDuty 1000 800 1000 800 = 1250 := by
  decide

theorem test_coil_duty : coilDuty 610 900 1200 1380 = 477 := by decide

set_option maxRecDepth 20000 in
/-- Station 1's STATUS of section 2.7: OIL_LOW, fan step 2, dimmer 63, 187 dA, 139, Awake, IGN on, −35 dA, index 1 at 620. -/
theorem test_status_taken_apart :
    decodeStatus [0x80, 0x00, 0xBF, 0x00, 0xBB, 139, 0x0E, 0x00, 0xFF, 0xDD, 0x42, 0x6C] = some
      { requests := 0x8000, fanStep := 2, dimmer := 63, demand := 187, supply := 139, shed := 0, station := .awake,
        ign := true, faults := ⟨false, false, false, false, false, false⟩, bulbLeft := false, bulbRight := false,
        battery := some (-35), posA := some (1, 620), posB := none } := by decide

/-! ## Small states and single steps -/

/-- A station after its reset, in station state `st` on an idle line, with its quiet timer running. -/
def at_ (st : StationState) : State :=
  { State.reset with
    ctl := { State.reset.ctl with state := st, join := none, quiet := some 30000 }
    line := { State.reset.line with view := .idle } }

set_option maxRecDepth 20000 in
/-- A power-on reset of a 12 V station 0 with a blank store leaves the state after reset (R175, R176). -/
theorem test_power_on_is_reset : stateAfter (exec (.powerOnReset ⟨.earth, .earth, .supply⟩) State.reset) = some State.reset :=
  by decide

set_option maxRecDepth 20000 in
/-- BL on ADDR_A and IGN on ADDR_B latch station 11 (R173). -/
theorem test_straps_latched :
    (stateAfter (exec (.powerOnReset ⟨.bl, .ign, .earth⟩) State.reset)).map (·.straps) = some ⟨11, true⟩ := by decide

/-- The STATUS of urgency 5 is offered before the ANNOUNCE of urgency 6 (R6, R7). -/
theorem test_offer_takes_status :
    (stateAfter (exec .frameOffer (at_ .awake))).bind (fun t => t.line.inFlight.map InFlight.kind) = some .status := by decide

/-- After another's start bit with an empty queue FRAME_OFFER drives nothing before the next idle (R7). -/
theorem test_missed_start_bit_waits : ∀ t : State, t = { at_ .awake with line := { (at_ .awake).line with
      view := .receiving, queue := { Queue.empty with status := some ⟨[0], 0, 0, false⟩ } } } →
    (stateAfter (exec .joinStartBit { t with line := { t.line with view := .idle, queue := Queue.empty } })).map
      (fun u => u.line.view) = some .receiving ∧ (stateAfter (exec .frameOffer t)).map (·.line.inFlight) = some none := by
  rintro _ rfl; decide

set_option maxRecDepth 20000 in
/-- A frame of station 2 that this receiver found good, objected by another: nothing is counted (R12, R23). -/
theorem test_objected_by_another :
    (stateAfter (exec (.objectedFrame 0x12 0x11 [0x00] 0xED false) (at_ .awake))).map
      (fun t => (t.line.counters.objectionsRaised, t.line.counters.checkErrors)) = some (0, 0) := by decide

set_option maxRecDepth 20000 in
/-- The same frame with one bit of the Check read wrong: a check error, and this receiver objected (R10, R23). -/
theorem test_objected_check_error :
    (stateAfter (exec (.objectedFrame 0x12 0x11 [0x00] 0xEC false) (at_ .awake))).map
      (fun t => (t.line.counters.objectionsRaised, t.line.counters.checkErrors)) = some (1, 1) := by decide

set_option maxRecDepth 20000 in
/-- A STATUS of station 1 makes its record Present with a 100 ms ageing timer (R31, R33). -/
theorem test_status_makes_present :
    ((stateAfter (exec (.statusFrame 1 [0, 0, 63, 0, 187, 139, 8, 0]) (at_ .awake))).bind (·.peers.find 1)).map
      (fun r => (r.state, r.demand, r.ign, r.ageing)) = some (.present, 187, true, some 100) := by decide

set_option maxRecDepth 20000 in
/-- HAZARD of station 1 flashes both sides here (R57, R58, R107). -/
theorem test_hazard_starts_cycle :
    (stateAfter (exec (.statusFrame 1 [1, 0, 63, 0, 0, 0, 0, 0]) (at_ .awake))).map
      (fun t => (t.flash.phase, t.flash.sides, t.flash.half)) = some (.on, some .both, some 360) := by decide

/-- A wake keeps the drain accumulator and contributor (c), and sheds class 1 at once (R142). -/
theorem test_wake_keeps_drain :
    (stateAfter (exec .lineWake { at_ .asleep with
      supply := { Supply.init with c := 3, drain := 400000, localLevel := 3 } })).map
      (fun t => (t.ctl.state, t.ctl.cause, t.supply.drain, t.supply.orders.one)) =
      some (.starting, .line, 400000, .shed) := by decide

/-- STORE COMMIT outside Setup is NOT_IN_SETUP: 0x19 (R185). -/
theorem test_commit_needs_setup :
    (stateAfter (exec (.storeCommit 0 []) (at_ .awake))).map (fun t => t.line.queue.reply.map (·.content)) =
      some [[0x19]] := by decide

set_option maxRecDepth 20000 in
/-- FAULT CALL gives the reset's CONFIG_DEFAULT entry with kind 9 in its first byte (R193). -/
theorem test_fault_call_kind :
    (stateAfter (exec (.faultCall 0 []) (at_ .awake))).map (fun t => t.line.queue.reply.map fun e => e.content.take 2) =
      some [[0x03, 0x09]] := by decide

set_option maxRecDepth 20000 in
/-- Contributor (a) at 3 sheds every class, and a channel of kind Off stays in Off (R86, R133). -/
theorem test_off_kind_stays_off :
    (stateAfter (exec (.persistenceTimerExpiry .entry3) { at_ .awake with
      supply := { Supply.init with timers := Vector.replicate 12 .running } })).map
      (fun t => (t.supply.orders.three, t.out.channels[(0 : Fin 8)].state)) = some (.shed, .off) := by decide

set_option maxRecDepth 20000 in
/-- A stall while the fan ramps down to target 0: Stalled, with its 5 s wait (R150). -/
theorem test_stall_at_target_zero :
    (stateAfter (exec .stallTimerExpiry { at_ .awake with
      cfg := { (at_ .awake).cfg with channels := (at_ .awake).cfg.channels.set 0 { ChannelEntry.default with kind := .motor } }
      fan := { Fan.init with state := .ramping, veff := 300, stallTimer := some 1500 } })).map
      (fun t => (t.fan.state, t.fan.stallWait, t.fan.stallCount)) = some (.stalled, some 5000, 1) := by decide

set_option maxRecDepth 20000 in
/-- A READ of the station record in Standby gives the 30 s of the quiet timer it reloads (R178, R183, R184). -/
theorem test_read_quiet_seconds :
    (stateAfter (exec (.read 0 [6, 0, 0]) (at_ .standby))).map (fun t => t.line.queue.reply.map fun e => e.content.getD 7 0)
      = some [30] := by decide

set_option maxRecDepth 20000 in
/-- A record of zeros loads every number at the low end of its range: N_I 1, P 600, 5 s, 1 A·h, D1 10 dA, V1 100 cV (R79,
R120, R128, R132, R144, R178), and a Vhi not above its Vlo as Vlo + 1 (R157). -/
theorem test_load_zero_record :
    (fun c : WorkingConfig => (c.ni, c.flashPeriod, c.quiet, c.allowance, c.d1, c.v1, c.gauges[(0 : Fin 4)].vhi))
      (loadRecord (List.replicate 512 0)) = (1, 600, 5, 1, 10, 100, 1) := by decide

/-- READ of a peer's identity packs the role flags from bit 0: battery shunt and publishes A are 0x05 (section 11.5, R26). -/
theorem test_read_peer_roles :
    ((at_ .awake).readPeerIdentity { PeerRecord.init 3 with roles := some ⟨true, false, (true, false)⟩ }).getD 10 0 = 0x05 := by
  decide

/-- READ of a peer's status sends its bulb-out flags in their STATUS order: left alone is 0x02 (section 11.5). -/
theorem test_read_peer_bulbs :
    ((at_ .awake).readPeerStatus { PeerRecord.init 3 with bulbLeft := true }).getD 10 0 = 0x02 := by decide

/-! ## Witnesses: states and operands that meet a statement's hypotheses

One theorem for each statement with hypotheses, named after it, one part for each of its clauses. A hypothesis of the form
`x = …` that only gives a value its name is met by that value and is not repeated. -/

/-- The state with one queued entry in flight. -/
def flying (kind : FrameKind) (e : Entry) (s : State) : State :=
  { s with line := { s.line with inFlight := some ⟨kind, e.age, e.content, false⟩, view := .busy } }

/-- The state with a command waiting. -/
def waiting (c : Instr) (s : State) : State := { s with pending := [c] }

/-- An Entry of age 0 and 1: the STATUS and the ANNOUNCE queued at the reset. -/
def status0 : Entry := ⟨[0, 0, 63, 0, 0, 0, 0, 4], 0, 0, false⟩
def announce1 : Entry := ⟨[0, 0, 0, 0, 0, 0, 0, 0, 0, 0, 0], 1, 0, false⟩
def flash1 : Entry := ⟨[0xC0], 1, 0, false⟩
def reply1 (used : Nat) (restarts : Bool) : Entry := ⟨[0x0C], 1, used, restarts⟩

/-- A station in line sub-state `sub` with this queue. -/
def queued (sub : SubState) (q : Queue) : State :=
  { at_ .awake with line := { (at_ .awake).line with sub := sub, queue := q } }

/-- A state whose resolver stands on inputs that request nothing and on peers that, where they count, give nothing. -/
theorem resolverOk_of {s : State} (hu : s.res.union = 0) (hr : s.sw.requests = 0) 
    (hi : s.res.ign = true ↔ s.sw.ignAccepted = .closed) (hf : s.res.fanStep = s.sw.fanStep) (hd : s.res.dimmer = 63) (hw : s.sw.dimmer = 63)
    (hp : s.res.panel = 1000)
    (hc : ∀ r ∈ s.peers.records, r.state = .absent ∨ (r.requests = 0 ∧ r.fanStep = 0 ∧ 63 ≤ r.dimmer ∧ r.ign = false)) :
    s.ResolverOk := by
  have counted : ∀ r ∈ s.peers.records, r.Counted → r.requests = 0 ∧ r.fanStep = 0 ∧ 63 ≤ r.dimmer ∧ r.ign = false := by
    intro r hr hk
    rcases hc r hr with h | h
    · rcases hk with k | k <;> simp [h] at k
    · exact h
  refine ⟨fun _ n => ?_, fun _ => ?_, fun _ => ⟨by omega, fun r h k => ?_, .inl hf⟩,
    fun _ => ⟨by omega, fun r h k => ?_, .inl (by omega)⟩, fun _ => ?_⟩
  · simp only [hu, hr]
    constructor
    · intro h; simp at h
    · rintro (h | ⟨r, h, k, e⟩)
      · simp at h
      · simp [(counted r h k).1] at e
  · constructor
    · exact fun h => .inl (hi.1 h)
    · rintro (h | ⟨-, r, h, k, e⟩)
      · exact hi.2 h
      · simp [(counted r h (.inl k)).2.2.2] at e
  · have := (counted r h k).2.1; omega
  · have := (counted r h k).2.2.1; omega
  · rw [hp, hd]; decide

theorem witness_StepRunsFrontCommand :
    (waiting .frameOffer State.reset).pending = .frameOffer :: [] ∧ State.reset.pending = [] := by decide

/-! ### The invariants: a state that meets each, and a step it answers -/

/-- After a reset, with a clock tick waiting. -/
def ticking : State := waiting .stationClockTick State.reset

theorem ticking_steps : ∃ t, step ticking = .next t := ⟨_, rfl⟩

theorem witness_StepKeepsBuffers : ticking.BuffersWf ∧ ∃ t, step ticking = .next t :=
  ⟨by unfold State.BuffersWf; decide, ticking_steps⟩
theorem witness_StepKeepsQueue : ticking.QueueOk ∧ ∃ t, step ticking = .next t :=
  ⟨⟨by decide, by decide, .nil, by decide, .nil, by decide, by decide, by decide⟩, ticking_steps⟩
theorem witness_StepKeepsPeers : ticking.PeersOk ∧ ∃ t, step ticking = .next t :=
  ⟨by unfold State.PeersOk; decide, ticking_steps⟩

theorem ticking_inputsOk : ticking.InputsOk := by
  refine ⟨fun _ n h => ?_, fun _ => ?_, fun _ => ?_⟩
  · revert n; decide
  · decide
  · decide

theorem witness_StepKeepsLocalRequests : ticking.InputsOk ∧ ∃ t, step ticking = .next t :=
  ⟨ticking_inputsOk, ticking_steps⟩

theorem ticking_resolverOk : ticking.ResolverOk :=
  resolverOk_of rfl rfl (by decide) rfl rfl rfl rfl (by decide)

theorem witness_StepKeepsResolver : ticking.ResolverOk ∧ ∃ t, step ticking = .next t :=
  ⟨ticking_resolverOk, ticking_steps⟩
theorem witness_StepKeepsEffectiveFunctions : ticking.EffectiveOk ∧ ∃ t, step ticking = .next t :=
  ⟨⟨by decide, by decide, by decide, by decide, by decide, fun _ => by
    constructor
    · intro h; cases h
    · rintro ⟨h, -⟩; cases h⟩, ticking_steps⟩
theorem witness_StepKeepsFlashCycle : ticking.FlashOk ∧ ∃ t, step ticking = .next t :=
  ⟨⟨by decide, by decide, by decide⟩, ticking_steps⟩

theorem ticking_supplyOk : ticking.SupplyOk := by
  refine ⟨fun _ => rfl, fun _ => by decide, fun _ => by decide, fun _ => ⟨by decide, ?_, .inl rfl⟩, fun _ => rfl⟩
  intro r h k
  have : ∀ r ∈ ticking.peers.records, r.shed ≤ ticking.supply.effective := by decide
  exact this r h

theorem witness_StepKeepsSupply : ticking.SupplyOk ∧ ∃ t, step ticking = .next t := ⟨ticking_supplyOk, ticking_steps⟩

theorem ticking_channelsOk : ticking.ChannelsOk := by
  have kind : ∀ i : Fin 8, ticking.cfg.channels[i].kind = .off := by decide
  have off : ∀ i : Fin 8, ticking.out.channels[i].state = .off := by decide
  refine ⟨fun i _ => .inl (off i), fun _ => by decide, fun _ => by decide, fun _ i h => ?_, fun _ i h => ?_,
    fun _ i h => ?_, fun _ i h => ?_, fun _ i h => ?_, fun _ _ i _ h => ?_, fun _ _ => by decide, fun _ _ => by decide,
    fun _ _ => by decide, fun _ _ => by decide, fun _ _ => by decide⟩
  · rw [kind i] at h; cases h
  · rw [kind i] at h; cases h
  · rw [kind i] at h; rcases h with h | h <;> cases h
  · rw [kind i] at h; cases h
  · rw [kind i] at h; cases h
  · rw [off i] at h; rcases h with h | h <;> cases h

theorem witness_StepKeepsChannels : ticking.ChannelsOk ∧ ∃ t, step ticking = .next t :=
  ⟨ticking_channelsOk, ticking_steps⟩
theorem witness_StepKeepsFan : ticking.FanOk ∧ ∃ t, step ticking = .next t :=
  ⟨⟨by decide, by decide, by decide, by decide, by decide, fun _ m h => by revert m h; decide, by decide⟩, ticking_steps⟩

/-- A station asleep as the machine leaves it: its queue empty, everything off. -/
def asleep : State := (at_ .awake).enterAsleep

/-- A station strapped to number 15, as the machine resets it. -/
def invalid : State := { State.reset with
  straps := ⟨15, false⟩, line := { State.reset.line with periodic := none }
  peers := ⟨[], 0, 0⟩, gauges := { State.reset.gauges with update := none } }

theorem witness_StepKeepsStillStations :
    ((waiting .ignWake asleep).StillAsleep ∧ (waiting .ignWake asleep).ctl.state = .asleep ∧
      ∃ t, step (waiting .ignWake asleep) = .next t) ∧
    ((waiting .stationClockTick invalid).InvalidStill ∧ invalid.strapInvalid = true ∧
      ∃ t, step (waiting .stationClockTick invalid) = .next t) ∧
    (ticking.StationOk ∧ (at_ .awake).up = true ∧ ∃ t, step ticking = .next t) :=
  ⟨⟨⟨by decide, by decide, by decide, by decide⟩, by decide, _, rfl⟩,
    ⟨⟨by decide, by decide, by decide, by decide, by decide, by decide⟩, by decide, _, rfl⟩,
    ⟨by decide, by decide, by decide, by decide⟩, by decide, ticking_steps⟩
theorem witness_StepKeepsDuties : ticking.DutiesOk ∧ ∃ t, step ticking = .next t :=
  ⟨by unfold State.DutiesOk; decide, ticking_steps⟩
theorem witness_StepKeepsFaultList : ticking.FaultsOk ∧ ∃ t, step ticking = .next t :=
  ⟨⟨by decide, List.pairwise_singleton _ _, by decide⟩, ticking_steps⟩

/-- Every field at an end of its range. -/
theorem witness_StatusRoundTrip : ∃ c : StatusContent, c.fanStep = 3 ∧ c.dimmer = 63 ∧ c.demand = 4095 ∧
    c.supply = 200 ∧ c.shed = 3 ∧ c.battery = some (-600) ∧ c.posA = some (3, 1000) ∧ c.posB = some (0, 0) :=
  ⟨{ requests := 0, fanStep := 3, dimmer := 63, demand := 4095, supply := 200, shed := 3, station := .setup, ign := true,
     faults := ⟨true, true, true, true, true, true⟩, bulbLeft := true, bulbRight := true, battery := some (-600),
     posA := some (3, 1000), posB := some (0, 0) }, rfl, rfl, rfl, rfl, rfl, rfl, rfl, rfl⟩

/-! ### The line -/

/-- For the last clause, the join window that ends in Standby. -/
theorem witness_LineViewAndStatusTimer :
    ((at_ .awake).up = true ∧ (at_ .awake).line.inFlight = none ∧
      (flying .status status0 (at_ .awake)).line.inFlight = some ⟨.status, 0, status0.content, false⟩) ∧
    ((at_ .standby).line.periodic.isSome = true ∧ (queued .muted Queue.empty).line.sub = .muted ∧
      (queued .joined Queue.empty).line.queue.status = none ∧ (at_ .awake).line.queue.status = some status0) ∧
    (stateAfter (step (waiting .joinWindowExpiry State.reset))).map (fun t => (t.up, t.line.sub, t.ctl.state))
      = some (true, .joined, .standby) := by decide

/-- The STATUS is the most urgent of STATUS and ANNOUNCE; with an empty queue nothing is eligible. -/
theorem witness_OfferTakesMostUrgent :
    (∃ s : State, s.QueueOk ∧ s.up = true ∧ s.line.view = .idle ∧ s.line.inFlight = none ∧
      s.line.Eligible s.strapInvalid .status status0 ∧
      ∀ kind' e', s.line.Eligible s.strapInvalid kind' e' →
        FrameKind.status.urgency < kind'.urgency ∨ (FrameKind.status = kind' ∧ status0.age ≤ e'.age)) ∧
    (∃ s : State, s.QueueOk ∧ s.up = true ∧ s.line.view = .idle ∧ s.line.inFlight = none ∧
      ∀ kind e, ¬s.line.Eligible s.strapInvalid kind e) ∧ State.reset.line.view ≠ .idle := by
  refine ⟨⟨queued .joined { Queue.empty with status := some status0, announce := some announce1 },
    ⟨by decide, by decide, .nil, by decide, .nil, by decide, by decide, by decide⟩,
    by decide, rfl, rfl, ⟨rfl, ⟨rfl, rfl⟩, by decide⟩, fun kind' e' h => ?_⟩,
    ⟨queued .joined Queue.empty, ⟨by decide, by decide, .nil, by decide, .nil, by decide, by decide, by decide⟩, by decide, rfl, rfl, fun kind e h => ?_⟩, by decide⟩
  · have q := h.queued
    cases kind' <;> simp [queued, Queue.empty, FrameKind.urgency] at q ⊢
    obtain ⟨rfl, -⟩ := q; decide
  · have q := h.queued
    cases kind <;> simp [queued, Queue.empty] at q

/-- A station with one entry of each of two kinds and the one in flight. -/
def failing (sub : SubState) (q : Queue) (kind : FrameKind) (e : Entry) : State := flying kind e (queued sub q)

theorem witness_FailedAttemptUsesEntry :
    (∃ q e, (failing .joined q .status e).QueueOk ∧ (failing .joined q .status e).up = true ∧ q.status = some e ∧
      e.used + 1 < 3) ∧
    (∃ q e, (failing .joined q .announce e).QueueOk ∧ q.announce = some e ∧ e.used + 1 < 4) ∧
    (∃ q e, (failing .muted q .reply e).QueueOk ∧ e ∈ q.reply ∧ e.used + 1 < 4) ∧
    (∃ q e, (failing .joined q .flash e).QueueOk ∧ e ∈ q.flash) ∧
    (∃ q e, (failing .joined q .status e).QueueOk ∧ q.status = some e ∧ 3 ≤ e.used + 1) ∧
    (∃ q e, (failing .joined q .announce e).QueueOk ∧ q.announce = some e ∧ 4 ≤ e.used + 1) ∧
    (∃ q e, (failing .muted q .reply e).QueueOk ∧ e ∈ q.reply ∧ e.restarts = false ∧ 4 ≤ e.used + 1) ∧
    (failing .joined Queue.empty .status status0).line.run + 1 < 16 := by
  refine ⟨⟨{ Queue.empty with status := some { status0 with used := 1 } }, { status0 with used := 1 }, ?_, by decide, rfl,
      by decide⟩,
    ⟨{ Queue.empty with announce := some { announce1 with used := 2 } }, { announce1 with used := 2 }, ?_, rfl, by decide⟩,
    ⟨{ Queue.empty with reply := [reply1 2 false], nextAge := 2 }, reply1 2 false, ?_, by decide, by decide⟩,
    ⟨{ Queue.empty with flash := [flash1], nextAge := 2 }, flash1, ?_, by decide⟩,
    ⟨{ Queue.empty with status := some { status0 with used := 2 } }, { status0 with used := 2 }, ?_, rfl, by decide⟩,
    ⟨{ Queue.empty with announce := some { announce1 with used := 3 } }, { announce1 with used := 3 }, ?_, rfl, by decide⟩,
    ⟨{ Queue.empty with reply := [reply1 3 false], nextAge := 2 }, reply1 3 false, ?_, by decide, rfl, by decide⟩,
    by decide⟩ <;>
  exact ⟨by decide, by decide, by first | exact .nil | exact List.pairwise_singleton _ _, by decide,
    by first | exact .nil | exact List.pairwise_singleton _ _, by decide, by decide, by decide⟩

/-- Joined at a run of 15, Isolated and Muted. -/
theorem witness_StationIsolatedAndProbes : ∀ f : InFlight, f = ⟨.status, 0, status0.content, false⟩ →
    (∃ s : State, s.up = true ∧ s.line.sub = .joined ∧ s.line.inFlight = some f ∧ s.line.run = 15 ∧ f.kind ≠ .announce) ∧
    (queued .muted Queue.empty).up = true ∧
    (∃ s : State, s.up = true ∧ s.line.sub = .isolated ∧ s.line.isoWait.isSome = true ∧ s.line.queue.status = none) ∧
    (∃ s : State, s.up = true ∧ s.line.sub = .isolated ∧ s.line.isoWait.isSome = true ∧
      s.line.queue.status = some status0) ∧
    (∃ s : State, s.up = true ∧ s.line.sub = .isolated ∧ s.line.inFlight = some f) := by
  rintro _ rfl
  refine ⟨⟨{ at_ .awake with line := { (flying .status status0 (at_ .awake)).line with run := 15 } }, by decide⟩, by decide,
    ⟨{ at_ .awake with line := { (queued .isolated Queue.empty).line with isoWait := some 1000 } }, by decide⟩,
    ⟨{ at_ .awake with line := { (at_ .awake).line with sub := .isolated, isoWait := some 1000 } }, by decide⟩,
    ⟨failing .isolated Queue.empty .status status0, by decide⟩⟩

/-- An ANNOUNCE that collides below the run of 16, at it, and at a Muted station. -/
theorem witness_DuplicateMutes :
    ((failing .joined Queue.empty .announce announce1).up = true ∧
      (∃ s : State, s.up = true ∧ s.line.inFlight = some ⟨.announce, 1, announce1.content, false⟩ ∧ s.line.sub = .joined ∧
        s.line.run = 15) ∧
      (failing .muted Queue.empty .announce announce1).line.inFlight.isSome = true ∧
      (failing .joined Queue.empty .announce announce1).line.run + 1 < 16 ∧
      (failing .isolated Queue.empty .announce announce1).line.sub = .isolated) ∧
    ((at_ .awake).receives = true ∧ (0 : Fin 16).val = (at_ .awake).straps.number ∧ (at_ .awake).line.sub ≠ .muted ∧
      (queued .muted Queue.empty).receives = true) := by
  refine ⟨⟨by decide, ⟨{ at_ .awake with line := { (flying .announce announce1 (at_ .awake)).line with run := 15 } },
    by decide⟩, ?_⟩, ?_⟩ <;> decide

theorem witness_AttemptSucceeds :
    ((failing .joined { Queue.empty with status := some status0 } .status status0).QueueOk ∧
      (failing .isolated { Queue.empty with status := some status0 } .status status0).up = true) ∧
    (failing .joined { Queue.empty with announce := some announce1 } .announce announce1).QueueOk ∧
    (failing .muted { Queue.empty with reply := [reply1 0 false], nextAge := 2 } .reply (reply1 0 false)).QueueOk ∧
    ((failing .joined { Queue.empty with flash := [flash1], nextAge := 2 } .flash flash1).QueueOk ∧
      (failing .joined { Queue.empty with flash := [flash1], nextAge := 2 } .flash flash1).flash.phase = .idle) ∧
    (∃ s : State, s.up = true ∧ s.line.inFlight = some ⟨.flash, flash1.age, [0x40], true⟩ ∧ flash1 ∈ s.line.queue.flash ∧
      s.flash.phase = .on ∧ (decodeFlash 0x40).sides ≠ s.flash.sides) := by
  refine ⟨⟨?_, by decide⟩, ?_, ?_, ⟨?_, by decide⟩, ⟨{ at_ .awake with
    flash := { Flasher.init with phase := .on, sides := some .both, half := some 360 }
    line := { (failing .joined { Queue.empty with flash := [flash1] } .flash flash1).line with
      inFlight := some ⟨.flash, flash1.age, [0x40], true⟩ } }, by decide⟩⟩ <;>
  exact ⟨by decide, by decide, by first | exact .nil | exact List.pairwise_singleton _ _, by decide,
    by first | exact .nil | exact List.pairwise_singleton _ _, by decide, by decide, by decide⟩

/-- The REPLY's last attempt, at a run of 14 and at one of 15. -/
theorem witness_RestartOrderedAsReplyLeaves : ∀ n : Nat, n = 14 ∨ n = 15 → ∃ (s : State) (e : Entry), s.QueueOk ∧ s.up = true ∧
    s.line.inFlight = some ⟨.reply, e.age, e.content, false⟩ ∧ e ∈ s.line.queue.reply ∧ e.restarts = true ∧
    4 ≤ e.used + 1 ∧ s.line.sub = .joined ∧ s.line.run = n := by
  rintro n (rfl | rfl) <;>
  exact ⟨{ at_ .awake with line := { (failing .joined { Queue.empty with reply := [reply1 3 true], nextAge := 2 }
      .reply (reply1 3 true)).line with run := _ } }, reply1 3 true,
    ⟨by decide, by decide, .nil, by decide, List.pairwise_singleton _ _, by decide, by decide, by decide⟩, by decide, rfl,
    by decide, rfl, by decide, rfl, rfl⟩

/-- Station 0 hears station 14. -/
theorem witness_FramesDiscarded : (at_ .awake).receives = true ∧ (at_ .awake).Hears 14 ∧ (at_ .awake).strapInvalid = false :=
  ⟨by decide, ⟨by decide, by decide, by decide⟩, by decide⟩

/-- A STATUS with all three optional fields and length 14; one with length 12 and one flag; one with the fourth state. -/
theorem witness_StatusTakenIn :
    ((at_ .awake).Hears 14 ∧ (at_ .awake).peers.find 14 = some (PeerRecord.init 14)) ∧
    (∃ p : List Byte, p.length = 14 ∧ (p.getD 6 0).getLsbD 2 = true ∧ (p.getD 6 0).getLsbD 1 = true ∧
      (p.getD 6 0).getLsbD 0 = true ∧ byteAt p 6 / 16 % 4 = 2) ∧
    (∃ p : List Byte, p.length = 8 ∧ (p.getD 6 0).getLsbD 2 = false ∧ (p.getD 6 0).getLsbD 1 = false ∧
      (p.getD 6 0).getLsbD 0 = false ∧ byteAt p 6 / 16 % 4 = 0) ∧
    (∃ p : List Byte, p.length = 12 ∧ p.length ≠ 8 + 2 * ((p.getD 6 0).getLsbD 2).toNat +
      2 * ((p.getD 6 0).getLsbD 1).toNat + 2 * ((p.getD 6 0).getLsbD 0).toNat) ∧
    (∃ p : List Byte, p.length = 8 ∧ byteAt p 6 / 16 % 4 = 3) :=
  ⟨⟨⟨by decide, by decide, by decide⟩, by decide⟩,
    ⟨[0, 0, 0, 0, 0, 0, 0x27, 0, 0, 0, 0, 0, 0, 0], by decide⟩, ⟨[0, 0, 0, 0, 0, 0, 0, 0], by decide⟩,
    ⟨[0, 0, 0, 0, 0, 0, 0x04, 0, 0, 0, 0, 0], by decide⟩, ⟨[0, 0, 0, 0, 0, 0, 0x30, 0], by decide⟩⟩

/-- The Peer Table after a reset with station 1's record changed. -/
def withPeer (f : PeerRecord → PeerRecord) (s : State) : State := { s with peers := s.peers.modify 1 f }

/-- A record that is Absent, and one that is Present with another unique ID. -/
theorem witness_AnnounceTakenIn : (at_ .awake).Hears 1 ∧ (at_ .awake).peers.find 1 = some (PeerRecord.init 1) ∧
    (withPeer (fun r => { r with state := .present, uid := some 7 }) (at_ .awake)).Hears 1 ∧
    (withPeer (fun r => { r with state := .present, uid := some 7 }) (at_ .awake)).peers.find 1 =
      some { PeerRecord.init 1 with state := .present, uid := some 7 } ∧
    (some (7 : BitVec 64) ≠ some 0) :=
  ⟨⟨by decide, by decide, by decide⟩, by decide, ⟨by decide, by decide, by decide⟩, by decide, by decide⟩

/-- A station that flashes the side set `x` on hazard or on nothing else, in phase `phase`. -/
def flashes (phase : FlashPhase) : State := { at_ .awake with
  res := { Resolver.init with union := 0x0100 }
  sw := { (at_ .awake).sw with requests := 0x0100 }
  flash := { Flasher.init with phase := phase, sides := some .both, half := some 360 } }

/-- The cycle Idle; the cycle on both sides and a FLASH of left; a station in Setup. -/
theorem witness_FlashTakenIn : ((at_ .awake).Hears 1 ∧ (at_ .awake).drives = true ∧ (at_ .awake).FlashAgrees ∧
      (at_ .awake).flash.phase = .idle) ∧
    ((flashes .on).Hears 1 ∧ (flashes .on).drives = true ∧ (flashes .on).FlashAgrees ∧
      some ((0x40 : Byte).toNat / 64) ≠ (flashes .on).flash.sides.map SideSet.code) ∧
    ((at_ .setup).Hears 1 ∧ (at_ .setup).drives = false) :=
  ⟨⟨⟨by decide, by decide, by decide⟩, by decide, by unfold State.FlashAgrees; decide, by decide⟩,
    ⟨⟨by decide, by decide, by decide⟩, by decide, by unfold State.FlashAgrees; decide, by decide⟩,
    ⟨by decide, by decide, by decide⟩, by decide⟩

/-- A FLASH of both sides in an On and in an Off phase, received and the station's own. -/
theorem witness_FlashAligns : (∀ phase, phase = .on ∨ phase = .off → ∃ s : State, s.flash.phase = phase ∧ s.QueueOk ∧
      s.up = true ∧ s.drives = true ∧ s.FlashAgrees ∧ s.flash.sides = some .both ∧ s.Hears 1) ∧
    (∃ s : State, s.QueueOk ∧ s.up = true ∧ s.FlashAgrees ∧ s.flash.phase = .off ∧ s.flash.sides = some .both ∧
      s.line.inFlight = some ⟨.flash, flash1.age, [0xC0], false⟩ ∧ flash1 ∈ s.line.queue.flash ∧ s.line.sub = .joined) ∧
    (0xC0 : Byte).toNat / 64 = SideSet.both.code := by
  refine ⟨fun phase h => ?_, ⟨{ flashes .off with line :=
      (failing .joined { Queue.empty with flash := [flash1], nextAge := 2 } .flash flash1).line }, ?_, by decide,
      by unfold State.FlashAgrees; decide, by decide, by decide, by decide, by decide, by decide⟩, by decide⟩
  · rcases h with rfl | rfl <;>
    exact ⟨flashes _, rfl, ⟨by decide, by decide, .nil, by decide, .nil, by decide, by decide, by decide⟩, by decide,
      by decide, by unfold State.FlashAgrees; decide, by decide, ⟨by decide, by decide, by decide⟩⟩
  · exact ⟨by decide, by decide, List.pairwise_singleton _ _, by decide, .nil, by decide, by decide, by decide⟩

/-- A Present record at 9 missed, and at 2 missed. -/
theorem witness_RecordAges : ∀ n : Nat, n = 9 ∨ n = 2 → ∃ (s : State) (r : PeerRecord), s.up = true ∧
    s.peers.find (1 : Fin 15).val = some r ∧ r.ageing.isSome = true ∧ r.missed = n ∧ r.state = .present := by
  rintro n (rfl | rfl)
  · exact ⟨withPeer (fun r => { r with state := .present, missed := 9, ageing := some 100 }) (at_ .awake),
      { PeerRecord.init 1 with state := .present, missed := 9, ageing := some 100 }, by decide⟩
  · exact ⟨withPeer (fun r => { r with state := .present, missed := 2, ageing := some 100 }) (at_ .awake),
      { PeerRecord.init 1 with state := .present, missed := 2, ageing := some 100 }, by decide⟩

/-! ### Inputs and measurement -/

/-- Switch input 0 with this Switch Map entry and this state. -/
def withSwitch (e : SwitchEntry) (x : SwitchState) (s : State) : State :=
  { s with cfg := { s.cfg with switches := s.cfg.switches.set 0 e }, sw := { s.sw with inputs := s.sw.inputs.set 0 x } }

/-- Switch input 0 enabled in a mode. -/
def enabled (mode : Nat) : SwitchEntry := ⟨true, false, true, mode, 11, 20⟩

/-- The last two parts: a transition to closed in Standby; the hand-ons of a change of the functions, and of none. -/
theorem witness_InputsDebounced :
    ((withSwitch (enabled 0) (SwitchState.init none) (at_ .awake)).up = true ∧
      (withSwitch (enabled 0) (SwitchState.init none) (at_ .awake)).raw 0 ≠ .closed ∧
      (at_ .awake).cfg.switches[(0 : Fin 8)].enabled = false ∧ asleep.up = false ∧
      (withSwitch (enabled 0) (SwitchState.init none) (at_ .awake)).raw 0 = .opened ∧ (at_ .awake).pins.ign ≠ true ∧
      (at_ .awake).pins.ign = false) ∧
    (∀ mode ∈ [0, 1, 2],
      (withSwitch (enabled mode) ⟨.opened, some 20, false, none, .opened⟩ (at_ .awake)).sw.inputs[(0 : Fin 8)].debounce.isSome
        = true) ∧
    (withSwitch (enabled 2) ⟨.opened, none, false, some 20000, .opened⟩ (at_ .awake)).sw.inputs[(0 : Fin 8)].hold.isSome
      = true ∧
    (at_ .awake).sw.ignDebounce.isSome = true ∧
    (∃ s : State, s.up = true ∧ s.ctl.state = .standby ∧ s.sw.inputs[(0 : Fin 8)].debounce.isSome = true ∧
      s.sw.inputs[(0 : Fin 8)].accepted = .opened ∧ s.raw 0 = .closed) ∧
    (∃ before : State, ((at_ .standby).settle before false).ctl.state = .standby ∧
      before.res.eff.byCode 10 ≠ ((at_ .standby).settle before false).res.eff.byCode 10) ∧
    (((at_ .standby).settle (at_ .standby) false).ctl.state = .standby ∧
      ∀ k, k < 14 → ((at_ .standby).settle (at_ .standby) false).res.eff.byCode k = (at_ .standby).res.eff.byCode k) := by
  refine ⟨by decide, by decide, by decide, by decide,
    ⟨{ withSwitch (enabled 0) ⟨.opened, some 20, false, none, .opened⟩ (at_ .standby) with
      pins := ⟨Vector.replicate 8 .earth, false⟩ }, by decide⟩,
    ⟨{ at_ .standby with res := { Resolver.init with eff := { Resolver.init.eff with interior := true } } }, by decide⟩,
    by decide⟩

/-- A state in slot `k` of a pass, at a station with a shunt. -/
def inSlot (k : Nat) (m : Measurement) : State :=
  { at_ .awake with cfg := { (at_ .awake).cfg with shunt := true }, meas := { m with slot := some k } }

/-- Channel `i` of `s` with this Channel Map entry, in this state. -/
def withChannel (i : Fin 8) (e : ChannelEntry) (c : Channel) (s : State) : State :=
  { s with
    cfg := { s.cfg with channels := s.cfg.channels.set i e }, out := { s.out with channels := s.out.channels.set i c } }

def lamp : ChannelEntry := { ChannelEntry.default with kind := .lamp, function := 11, cls := 1, openLimit := 10 }
def indicator : ChannelEntry := { lamp with kind := .flashLamp, side := .right }
def blower : ChannelEntry := { lamp with kind := .motor, cls := 3 }
def lit : Channel := { Channel.init with state := .on, command := .steady 1000, duty := 1000, runTimer := some 10000 }

/-- The first, the battery and the last slot of a pass, and a lit channel's at its hard limit. -/
theorem witness_SampleJoinsBlock : (at_ .awake).meas.passTimer.isSome = true ∧
    (∀ k : Fin 15, (inSlot k Measurement.init).up = true ∧
      ((inSlot k Measurement.init).meas.record (slotInput k)).count + 1 <
        (slotInput k).blockLength (inSlot k Measurement.init).cfg.ni) ∧
    (withChannel 7 lamp lit (inSlot 10 Measurement.init)).hardApplies 7 = true ∧
    (0 ≤ (100 : Int) ∧ (100 : Int) ≤ lamp.hardLimit ∧ (100 : Int) ≤ 400) := by decide

/-- A measurement unit with every block one sample from its end. -/
def nearlyDone : Measurement := { Measurement.init with
  supply := { Record.init with count := 15, sum := 19500 }, die := { Record.init with count := 15, sum := 2100 }
  battery := { Record.init with count := 15 }
  channels := Vector.replicate 8 ⟨{ Record.init with count := 3, sum := 3 }, .restarted⟩
  senders := Vector.replicate 4 ⟨{ Record.init with count := 63, sum := 6300 }, 1, 1, false, false⟩ }

theorem witness_SampleCompletesBlock : ∀ k : Fin 15, (inSlot k nearlyDone).up = true ∧
    (slotInput k).blockLength (inSlot k nearlyDone).cfg.ni ≤ ((inSlot k nearlyDone).meas.record (slotInput k)).count + 1 := by
  decide

/-- `s` with its IGN input on, IGN following it. -/
def ignited (s : State) : State :=
  { s with sw := { s.sw with ignAccepted := .closed }, res := { s.res with ign := true } }

/-- Crank hold in force, crank hold entered at this average with IGN on and START requested, and neither; a battery block
with IGN on and off; the hand-ons of crank hold's end, and of IGN as it goes off and comes on. -/
theorem witness_SupplyAndThermalJudged :
    ((inSlot 0 nearlyDone).up = true ∧ 15 ≤ (inSlot 0 nearlyDone).meas.supply.count ∧
      (inSlot 0 nearlyDone).supply.crank = false ∧ (inSlot 0 nearlyDone).res.ign = false) ∧
    ({ inSlot 0 nearlyDone with supply := { Supply.init with crank := true } } : State).supply.crank = true ∧
    (({ inSlot 0 nearlyDone with res := { Resolver.init with ign := true, union := 0x4000 } } : State).res.ign = true ∧
      ({ inSlot 0 nearlyDone with res := { Resolver.init with ign := true, union := 0x4000 } } : State).res.union.getLsbD 14
        = true) ∧
    (15 ≤ (inSlot 1 nearlyDone).meas.die.count ∧ roundDiv ((inSlot 1 nearlyDone).meas.die.sum + 160) 16 = 141) ∧
    ((∃ s : State, s.up = true ∧ s.ResolverOk ∧ s.meas.slot = some 2 ∧ s.cfg.shunt = true ∧ 15 ≤ s.meas.battery.count ∧
        s.res.ign = true) ∧
      (inSlot 2 nearlyDone).ResolverOk ∧ (inSlot 2 nearlyDone).res.ign = false) ∧
    (∃ s : State, s.supply.crank = true ∧ s.supply.release = none ∧ (s.settle s false).res.ign = false) ∧
    (∃ s : State, s.res.ign = true ∧ (s.settle s false).res.ign = false) ∧
    (∃ s : State, s.res.ign = false ∧ (s.settle s false).res.ign = true) := by
  refine ⟨by decide, by decide, by decide, by decide,
    ⟨⟨ignited (inSlot 2 nearlyDone), by decide,
        resolverOk_of rfl rfl (by decide) rfl rfl rfl rfl (by decide), by decide⟩,
      resolverOk_of rfl rfl (by decide) rfl rfl rfl rfl (by decide), by decide⟩,
    ⟨{ at_ .awake with supply := { (at_ .awake).supply with crank := true } }, by decide⟩,
    ⟨{ at_ .awake with res := { Resolver.init with ign := true } }, by decide⟩,
    ⟨{ at_ .standby with sw := { (at_ .standby).sw with ignAccepted := .closed } }, by decide⟩⟩

/-- Sender input 0 with this entry. -/
def withSender (e : SenderEntry) (s : State) : State := { s with cfg := { s.cfg with senders := s.cfg.senders.set 0 e } }

def ladder : SenderEntry := ⟨.ladder, 1, 0, 1, [10, 320, 0, 0, 0, 0, 0, 0, 20, 300, 0, 0, 0, 0, 0, 0]⟩

/-- The four modes, a ladder in its band and out of it; a known open class that becomes closed in Standby. -/
theorem witness_SenderBlockJudged :
    (∀ mode ∈ [SenderMode.off, .resistive, .switch, .ladder],
      (withSender { ladder with mode := mode } (inSlot 11 nearlyDone)).up = true ∧
      63 ≤ (withSender { ladder with mode := mode } (inSlot 11 nearlyDone)).meas.senders[(0 : Fin 4)].base.count) ∧
    bandOf ladder.bands 0 163 = some 0 ∧ bandOf ladder.bands 0 1023 = none ∧
    (2 * ladder.count ≤ ladder.words.length ∧ ladder.words.getD 8 0 ≠ ladder.words.getD 9 0) ∧
    (∃ s : State, s.up = true ∧ s.meas.slot = some 11 ∧ 63 ≤ s.meas.senders[(0 : Fin 4)].base.count ∧
      s.cfg.senders[(0 : Fin 4)].mode = .switch ∧ s.sw.senders[(0 : Fin 4)].contact = .opened ∧
      roundDiv (s.meas.senders[(0 : Fin 4)].base.sum + max 0 (min 1023 0)) 64 < 20 ∧
      (stateAfter (exec (.sample 0) s)).map (·.ctl.state) = some .standby) := by
  refine ⟨by decide, by decide, by decide, by decide, { withSender { ladder with mode := .switch, target := 11 } (at_ .standby) with
    meas := { nearlyDone with
      slot := some 11, senders := Vector.replicate 4 ⟨{ Record.init with count := 63 }, 0, 0, false, false⟩ }
    sw := { (at_ .standby).sw with
      senders := Vector.replicate 4 { (at_ .standby).sw.senders[(0 : Fin 4)] with contact := .opened } } }, by decide⟩

/-- A reading that leaves the average below the open-load limit, one that does not, and one that trips. -/
theorem witness_BulbCheckDetects : (withChannel 0 indicator lit (inSlot 3 nearlyDone)).up = true ∧
    (withChannel 0 indicator lit (inSlot 3 nearlyDone)).FlashAgrees ∧
    (withChannel 0 indicator lit (inSlot 3 nearlyDone)).meas.channels[(0 : Fin 8)].mark = .restarted ∧
    (withChannel 0 indicator lit (inSlot 3 nearlyDone)).cfg.ni ≤ 3 + 1 ∧
    roundDiv (3 + 0) 4 < indicator.openLimit ∧ (indicator.openLimit : Int) ≤ roundDiv (3 + 100) 4 ∧
    (100 : Int) ≤ indicator.hardLimit ∧ (indicator.hardLimit : Int) < 101 ∧ lit.state = .on :=
  ⟨by decide, by unfold State.FlashAgrees; decide, by decide⟩

/-! ### Channels -/

/-- Retries left, none left on a Persist and on a Latch channel, and a channel in Test; the Motor channel turning and in
Test; a sample that joins its block, and one that completes a directed block above the open-load limit. -/
theorem witness_ChannelTrips :
    (∀ c ∈ [{ lit with overTimer := some 1000 }, { lit with overTimer := some 1000, retry := 3 },
        { lit with overTimer := some 1000, state := .test, testTimer := some 100 }],
      (withChannel 7 lamp c (inSlot 10 Measurement.init)).up = true ∧ c.overTimer.isSome = true ∧
      (c.state = .on ∨ c.state = .test)) ∧
    min (0 + 1) 255 ≤ lamp.retryLimit ∧ lamp.retryLimit < min (3 + 1) 255 ∧ lamp.exhaustion = .latch ∧
    ({ lamp with exhaustion := .persist } : ChannelEntry).exhaustion = .persist ∧
    (withChannel 7 lamp lit (inSlot 10 Measurement.init)).meas.channels[(7 : Fin 8)].base.count + 1 <
      (inSlot 10 Measurement.init).cfg.ni ∧
    (lamp.hardLimit : Int) < 101 ∧ (400 : Int) < 401 ∧
    (∀ st ∈ [FanState.ramping, .running, .test],
      ({ withChannel 7 blower Channel.init (inSlot 10 nearlyDone) with fan := { Fan.init with state := st } } : State).up
        = true) ∧ min (0 + 1) 255 ≤ blower.retryLimit ∧ blower.kind = .motor ∧
    ((inSlot 10 nearlyDone).cfg.ni ≤ (inSlot 10 nearlyDone).meas.channels[(7 : Fin 8)].base.count + 1 ∧
      (lamp.openLimit : Int) ≤ roundDiv (3 + max 0 (min 400 101)) (inSlot 10 nearlyDone).cfg.ni) := by decide

/-- The holds that stand after a reset, and none. -/
def released (s : State) : State :=
  { s with supply := { s.supply with holds := ⟨⟨false, none⟩, ⟨false, none⟩, ⟨false, none⟩⟩ } }

/-- Before the last part a completed block of a Lamp in On, checked, and of a Motor channel in Test; the last part: the
hand-ons with every channel state, under a hold and none, a shed order and none, and with each command. -/
theorem witness_ChannelTimersExpire :
    (withChannel 0 lamp
      { lit with state := .inrush, window := some 100, openTimer := some 1000, testTimer := some 100 } (at_ .awake)).up
      = true ∧
    (at_ .awake).supply.held lamp.cls = true ∧ (released (at_ .awake)).supply.held lamp.cls = false ∧
    (∀ cmd ∈ [Command.off, .flashOff, .steady 500, .flashOn],
      (withChannel 0 lamp { Channel.init with state := .tripped, command := cmd, retryWait := some 1000 }
        (released (at_ .awake))).up = true) ∧
    (Command.steady 500).lit = true ∧ 0 < lamp.inrush ∧ ({ lamp with inrush := 0 } : ChannelEntry).inrush = 0 ∧
    ((withChannel 0 lamp lit (inSlot 3 nearlyDone)).up = true ∧
      (lamp.openLimit : Int) ≤ roundDiv (3 + max 0 (min 400 100)) 4 ∧ (100 : Int) ≤ lamp.hardLimit ∧
      (inSlot 3 nearlyDone).cfg.ni = 4 ∧ lit.state = .on ∧ lit.command = .steady 1000 ∧ 0 < lamp.openLimit ∧
      (inSlot 3 nearlyDone).supply.order lamp.cls = .normal) ∧
    ({ withChannel 0 blower Channel.init (inSlot 3 nearlyDone) with fan := { Fan.init with state := .test } } : State).up
      = true ∧
    ((∀ st ∈ [ChannelState.off, .inrush, .on, .dark, .shed, .tripped, .locked, .test],
        (withChannel 0 lamp { lit with state := st } (at_ .awake)).drives = true) ∧ (at_ .setup).drives = false ∧
      (∀ s : State, s = at_ .awake → (s.settle s false).supply.held 1 = true ∧ (s.settle s false).supply.order 1 = .normal) ∧
      (∀ s : State, s = released (at_ .awake) → (s.settle s false).supply.held 1 = false) ∧
      (∀ s : State, s = { at_ .awake with supply := { (at_ .awake).supply with a := 3 } } →
        (s.settle s false).supply.order 1 = .shed) ∧
      (∀ s : State, s = withChannel 0 lamp lit (at_ .awake) → (s.settle s false).out.channels[(0 : Fin 8)].command = .off) ∧
      (∀ s : State, s = { withChannel 0 lamp lit (at_ .awake) with sw := { (at_ .awake).sw with requests := 0x1000 } } →
        (s.settle s false).out.channels[(0 : Fin 8)].command = .steady 1000) ∧
      (∀ s : State, s = withChannel 0 indicator lit (flashes .on) →
        (s.settle s true).out.channels[(0 : Fin 8)].command = .flashOn) ∧
      (∀ s : State, s = withChannel 0 indicator lit (flashes .off) →
        (s.settle s false).out.channels[(0 : Fin 8)].command = .flashOff)) := by
  refine ⟨by decide, by decide, by decide, by decide, by decide, by decide, by decide, by decide, by decide, by decide,
    by decide, ?_, ?_, ?_, ?_, ?_, ?_, ?_⟩ <;> (rintro _ rfl; decide)

/-! ### The flash cycle, the supply and the fan -/

theorem witness_HalfTimerChangesPhase : (∀ phase, phase = .on ∨ phase = .off →
      ∃ s : State, s.flash.phase = phase ∧ s.QueueOk ∧ s.up = true ∧ s.drives = true ∧ s.FlashAgrees ∧
        s.flash.half.isSome = true ∧ s.flash.sides = some .both ∧ s.line.sub = .joined) ∧
    (queued .muted Queue.empty).line.sub ≠ .joined := by
  refine ⟨fun phase h => ?_, by decide⟩
  rcases h with rfl | rfl <;>
  exact ⟨flashes _, rfl, ⟨by decide, by decide, .nil, by decide, .nil, by decide, by decide, by decide⟩, by decide,
    by decide, by unfold State.FlashAgrees; decide, by decide, by decide, by decide⟩

/-- No change; to empty; from Idle to both sides; from both sides in On and in Off to the left. -/
theorem witness_FlashCycleFollowsSides :
    ((flashes .on).drives = true ∧ (flashes .on).FlashOk ∧ (flashes .on).FlashAgrees) ∧
    (∃ s : State, s.drives = true ∧ s.FlashOk ∧ s.flash.sides ≠ none ∧
      sideSetFrom (effFlashL (unionOf s.sw.requests s.peers) false) (effFlashR (unionOf s.sw.requests s.peers) false) = none ∧
      ignOf s.cfg.ignFromLine s.ignInput s.peers = false) ∧
    (∃ s : State, s.drives = true ∧ s.FlashOk ∧ s.flash.phase = .idle ∧ ignOf s.cfg.ignFromLine s.ignInput s.peers = false ∧
      sideSetFrom (effFlashL (unionOf s.sw.requests s.peers) false) (effFlashR (unionOf s.sw.requests s.peers) false)
        = some .both) ∧
    (∀ phase, phase = .on ∨ phase = .off → ∃ s : State, s.flash.phase = phase ∧ s.drives = true ∧ s.FlashOk ∧
      s.flash.sides = some .both ∧ ignOf s.cfg.ignFromLine s.ignInput s.peers = true ∧
      sideSetFrom (effFlashL (unionOf s.sw.requests s.peers) true) (effFlashR (unionOf s.sw.requests s.peers) true)
        = some .left) := by
  refine ⟨⟨by decide, ⟨by decide, by decide, by decide⟩, by unfold State.FlashAgrees; decide⟩,
    ⟨{ flashes .on with sw := (at_ .awake).sw }, by decide, ⟨by decide, by decide, by decide⟩, by decide, by decide,
      by decide⟩,
    ⟨{ at_ .awake with sw := (flashes .on).sw }, by decide, ⟨by decide, by decide, by decide⟩, by decide, by decide,
      by decide⟩, fun phase h => ?_⟩
  rcases h with rfl | rfl <;>
  exact ⟨{ flashes _ with sw := { (at_ .awake).sw with requests := 0x0040, ignAccepted := .closed } }, rfl, by decide,
    ⟨by decide, by decide, by decide⟩, by decide, by decide, by decide⟩

/-- A persistence timer running, with crank hold and without. -/
theorem witness_PersistenceTimerApplies : ∀ (p : PersTimer) (crank : Bool), ∃ s : State, s.up = true ∧ s.ResolverOk ∧
    s.supply.timer p = .running ∧ s.supply.crank = crank := by
  intro p crank
  refine ⟨{ at_ .awake with supply := { (at_ .awake).supply with timers := Vector.replicate 12 .running, crank := crank } },
    rfl, resolverOk_of rfl rfl (by show (false = true) ↔ (Contact.undetermined = .closed); decide) rfl rfl rfl rfl ?_, ?_, rfl⟩
  · show ∀ r ∈ (at_ .awake).peers.records, _
    decide
  · cases p <;> rfl

theorem at_resolverOk (st : StationState) : (at_ st).ResolverOk := by
  refine resolverOk_of rfl rfl (by show (false = true) ↔ (Contact.undetermined = .closed); decide) rfl rfl rfl rfl ?_
  show ∀ r ∈ State.reset.peers.records, _
  decide

/-- Station 1 as a Present peer with a battery current. -/
def peerWithShunt : State :=
  withPeer (fun r => { r with state := .present, dimmer := 63, battery := some (-35), ageing := some 100 }) (at_ .standby)

/-- With the own shunt (accumulator at its top), with none and no peer's current, and with a peer's current. -/
theorem witness_DrainTickAccumulates :
    (∃ s : State, s.up = true ∧ s.ResolverOk ∧ s.supply.drainTick.isSome = true ∧ s.cfg.shunt = true ∧
      s.supply.drain = 2147483647) ∧
    ((at_ .standby).up = true ∧ (at_ .standby).ResolverOk ∧ (at_ .standby).supply.drainTick.isSome = true ∧
      (at_ .standby).cfg.shunt = false ∧ (∀ r ∈ (at_ .standby).peers.records, r.state = .present → r.battery = none)) ∧
    (peerWithShunt.up = true ∧ peerWithShunt.ResolverOk ∧ peerWithShunt.supply.drainTick.isSome = true ∧
      ∃ r ∈ peerWithShunt.peers.records, r.state = .present ∧ r.battery.isSome = true) := by
  refine ⟨⟨{ at_ .standby with cfg := { (at_ .standby).cfg with shunt := true }
                               supply := { (at_ .standby).supply with drain := 2147483647 } },
      by decide, resolverOk_of rfl rfl (by decide) rfl rfl rfl rfl (by decide), by decide, by decide, by decide⟩,
    ⟨by decide, at_resolverOk _, by decide, by decide, by decide⟩,
    ⟨by decide, resolverOk_of rfl rfl (by decide) rfl rfl rfl rfl (by decide), by decide, by decide⟩⟩

/-- The last four parts: in the hand-ons class 3 leaves shed, becomes shed, and leaves it in Starting; class 1 stays. -/
theorem witness_SupplyTimersEnd :
    ({ at_ .awake with supply := { Supply.init with crank := true, release := some 2000 } } : State).supply.release.isSome
      = true ∧ (at_ .awake).up = true ∧
    ({ at_ .awake with supply := { Supply.init with holds :=
      ⟨⟨true, some 50⟩, ⟨true, some 50⟩, ⟨true, some 50⟩⟩ } } : State).supply.holds.three.timer.isSome = true ∧
    (∀ st ∈ [StationState.awake, .starting], ∀ s : State,
      s = { at_ st with supply := { (at_ st).supply with orders := ⟨.normal, .normal, .shed⟩ } } →
      (s.settle s false).supply.orders = ⟨.normal, .normal, .normal⟩) ∧
    (∀ s : State, s = { at_ .awake with supply := { (at_ .awake).supply with a := 1 } } →
      s.supply.orders.three = .normal ∧ (s.settle s false).supply.orders = ⟨.normal, .limited, .shed⟩) := by
  refine ⟨by decide, by decide, by decide, fun st h => ?_, ?_⟩
  · rintro _ rfl
    revert st; decide
  · rintro _ rfl
    decide

/-- A fan in a state at a target step, its channel 0 in class 3. -/
def fanAt (st : FanState) (target veff : Nat) : State :=
  { withChannel 0 blower Channel.init (at_ .awake) with
    sw := { (at_ .awake).sw with fanStep := target }, res := { Resolver.init with fanStep := target }
    fan := { Fan.init with state := st, resolved := target, target := target, veff := veff, ramp := some 100 } }

/-- Not Ramping; up to the target; down to 0; part of the way. -/
theorem witness_RampUpdateMoves : (fanAt .ramping 1 0).up = true ∧ (fanAt .ramping 1 0).fan.ramp.isSome = true ∧
    (fanAt .stalled 1 0).fan.state ≠ .ramping ∧
    (min (540 + (fanAt .ramping 1 540).cfg.rampRate) (fanAt .ramping 1 540).cfg.v1 = 600) ∧
    (max (60 - (fanAt .ramping 0 60).cfg.rampRate) 0 = 0) ∧
    (min (0 + (fanAt .ramping 1 0).cfg.rampRate) (fanAt .ramping 1 0).cfg.v1 ≠ 600) := by decide

/-- A fan that turns in a deferral while class 3 is shed. -/
def deferredFan : State := { fanAt .running 1 600 with
  supply := { (at_ .awake).supply with c := 3, localLevel := 3, effective := 3, orders := ⟨.shed, .shed, .shed⟩ }
  fan := { (fanAt .running 1 600).fan with deferral := some 3000 } }

theorem deferredFan_ok : deferredFan.SupplyOk ∧ deferredFan.ResolverOk := by
  refine ⟨⟨fun _ => rfl, fun _ => by decide, fun _ => by decide, fun _ => ⟨by decide, ?_, .inl rfl⟩, fun _ => rfl⟩,
    resolverOk_of rfl rfl (by decide) rfl rfl rfl rfl (by decide)⟩
  intro r h k
  have : ∀ r ∈ deferredFan.peers.records, r.shed ≤ deferredFan.supply.effective := by decide
  exact this r h

/-- Section 8.7 at 31.80 s: step 3 capped at 1 in a deferral, and E comes to 2. -/
def cappedFan : State := { fanAt .running 1 600 with
  cfg := { (fanAt .running 1 600).cfg with
    channels := (fanAt .running 1 600).cfg.channels.set 0 { blower with cls := 2 } }
  sw := { (at_ .awake).sw with fanStep := 3 }, res := { Resolver.init with fanStep := 3 }
  supply := { (at_ .awake).supply with a := 2, localLevel := 1, effective := 1, orders := ⟨.normal, .limited, .shed⟩ }
  fan := { (fanAt .running 1 600).fan with resolved := 3, deferral := some 2000, runTimer := some 10000, capped := true } }

set_option maxRecDepth 20000 in
/-- A deferred shed cause leaves no trace on a fan that the limited order capped: Running at step 1 (R155, section 8.7). -/
theorem test_deferred_cap_stays : (fun t : State => (t.fan.state, t.fan.target, t.fan.runTimer, t.supply.order 2))
    (cappedFan.settle cappedFan false) = (.running, 1, some 10000, .shed) := by decide

set_option maxRecDepth 20000 in
/-- The deferral's end then suspends it with step 3 remembered (R155, section 8.7 at 32.05 s). -/
theorem test_deferral_end_suspends : (stateAfter (exec .deferralEnd (cappedFan.settle cappedFan false))).map
    (fun t => (t.fan.state, t.fan.remembered, t.fan.veff)) = some (.suspended, some 3, 0) := by decide

/-- The third stall and an earlier one; the deferral's end; the waits under a shed order, a hold and neither; a completed
block of the turning Motor channel; the hand-ons in every fan state, with the target that becomes 0 and with another. -/
theorem witness_FanTimersExpire :
    ((fanAt .running 1 600).up = true ∧ (fanAt .running 1 600).motor = some 0 ∧
      ({ fanAt .running 1 600 with fan := { (fanAt .running 1 600).fan with
        runTimer := some 10000, stallTimer := some 300, stallCount := 2 } } : State).fan.stallCount + 1 = 3 ∧
      (fanAt .ramping 1 0).fan.stallCount + 1 < 3) ∧
    (deferredFan.up = true ∧ deferredFan.motor = some 0 ∧ deferredFan.SupplyOk ∧ deferredFan.ResolverOk ∧
      deferredFan.drives = true ∧ deferredFan.fan.deferral.isSome = true ∧ deferredFan.res.fanStep ≠ 0 ∧
      deferredFan.supply.order deferredFan.cfg.channels[(0 : Fin 8)].cls = .shed) ∧
    ((fanAt .stalled 1 0).motor = some 0 ∧ (fanAt .tripped 1 0).motor = some 0 ∧
      (fanAt .stalled 1 0).supply.held 3 = true ∧ (released (fanAt .stalled 1 0)).supply.held 3 = false ∧
      (fanAt .stalled 1 0).supply.order 3 ≠ .shed ∧ (fanAt .stalled 1 0).supply.crank = false ∧
      (fanAt .stalled 0 0).fan.target = 0) ∧
    (∃ s : State, s.up = true ∧ s.motor = some 0 ∧ s.fan.state = .running ∧ s.meas.slot = some 3 ∧
      s.cfg.ni ≤ s.meas.channels[(0 : Fin 8)].base.count + 1 ∧ (100 : Int) ≤ s.cfg.channels[(0 : Fin 8)].hardLimit ∧
      (s.cfg.channels[(0 : Fin 8)].openLimit : Int) ≤ roundDiv (s.meas.channels[(0 : Fin 8)].base.sum + 100) s.cfg.ni) ∧
    (cappedFan.drives = true ∧ cappedFan.motor = some 0 ∧ cappedFan.fan.state = .running ∧
      cappedFan.fan.deferral.isSome = true ∧ cappedFan.fan.capped = true ∧
      (cappedFan.settle cappedFan false).supply.order 2 = .shed ∧
      (cappedFan.settle cappedFan false).supply.crank = false ∧ (cappedFan.settle cappedFan false).res.fanStep ≠ 0) ∧
    (∀ st ∈ [FanState.off, .ramping, .running, .suspended, .stalled, .tripped, .locked, .test],
      (fanAt st 1 0).drives = true ∧ (fanAt st 1 0).motor = some 0) ∧
    (∃ s : State, s.drives = true ∧ s.motor = some 0 ∧ s.fan.state = .suspended ∧ s.fan.target ≠ 0 ∧
      (s.settle s false).res.fanStep = 0) :=
  ⟨by decide, ⟨by decide, by decide, deferredFan_ok.1, deferredFan_ok.2, by decide, by decide, by decide, by decide⟩,
    by decide, ⟨{ fanAt .running 1 600 with meas := { nearlyDone with slot := some 3 } }, by decide⟩, by decide, by decide,
    ⟨{ fanAt .suspended 1 0 with sw := (at_ .awake).sw }, by decide⟩⟩

/-! ### The gauges -/

/-- Gauge 0 with a Gauge Map entry. -/
def withGauge (g : GaugeEntry) (s : State) : State := { s with cfg := { s.cfg with gauges := s.cfg.gauges.set 0 g } }

def gauge (kind : GaugeKind) (source number : Nat) : GaugeEntry :=
  { GaugeEntry.default false with kind := kind, sourceType := source, number := number }

def resistiveDone : Measurement :=
  { nearlyDone with senders := Vector.replicate 4 ⟨{ Record.init with valid := true }, 0, 0, false, false⟩ }

/-- Each source: a sender not Resistive, Resistive without and with a value; a peer without a record, Present, Stale and
Lost; a battery current known and estimated; the supply not valid and valid. -/
theorem witness_GaugeSourcesRead :
    (({ at_ .awake with supply := { Supply.init with crank := true } } : State).gauges.update.isSome = true) ∧
    ((withGauge (gauge .thermal 0 0) (at_ .awake)).drives = true ∧ (at_ .awake).up = true ∧
      (at_ .awake).supply.crank = false ∧ (at_ .awake).cfg.senders[(0 : Fin 4)].mode ≠ .resistive) ∧
    (withSender { ladder with mode := .resistive } (inSlot 0 nearlyDone)).meas.senders[(0 : Fin 4)].base.valid = false ∧
    (withSender { ladder with mode := .resistive } (inSlot 0 resistiveDone)).meas.senders[(0 : Fin 4)].base.valid = true ∧
    (at_ .awake).peers.find 0 = none ∧
    (∀ st ∈ [PeerState.absent, .present, .stale, .lost],
      ((withPeer (fun r => { r with state := st, posA := some (1, 643) }) (at_ .awake)).peers.find 1).map (·.posA)
        = some (some (1, 643))) ∧
    (at_ .awake).batteryReference = none ∧ peerWithShunt.batteryReference = some (-35) ∧
    (at_ .awake).meas.supply.valid = false ∧
    (inSlot 0 { nearlyDone with supply := { Record.init with valid := true } }).meas.supply.valid = true ∧
    ((at_ .awake).PeersOk ∧ (inSlot 0 { nearlyDone with battery := { Record.init with valid := true } }).PeersOk ∧
      peerWithShunt.PeersOk) ∧
    (∃ r ∈ peerWithShunt.peers.records, r.state = .present ∧ r.battery = some (-35) ∧
      ∀ q ∈ peerWithShunt.peers.records, q.state = .present → q.battery.isSome = true → r.number ≤ q.number) ∧
    ([(40, 1000), (70, 750), (140, 500)] : List (Nat × Nat)).Pairwise (fun p q => p.1 < q.1) ∧
    ([(480, 0), (360, 250)] : List (Nat × Nat)).Pairwise (fun p q => q.1 < p.1) := by
  unfold State.PeersOk; decide

/-- A Thermal and a coil gauge at both ends of k. -/
theorem witness_GaugeDampedAndDriven : ∀ g ∈ [{ gauge .thermal 3 0 with k := 1 }, { gauge .coilEnd 3 0 with k := 256 },
      { gauge .coilCentre 2 0 with k := 32 }],
    (withGauge g (at_ .awake)).up = true ∧ (withGauge g (at_ .awake)).drives = true ∧
      (withGauge g (at_ .awake)).gauges.update.isSome = true ∧ (withGauge g (at_ .awake)).supply.crank = false ∧
      (withGauge g (at_ .awake)).cfg.gauges[(0 : Fin 4)].kind ≠ .off ∧ 1 ≤ g.k ∧ g.k ≤ 256 := by decide

/-! ### Station Control -/

/-- A blank store, and the default configuration's image with its check in place. -/
def checked : Memory := (Memory.ofBytes (WorkingConfig.default false).bytes).withCheck

set_option maxRecDepth 100000 in
theorem witness_ResetsSetSupply_load : (∀ a, a < 512 → (⟨[]⟩ : Memory).read a = 0xFF) ∧ checked.read 0 ≠ 0xFF ∧
    (checked.read 510).toNat * 256 + (checked.read 511).toNat = (crc16 (checked.bytes 510)).toNat := by
  refine ⟨fun _ _ => rfl, by decide, by decide +kernel⟩

theorem witness_ResetsSetSupply :
    (({ at_ .setup with svc := { (at_ .setup).svc with restartOrdered := true } } : State).ctl.powered = true) ∧
    (asleep.sleeping = true ∧ asleep.supply.c ≤ 3 ∧
      ({ asleep with supply := { asleep.supply with c := 3 } } : State).sleeping = true) ∧
    (({ asleep with ctl := { asleep.ctl with wake := .wait } } : State).live = true ∧ asleep.ctl.state = .asleep) := by
  decide

theorem witness_ResetsEnterStarting : (at_ .awake).ctl.powered = true ∧
    ({ at_ .setup with svc := { (at_ .setup).svc with restartOrdered := true } } : State).svc.restartOrdered = true := by
  decide

/-- The join window at stations 0 and 14; a quiet timer with IGN on; the hand-ons as IGN goes off and comes on, and with
no change. -/
theorem witness_StationTimersExpire :
    (State.reset.up = true ∧ State.reset.straps.number = 0 ∧ State.reset.ctl.state = .starting ∧
      State.reset.ctl.join.isSome = true ∧ ticking.ResolverOk) ∧
    ({ State.reset with straps := ⟨14, false⟩ } : State).straps.number < 15 ∧
    ((at_ .standby).ctl.quiet.isSome = true ∧
      ({ at_ .standby with res := { Resolver.init with ign := true } } : State).res.ign = true) ∧
    (((at_ .awake).settle (at_ .awake) false).res.ign = false ∧
      ((ignited (at_ .standby)).settle (at_ .standby) false).res.ign = true ∧
      ((at_ .standby).settle (at_ .standby) false).res.ign = false) :=
  ⟨⟨by decide, by decide, by decide, by decide, ticking_resolverOk⟩, by decide, by decide, by decide⟩

theorem witness_QuietStationSleeps : (at_ .standby).up = true ∧ (at_ .standby).ctl.state = .standby ∧
    (at_ .standby).ctl.quiet.isSome = true ∧ (∀ n, n < 14 → (at_ .standby).res.eff.byCode n = false) ∧
    (at_ .standby).res.ign = false ∧ (∀ r ∈ (at_ .standby).peers.records, r.state = .present → r.station ≠ .awake) ∧
    (∃ s : State, s.up = true ∧ s.ctl.state = .standby ∧ ∃ e ∈ s.line.queue.reply, e.restarts = true) ∧
    (∀ e ∈ (at_ .standby).line.queue.reply, e.restarts = false) := by
  refine ⟨by decide, by decide, by decide, by decide, by decide, by decide, ⟨{ at_ .standby with
    line := { (at_ .standby).line with queue := { Queue.empty with reply := [reply1 0 true] } } }, by decide⟩, by decide⟩

/-- A class 0 Lamp of TELL_SHED with this inrush window, asleep with the drain level at 3. -/
def shedLamp (inrush : Nat) : State :=
  let s := withChannel 0 { lamp with function := 18, cls := 0, inrush := inrush } Channel.init asleep
  { s with supply := { s.supply with c := 3 } }

set_option maxRecDepth 20000 in
/-- A station that wakes with its drain level at 3 lights its class 0 TELL_SHED lamp at once (R59, R99, R142). -/
theorem test_wake_lights_tell_shed : ∀ w ∈ [(0, ChannelState.on), (40, .inrush)],
    (stateAfter (exec .lineWake (shedLamp w.1))).map (·.out.channels[(0 : Fin 8)].state) = some w.2 := by decide

/-- A wake-enabled switch that closes, IGN, a pulse and a wait in progress, a wake by the line. -/
theorem witness_StationWakes :
    (∃ s : State, s.sleeping = true ∧ s.cfg.switches[(0 : Fin 8)].enabled = true ∧
      s.cfg.switches[(0 : Fin 8)].wakeEnable = true ∧ (s.raw 0 = .closed ↔ s.sw.inputs[(0 : Fin 8)].sleepRef ≠ .closed)) ∧
    (∃ s : State, s.sleeping = true ∧ s.pins.ign = true) ∧
    (∀ w ∈ [WakePhase.none, .pulse, .wait], ∃ s : State, s.live = true ∧ s.ctl.state = .asleep ∧ s.ctl.wake = w) ∧
    ((shedLamp 40).live = true ∧ (shedLamp 40).ctl.state = .asleep ∧ (shedLamp 40).ctl.wake = .none ∧
      (shedLamp 40).cfg.channels[(0 : Fin 8)].kind = .lamp ∧ (shedLamp 40).cfg.channels[(0 : Fin 8)].cls ∉ [1, 2, 3] ∧
      (shedLamp 40).cfg.channels[(0 : Fin 8)].function = 18 ∧ 0 < (shedLamp 40).supply.c ∧
      (shedLamp 40).straps.number ≠ 15) := by
  refine ⟨⟨{ withSwitch (enabled 0) (SwitchState.init none) asleep with
      pins := ⟨Vector.replicate 8 .earth, false⟩ }, by decide⟩,
    ⟨{ asleep with pins := ⟨Vector.replicate 8 .undriven, true⟩ }, by decide⟩, fun w _ =>
    ⟨{ asleep with ctl := { asleep.ctl with wake := w } }, rfl, rfl, rfl⟩, by decide⟩

/-! ### The service tool's commands -/

/-- Addressed to the station by number 0, and to every station by 15. -/
theorem serves (st : StationState) : (at_ st).Serves 0 false ∧ (at_ st).Serves 0 true ∨ st = .asleep := by
  cases st
  case asleep => exact .inr rfl
  all_goals exact .inl ⟨⟨by decide, by decide, by decide, by decide⟩, ⟨by decide, by decide, by decide, by decide⟩⟩

theorem serves_broadcast : (at_ .awake).Serves 15 true := ⟨by decide, by decide, by decide, by decide⟩

theorem serves_at (st : StationState) (h : st ≠ .asleep) : (at_ st).Serves 0 false := by
  rcases serves st with k | k
  · exact k.1
  · exact absurd k h

theorem witness_IdentifyAndReadReply : (at_ .awake).Serves 15 true ∧ (at_ .awake).Serves 0 false ∧ (at_ .awake).PeersOk ∧
    (at_ .awake).line.queue.announce = some announce1 ∧ (queued .joined Queue.empty).Serves 0 true ∧
    (queued .muted Queue.empty).Serves 0 true ∧ (at_ .awake).atSlotEnd.readItem 3 4 0 = none ∧
    ((at_ .awake).atSlotEnd.readItem 3 3 0).isSome = true :=
  ⟨serves_broadcast, serves_at _ (by decide), by unfold State.PeersOk; decide, by decide,
    ⟨by decide, by decide, by decide, by decide⟩, ⟨by decide, by decide, by decide, by decide⟩, by decide, by decide⟩

/-- The list after a reset: place 0 is its last, place 1 is beyond it; its entry not acknowledged, and acknowledged. -/
theorem witness_FaultCommandsServed : (at_ .awake).Serves 0 false ∧ (at_ .awake).Serves 15 true ∧
    (0 : Byte).toNat < (at_ .awake).faults.entries.length ∧ (at_ .awake).faults.entries.length ≤ (1 : Byte).toNat ∧
    (at_ .awake).faults.entries[0]? = some ⟨.configDefault, none, 0, 1, false⟩ ∧
    ({ at_ .awake with faults := ⟨[], false⟩ } : State).Serves 15 true :=
  ⟨serves_at _ (by decide), serves_broadcast, by decide, by decide, by decide,
    ⟨by decide, by decide, by decide, by decide⟩⟩

/-- An entry of the same kind and index; a list of seven; a full one with an acknowledged entry, and without. -/
theorem witness_FaultEntryMade :
    (∃ (l : FaultList) (e : FaultEntry), l.entries = [] ++ e :: [] ∧ e.kind = .trip ∧ e.index = some 7) ∧
    (∃ l : FaultList, l.entries.length = 7 ∧ ∀ d ∈ l.entries, ¬(d.kind = .trip ∧ d.index = some 7)) ∧
    (∃ (l : FaultList) (e : FaultEntry) (after : List FaultEntry), l.entries.length = 8 ∧ l.entries = [] ++ e :: after ∧
      e.acked = true ∧ ∀ d ∈ l.entries, ¬(d.kind = .trip ∧ d.index = some 7)) ∧
    (∃ l : FaultList, l.entries.length = 8 ∧ (∀ d ∈ l.entries, d.acked = false) ∧
      ∀ d ∈ l.entries, ¬(d.kind = .trip ∧ d.index = some 7)) := by
  let other (acked : Bool) (i : Nat) : FaultEntry := ⟨.openLoad, some i, 0, 1, acked⟩
  refine ⟨⟨⟨[⟨.trip, some 7, 0, 255, true⟩], false⟩, _, rfl, rfl, rfl⟩, ⟨⟨(List.range 7).map (other false), false⟩, ?_⟩,
    ⟨⟨(List.range 8).map (other true), false⟩, _, _, ?_, rfl, ?_, ?_⟩, ⟨⟨(List.range 8).map (other false), false⟩, ?_⟩⟩ <;>
  decide

/-- The station after its reset in Standby meets the entry's conditions; it stands refused with IGN on. -/
theorem witness_SetupEntered : ((at_ .standby).Serves 0 false ∧ (at_ .standby).SupplyOk ∧ (at_ .standby).ResolverOk ∧
      (at_ .standby).res.ign = false ∧ ∀ k, k < 14 → (at_ .standby).res.eff.byCode k = false) ∧
    (at_ .setup).Serves 0 false ∧ (at_ .starting).Serves 0 false ∧ (at_ .awake).Serves 0 false ∧
    ({ at_ .standby with res := { Resolver.init with ign := true } } : State).Serves 0 false := by
  refine ⟨⟨serves_at _ (by decide), ⟨fun _ => rfl, fun _ => by decide, fun _ => by decide, fun _ => ⟨by decide, ?_, .inl rfl⟩,
      fun _ => rfl⟩, at_resolverOk _, by decide, by decide⟩, serves_at _ (by decide), serves_at _ (by decide),
    serves_at _ (by decide), ⟨by decide, by decide, by decide, by decide⟩⟩
  intro r h k
  have : ∀ r ∈ (at_ .standby).peers.records, r.shed ≤ (at_ .standby).supply.effective := by decide
  exact this r h

theorem witness_RestartCommandsServed : ((at_ .setup).Serves 0 false ∧ (at_ .setup).ctl.state = .setup) ∧
    (at_ .awake).Serves 15 true ∧ (queued .isolated Queue.empty).Serves 0 true ∧
    ((at_ .awake).Serves 0 false ∧ (at_ .awake).ctl.state ≠ .setup) :=
  ⟨⟨serves_at _ (by decide), by decide⟩, serves_broadcast, ⟨by decide, by decide, by decide, by decide⟩,
    serves_at _ (by decide), by decide⟩

/-- A station in Setup with this staging image. -/
def editing (m : Memory) (programming : Bool) : State :=
  { at_ .setup with svc := { (at_ .setup).svc with staging := some m, programming := programming } }

theorem editing_serves (programming : Bool) : (editing ⟨[]⟩ programming).Serves 0 false := by
  cases programming <;> exact ⟨by decide, by decide, by decide, by decide⟩

/-- One byte at 509, the last that may be written, and one at 510. -/
theorem witness_StoreWriteServed : (editing ⟨[]⟩ false).Serves 0 false ∧ (editing ⟨[]⟩ true).Serves 0 false ∧
    (editing ⟨[]⟩ false).ctl.state = .setup ∧ (⟨[]⟩ : Memory).wf = true ∧
    256 + (253 : Byte).toNat + 1 ≤ 510 ∧ 510 < 256 + (254 : Byte).toNat + 1 ∧ (at_ .awake).Serves 0 false :=
  ⟨editing_serves _, editing_serves _, by decide, by decide, by decide, by decide, serves_at _ (by decide)⟩

set_option maxRecDepth 100000 in
/-- The image of the default configuration has no structural error, the blank image has one. -/
theorem witness_StoreCommitServed : (editing (Memory.ofBytes (WorkingConfig.default false).bytes) false).Serves 0 false ∧
    (Memory.ofBytes (WorkingConfig.default false).bytes).wf = true ∧
    structuralError ((Memory.ofBytes (WorkingConfig.default false).bytes).bytes 512) = none ∧
    (structuralError ((⟨[]⟩ : Memory).bytes 512)).isSome = true ∧ (editing ⟨[]⟩ false).Serves 0 false ∧
    (editing ⟨[]⟩ true).Serves 0 false ∧ (at_ .awake).Serves 0 false ∧
    ((editing ⟨[]⟩ true).up = true ∧ (editing ⟨[]⟩ true).svc.programming = true ∧
      (editing ⟨[]⟩ true).line.queue.reply.length < 2 ∧
      2 ≤ ({ editing ⟨[]⟩ true with line := { (editing ⟨[]⟩ true).line with queue :=
        { Queue.empty with reply := [reply1 0 false, { reply1 0 false with age := 2 }] } } } : State).line.queue.reply.length) :=
  ⟨⟨by decide, by decide, by decide, by decide⟩, Memory.ofBytes_wf _, by decide, by decide, editing_serves _,
    editing_serves _, serves_at _ (by decide), by decide⟩

/-- Channel 7 at 1000 for 5000 ms; each argument one beyond its range; a Motor channel and a channel in Test. -/
theorem witness_TestOutputServed : (at_ .setup).Serves 0 false ∧
    (byteAt [7, 3, 0xE8, 0x13, 0x88] 0 = (7 : Fin 8).val ∧ wordAt [7, 3, 0xE8, 0x13, 0x88] 1 = 1000 ∧
      wordAt [7, 3, 0xE8, 0x13, 0x88] 3 = 5000) ∧
    (7 < byteAt [8, 3, 0xE8, 0x13, 0x88] 0 ∧ 1000 < wordAt [7, 3, 0xE9, 0x13, 0x88] 1 ∧
      wordAt [7, 3, 0xE8, 0, 0] 3 = 0 ∧ 5000 < wordAt [7, 3, 0xE8, 0x13, 0x89] 3) ∧
    (withChannel 7 blower Channel.init (at_ .setup)).Serves 0 false ∧
    (withChannel 7 lamp { lit with state := .test, testTimer := some 100 } (at_ .setup)).Serves 0 false ∧
    (at_ .awake).Serves 0 false :=
  ⟨serves_at _ (by decide), by decide, by decide, ⟨by decide, by decide, by decide, by decide⟩,
    ⟨by decide, by decide, by decide, by decide⟩, serves_at _ (by decide)⟩

/-- Codes 0 and 13; both REPLY slots full; station 14's number; a broadcast. -/
theorem witness_UnknownIgnoredAndUntaken : (at_ .awake).Serves 0 false ∧ ((0 : Fin 16).val = 0 ∧ 12 < (13 : Fin 16).val) ∧
    (∃ s : State, s.receives = true ∧ s.straps.number ≠ 15 ∧ 2 ≤ s.line.queue.reply.length ∧
      (0 : Fin 16).val = s.straps.number) ∧
    ((at_ .awake).receives = true ∧ (14 : Fin 16).val ≠ (at_ .awake).straps.number ∧ (14 : Fin 16).val ≠ 15 ∧
      (at_ .awake).straps.number ≠ 15 ∧ (15 : Fin 16).val = 15) :=
  ⟨serves_at _ (by decide), by decide, ⟨queued .joined { Queue.empty with
      reply := [reply1 0 false, { reply1 0 false with age := 2 }], nextAge := 3 }, by decide⟩, by decide⟩

end Sys2Proof.Tests
end

section
/-! SUPPORT. The Transmit Queue under its operations (R13 to R18), the sub-states' entries (R19, R21) and the hand-ons;
what every command leaves of the queue's order and of the STATUS that a change makes due (R22). -/

namespace Sys2Proof.Machine

/-! ## The queue's order -/

/-- What orders an entry among those of its kind: its age, and for a FLASH its side set. -/
def Entry.key (e : Entry) : Nat × Nat := (e.age, sideBits e.content)

/-- `State.QueueOk` of a queue and a sub-state: the invariant reads nothing else of the state. -/
structure Queue.Ok (q : Queue) (sub : SubState) : Prop where
  flashCount : q.flash.length ≤ 2
  replyCount : q.reply.length ≤ 2
  flashApart : q.flash.Pairwise flashApart
  flashAges  : ∀ e ∈ q.flash, e.age < q.nextAge
  replyApart : q.reply.Pairwise fun x y => x.age < y.age
  replyAges  : ∀ e ∈ q.reply, e.age < q.nextAge
  muted      : sub = .muted → q.status = none ∧ q.announce = none ∧ q.flash = []
  isolated   : sub = .isolated → q.flash = []

theorem State.queueOk_iff (s : State) : s.QueueOk ↔ s.line.queue.Ok s.line.sub :=
  ⟨fun h => ⟨h.flashCount, h.replyCount, h.flashApart, h.flashAges, h.replyApart, h.replyAges, h.muted, h.isolated⟩,
    fun h => ⟨h.flashCount, h.replyCount, h.flashApart, h.flashAges, h.replyApart, h.replyAges, h.muted, h.isolated⟩⟩

theorem pairwise_flashApart_iff (l : List Entry) :
    l.Pairwise flashApart ↔ (l.map Entry.key).Pairwise fun a b => a.1 < b.1 ∧ a.2 ≠ b.2 := by
  rw [List.pairwise_map]; rfl

theorem pairwise_age_iff (l : List Entry) :
    (l.Pairwise fun x y => x.age < y.age) ↔ (l.map Entry.age).Pairwise (· < ·) := by
  rw [List.pairwise_map]

/-- A queue whose FLASH and REPLY entries are some of an ordered queue's, with ages and side sets kept, is in order. -/
theorem Queue.Ok.shrink {q r : Queue} {sub sub' : SubState} (h : q.Ok sub)
    (hf : (r.flash.map Entry.key).Sublist (q.flash.map Entry.key))
    (hr : (r.reply.map Entry.age).Sublist (q.reply.map Entry.age)) (hn : q.nextAge ≤ r.nextAge)
    (hm : sub' = .muted → r.status = none ∧ r.announce = none ∧ r.flash = [])
    (hi : sub' = .isolated → r.flash = []) : r.Ok sub' where
  flashCount := by simpa using hf.length_le.trans (by simpa using h.flashCount)
  replyCount := by simpa using hr.length_le.trans (by simpa using h.replyCount)
  flashApart := (pairwise_flashApart_iff _).mpr (((pairwise_flashApart_iff _).mp h.flashApart).sublist hf)
  flashAges e he := by
    obtain ⟨x, hx, hk⟩ := List.mem_map.mp (hf.subset (List.mem_map_of_mem he))
    have hage : x.age = e.age := congrArg Prod.fst hk
    have := h.flashAges x hx
    omega
  replyApart := (pairwise_age_iff _).mpr (((pairwise_age_iff _).mp h.replyApart).sublist hr)
  replyAges e he := by
    obtain ⟨x, hx, hk⟩ := List.mem_map.mp (hr.subset (List.mem_map_of_mem he))
    have := h.replyAges x hx
    omega
  muted := hm
  isolated := hi

/-- Only STATUS and ANNOUNCE change, outside Muted, and the next age does not fall. -/
theorem Queue.Ok.place {q r : Queue} {sub : SubState} (h : q.Ok sub) (hm : sub ≠ .muted) (hf : r.flash = q.flash)
    (hr : r.reply = q.reply) (hn : q.nextAge ≤ r.nextAge) : r.Ok sub :=
  h.shrink (by rw [hf]) (by rw [hr]) hn (fun k => absurd k hm) fun k => hf ▸ h.isolated k

/-- A new entry at the end, of the next age, keeps rising ages. -/
theorem pairwise_age_push {l : List Entry} {n : Nat} (h : l.Pairwise fun x y => x.age < y.age) (hn : ∀ e ∈ l, e.age < n)
    {e : Entry} (he : e.age = n) : (l ++ [e]).Pairwise fun x y => x.age < y.age := by
  refine List.pairwise_append.mpr ⟨h, by simp, fun x hx y hy => ?_⟩
  rw [List.mem_singleton.mp hy, he]
  exact hn x hx

/-- Two entries of rising ages that are of one age are one. -/
theorem eq_of_age_eq {l : List Entry} (h : l.Pairwise fun x y => x.age < y.age) {x y : Entry} (hx : x ∈ l) (hy : y ∈ l)
    (k : x.age = y.age) : x = y :=
  List.inj_on_of_nodup_map (((pairwise_age_iff l).mp h).imp fun h => ne_of_lt h) hx hy k

theorem Queue.Ok.flashRising {q : Queue} {sub : SubState} (h : q.Ok sub) :
    q.flash.Pairwise fun x y => x.age < y.age := h.flashApart.imp And.left

theorem Queue.Ok.flash_eq {q : Queue} {sub : SubState} (h : q.Ok sub) {x y : Entry} (hx : x ∈ q.flash) (hy : y ∈ q.flash)
    (k : x.age = y.age) : x = y := eq_of_age_eq h.flashRising hx hy k

theorem Queue.Ok.reply_eq {q : Queue} {sub : SubState} (h : q.Ok sub) {x y : Entry} (hx : x ∈ q.reply) (hy : y ∈ q.reply)
    (k : x.age = y.age) : x = y := eq_of_age_eq h.replyApart hx hy k

/-! ## The operations -/

theorem Queue.Ok.remove {q : Queue} {sub : SubState} (h : q.Ok sub) (kind : FrameKind) (age : Nat) :
    (q.remove kind age).Ok sub := by
  cases kind
  case flash =>
    exact h.shrink (List.filter_sublist.map _) (List.Sublist.refl _) le_rfl
      (fun k => ⟨(h.muted k).1, (h.muted k).2.1, by simp [Queue.remove, (h.muted k).2.2]⟩)
      fun k => by simp [Queue.remove, h.isolated k]
  case reply =>
    exact h.shrink (List.Sublist.refl _) (List.filter_sublist.map _) le_rfl h.muted h.isolated
  case status =>
    exact h.shrink (List.Sublist.refl _) (List.Sublist.refl _) le_rfl
      (fun k => ⟨by simp [Queue.remove, (h.muted k).1], (h.muted k).2⟩) h.isolated
  case announce =>
    exact h.shrink (List.Sublist.refl _) (List.Sublist.refl _) le_rfl
      (fun k => ⟨(h.muted k).1, by simp [Queue.remove, (h.muted k).2.1], (h.muted k).2.2⟩) h.isolated
  case service => exact h

theorem Queue.Ok.useAttempt {q : Queue} {sub : SubState} (h : q.Ok sub) (kind : FrameKind) (age : Nat) :
    (q.useAttempt kind age).Ok sub := by
  have key : ∀ e : Entry, (if e.age = age then { e with used := e.used + 1 } else e : Entry).key = e.key := by
    intro e; split <;> rfl
  have hage : ∀ e : Entry, (if e.age = age then { e with used := e.used + 1 } else e : Entry).age = e.age := by
    intro e; split <;> rfl
  cases kind
  case flash =>
    refine h.shrink ?_ (List.Sublist.refl _) le_rfl
      (fun k => ⟨(h.muted k).1, (h.muted k).2.1, by simp [Queue.useAttempt, (h.muted k).2.2]⟩)
      fun k => by simp [Queue.useAttempt, h.isolated k]
    simp [Queue.useAttempt, Function.comp_def, key]
  case reply =>
    refine h.shrink (List.Sublist.refl _) ?_ le_rfl h.muted h.isolated
    simp [Queue.useAttempt, Function.comp_def, hage]
  case status =>
    exact h.shrink (List.Sublist.refl _) (List.Sublist.refl _) le_rfl
      (fun k => ⟨by simp [Queue.useAttempt, (h.muted k).1], (h.muted k).2⟩) h.isolated
  case announce =>
    exact h.shrink (List.Sublist.refl _) (List.Sublist.refl _) le_rfl
      (fun k => ⟨(h.muted k).1, by simp [Queue.useAttempt, (h.muted k).2.1], (h.muted k).2.2⟩) h.isolated
  case service => exact h

theorem Queue.Ok.emptied {q : Queue} {sub sub' : SubState} (h : q.Ok sub) : q.emptied.Ok sub' :=
  h.shrink (List.nil_sublist _) (List.nil_sublist _) le_rfl (fun _ => ⟨rfl, rfl, rfl⟩) fun _ => rfl

theorem Queue.Ok.withdraw {l : Line} {sub : SubState} (h : l.queue.Ok sub) (b : Byte) : (l.withdraw b).queue.Ok sub :=
  h.shrink (List.filter_sublist.map _) (List.Sublist.refl _) le_rfl
    (fun k => ⟨(h.muted k).1, (h.muted k).2.1, by simp [Line.withdraw, (h.muted k).2.2]⟩)
    fun k => by simp [Line.withdraw, h.isolated k]

theorem Queue.Ok.putStatus {l : Line} {sub : SubState} (h : l.queue.Ok sub) (hm : sub ≠ .muted) (content : List Byte) :
    (l.putStatus content).queue.Ok sub := by
  unfold Line.putStatus
  split
  · exact h.place hm rfl rfl (Nat.le_succ _)
  · exact h.place hm rfl rfl le_rfl

theorem Queue.Ok.putAnnounce {l : Line} {sub : SubState} (h : l.queue.Ok sub) (hm : sub ≠ .muted)
    (content : List Byte) : (l.putAnnounce content).queue.Ok sub := by
  unfold Line.putAnnounce
  split
  · exact h.place hm rfl rfl (Nat.le_succ _)
  · exact h.place hm rfl rfl le_rfl

/-- A FLASH of a side set that none of the entries has joins them at the end, with the next age. -/
theorem Queue.Ok.pushFlash {q : Queue} (h : q.Ok .joined) {l : List Entry} (hl : l.Sublist q.flash)
    (hc : l.length < 2) {content : List Byte} (hs : ∀ e ∈ l, sideBits e.content ≠ sideBits content) :
    Queue.Ok { q with flash := l ++ [⟨content, q.nextAge, 0, false⟩], nextAge := q.nextAge + 1 } .joined where
  flashCount := by simp; omega
  replyCount := h.replyCount
  flashApart := List.pairwise_append.mpr ⟨h.flashApart.sublist hl, by simp, fun x hx y hy => by
    rw [List.mem_singleton.mp hy]; exact ⟨h.flashAges x (hl.subset hx), hs x hx⟩⟩
  flashAges e he := by
    rcases List.mem_append.mp he with he | he
    · exact (h.flashAges e (hl.subset he)).trans (Nat.lt_succ_self _)
    · rw [List.mem_singleton.mp he]; exact Nat.lt_succ_self _
  replyApart := h.replyApart
  replyAges e he := (h.replyAges e he).trans (Nat.lt_succ_self _)
  muted k := by cases k
  isolated k := by cases k

theorem Queue.Ok.putFlash {l : Line} (h : l.queue.Ok .joined) (content : List Byte) :
    (l.putFlash content).queue.Ok .joined := by
  unfold Line.putFlash
  split
  · rename_i e he
    have hmem := List.mem_of_find?_eq_some he
    have hside : sideBits e.content = sideBits content := by simpa using List.find?_some he
    refine h.shrink ?_ (List.Sublist.refl _) le_rfl (fun k => by cases k) fun k => by cases k
    suffices hk : ∀ x ∈ l.queue.flash,
        (if x.age = e.age then { x with content := content } else x : Entry).key = x.key by
      simp only [Line.markReplaced, List.map_map, Function.comp_def]
      rw [List.map_congr_left hk]
    intro x hx
    split
    · rename_i hage
      rw [h.flash_eq hx hmem hage]
      simp [Entry.key, hside]
    · rfl
  · rename_i hnone
    have hs : ∀ e ∈ l.queue.flash, sideBits e.content ≠ sideBits content := by
      intro e he; simpa using List.find?_eq_none.mp hnone e he
    dsimp only
    split
    · rename_i hc; exact h.pushFlash (List.Sublist.refl _) hc hs
    · refine h.pushFlash (List.tail_sublist _) ?_ fun e he => hs e (List.mem_of_mem_tail he)
      have := h.flashCount
      simp; omega

theorem Queue.Ok.putReply {l : Line} {sub : SubState} (h : l.queue.Ok sub) (hc : l.queue.reply.length < 2)
    (content : List Byte) (restarts : Bool) : (l.putReply content restarts).queue.Ok sub where
  flashCount := h.flashCount
  replyCount := by simp [Line.putReply]; omega
  flashApart := h.flashApart
  flashAges e he := (h.flashAges e he).trans (Nat.lt_succ_self _)
  replyApart := pairwise_age_push h.replyApart h.replyAges rfl
  replyAges e he := by
    rcases List.mem_append.mp he with he | he
    · exact (h.replyAges e he).trans (Nat.lt_succ_self _)
    · rw [List.mem_singleton.mp he]; exact Nat.lt_succ_self _
  muted := h.muted
  isolated := h.isolated

end Sys2Proof.Machine
end

section
namespace Sys2Proof.Machine

/-! ## The state's operations on the queue -/

theorem State.QueueOk.of_line {s t : State} (h : s.QueueOk) (hq : t.line.queue = s.line.queue)
    (hs : t.line.sub = s.line.sub) : t.QueueOk := by
  rw [State.queueOk_iff] at *
  rwa [hq, hs]

theorem State.requestStatus_sub (s : State) : s.requestStatus.line.sub = s.line.sub := (State.requestStatus_line s).sub

theorem State.requestStatus_queueOk {s : State} (h : s.QueueOk) : s.requestStatus.QueueOk := by
  unfold State.requestStatus
  split
  · exact h
  · rename_i hm
    rw [State.queueOk_iff] at *
    rw [State.withLine_line, (Line.putStatus_kept _ _).sub]
    exact h.putStatus hm _

theorem Line.putAnnounce_sub (l : Line) (content : List Byte) : (l.putAnnounce content).sub = l.sub := by
  unfold Line.putAnnounce; split <;> rfl

theorem Line.putAnnounce_status (l : Line) (content : List Byte) :
    (l.putAnnounce content).queue.status = l.queue.status := by
  unfold Line.putAnnounce; split <;> rfl

theorem State.requestAnnounce_sub (s : State) : s.requestAnnounce.line.sub = s.line.sub := by
  unfold State.requestAnnounce
  split
  · rfl
  · exact Line.putAnnounce_sub _ _

theorem State.requestAnnounce_status (s : State) : s.requestAnnounce.line.queue.status = s.line.queue.status := by
  unfold State.requestAnnounce
  split
  · rfl
  · exact Line.putAnnounce_status _ _

theorem State.requestAnnounce_queueOk {s : State} (h : s.QueueOk) : s.requestAnnounce.QueueOk := by
  unfold State.requestAnnounce
  split
  · exact h
  · rename_i hm
    rw [State.queueOk_iff] at *
    rw [State.withLine_line, Line.putAnnounce_sub]
    exact h.putAnnounce hm _

theorem State.requestFlash_queueOk {s : State} (h : s.QueueOk) (x : SideSet) : (s.requestFlash x).QueueOk := by
  unfold State.requestFlash
  split
  · rename_i hj
    rw [State.queueOk_iff] at *
    rw [State.withLine_line, (Line.putFlash_kept _ _).sub, hj]
    exact (hj ▸ h).putFlash _
  · exact h

theorem Line.replyFull_eq_false_iff (l : Line) : l.replyFull = false ↔ l.queue.reply.length < 2 := by
  simp [Line.replyFull]

theorem State.reply_queueOk {s : State} (h : s.QueueOk) (hc : s.line.replyFull = false) (c : Nat) (r : ResultCode)
    (d : List Byte) : (s.reply c r d).QueueOk := by
  rw [State.queueOk_iff] at *
  exact h.putReply ((Line.replyFull_eq_false_iff _).mp hc) _ _

theorem State.enterIsolated_queueOk {s : State} (h : s.QueueOk) : s.enterIsolated.QueueOk := by
  rw [State.queueOk_iff] at *
  exact h.shrink (List.nil_sublist _) (List.Sublist.refl _) le_rfl (fun k => by cases k) fun _ => rfl

theorem State.findDuplicate_queueOk {s : State} (h : s.QueueOk) : s.findDuplicate.QueueOk := by
  unfold State.findDuplicate
  split
  · exact h
  · rw [State.queueOk_iff] at *
    exact h.shrink (List.nil_sublist _) (List.Sublist.refl _) le_rfl (fun _ => ⟨rfl, rfl, rfl⟩) fun _ => rfl

theorem State.orderIfLeft_line (s : State) (q : Queue) : (s.orderIfLeft q).line = s.line := by
  rcases State.orderIfLeft_cases q s with ⟨-, h⟩ | ⟨-, h⟩ <;> rw [h]; rfl

theorem State.orderIfLeft_queueOk {s : State} (h : s.QueueOk) (q : Queue) : (s.orderIfLeft q).QueueOk :=
  h.of_line (by rw [State.orderIfLeft_line]) (by rw [State.orderIfLeft_line])

theorem Queue.Ok.failAttempt {l : Line} {sub : SubState} (h : l.queue.Ok sub) (f : InFlight) :
    (l.failAttempt f).queue.Ok sub := by
  unfold Line.failAttempt
  dsimp only
  split
  · split
    · exact (h.useAttempt _ _).remove _ _
    · exact h.useAttempt _ _
  · exact h.useAttempt _ _

theorem State.attemptFailed_queueOk {s : State} (h : s.QueueOk) (f : InFlight) : (s.attemptFailed f).QueueOk := by
  have hfail : ((s.withLine (s.line.failAttempt f)).orderIfLeft s.line.queue).QueueOk := by
    refine State.orderIfLeft_queueOk ?_ _
    rw [State.queueOk_iff] at *
    exact h.failAttempt f
  unfold State.attemptFailed
  dsimp only
  split
  · exact h.of_line rfl rfl
  · split
    · exact State.enterIsolated_queueOk hfail
    · exact hfail

/-- An entry found by kind and age stands in the queue, so in Muted it is a REPLY, and in Isolated no FLASH. -/
theorem Queue.Ok.entry?_sub {q : Queue} {sub : SubState} (h : q.Ok sub) {kind : FrameKind} {age : Nat} {e : Entry}
    (he : q.entry? kind age = some e) : (sub = .muted → kind = .reply) ∧ (kind = .flash → sub = .joined) := by
  refine ⟨fun hm => ?_, fun hk => ?_⟩
  · obtain ⟨hs, ha, hf⟩ := h.muted hm
    cases kind <;> simp_all [Queue.entry?]
  · subst hk
    cases sub
    · rfl
    · simp [Queue.entry?, (h.muted rfl).2.2] at he
    · simp [Queue.entry?, h.isolated rfl] at he

theorem Queue.Ok.rejoin {l : Line} {sub : SubState} (h : l.queue.Ok sub) {kind : FrameKind}
    (hm : sub = .muted → kind = .reply) (hf : kind = .flash → sub = .joined) (content : List Byte) :
    (l.rejoin kind content).queue.Ok sub := by
  cases kind
  case flash => cases hf rfl; exact h.putFlash content
  case status => exact h.putStatus (fun k => by cases hm k) content
  case announce => exact h.putAnnounce (fun k => by cases hm k) content
  case reply => exact h
  case service => exact h

theorem Line.rejoin_sub (l : Line) (kind : FrameKind) (content : List Byte) : (l.rejoin kind content).sub = l.sub := by
  cases kind
  case flash => exact (Line.putFlash_kept _ _).sub
  case status => exact (Line.putStatus_kept _ _).sub
  case announce => exact Line.putAnnounce_sub _ _
  case reply => rfl
  case service => rfl

theorem State.succeed_queueOk {s : State} (h : s.QueueOk) (f : InFlight) : (s.withLine (s.line.succeed f)).QueueOk := by
  rw [State.queueOk_iff] at *
  have hrem : (s.line.queue.remove f.kind f.age).Ok (if s.line.sub = .isolated then .joined else s.line.sub) := by
    split
    · rename_i hi
      exact (h.remove _ _).shrink (List.Sublist.refl _) (List.Sublist.refl _) le_rfl (fun k => by cases k)
        fun k => by cases k
    · exact h.remove _ _
  rw [State.withLine_line]
  unfold Line.succeed
  dsimp only
  split
  · rename_i e _ he
    obtain ⟨hm, hf⟩ := h.entry?_sub he
    rw [Line.rejoin_sub]
    refine Queue.Ok.rejoin hrem (fun k => hm ?_) (fun k => ?_) _
    · split at k
      · cases k
      · exact k
    · rw [if_neg (by rw [hf k]; decide)]
      exact hf k
  · exact hrem

/-! ## The hand-ons -/

theorem State.enterFlashOn_queueOk {s : State} (h : s.QueueOk) (x : SideSet) (k : OnEntry) :
    (s.enterFlashOn x k).QueueOk := by
  have key : ∀ t : State, t.line = s.line → (t.requestFlash x).QueueOk := fun t ht =>
    State.requestFlash_queueOk (h.of_line (by rw [ht]) (by rw [ht])) x
  cases k
  case align f => exact h.of_line rfl rfl
  all_goals exact key _ rfl

theorem State.stageFlasher_queueOk {s : State} (h : s.QueueOk) : s.stageFlasher.1.QueueOk := by
  unfold State.stageFlasher
  dsimp only
  split
  · exact h
  · split
    · exact h.of_line rfl rfl
    · rename_i x _
      split
      · exact State.enterFlashOn_queueOk
          (s := s.withFlash { s.flash with reportedLeft := false, reportedRight := false }) (h.of_line rfl rfl) x .start
      · exact State.enterFlashOn_queueOk h x .change

theorem State.stageControl_queue (s : State) (e : EffectiveSet) : (s.stageControl e).line.queue = s.line.queue := by
  unfold State.stageControl
  split
  · rfl
  · rfl
  · split
    · rfl
    · rw [State.reloadQuiet_line]

theorem State.settle_queueOk {s : State} (h : s.QueueOk) (b : State) (x : Bool) : (s.settle b x).QueueOk := by
  have hf : (s.stageUnion.stageSupply s.res.ign).stageFlasher.1.QueueOk :=
    State.stageFlasher_queueOk (h.of_line (by simp) (by simp))
  unfold State.settle State.stageStatus
  dsimp only
  have hc := hf.of_line (t := ((s.stageUnion.stageSupply s.res.ign).stageFlasher.1.stageLoads
    (x || (s.stageUnion.stageSupply s.res.ign).stageFlasher.2)).stageControl b.res.eff)
    (by rw [State.stageControl_queue, State.stageLoads_line])
    (by rw [(State.stageControl_kept _ _).2.sub, State.stageLoads_line])
  split
  · exact State.requestStatus_queueOk hc
  · exact hc

/-! ## The extra STATUS (R22) -/

/-- The values whose change queues an extra STATUS (R22, R28). -/
def State.watched (s : State) : RequestSet × Nat × Nat × Nat × Bool × Bool × StationState :=
  (s.sw.requests, s.sw.fanStep, s.sw.dimmer, s.supply.localLevel, s.ignInput, s.res.ign, s.ctl.state)

theorem State.statusChanged_iff (b s : State) : b.statusChanged s = true ↔ s.watched ≠ b.watched := by
  simp only [State.statusChanged, State.watched, ne_eq, Prod.mk.injEq, Bool.or_eq_true, decide_eq_true_eq]
  tauto

/-- The queued STATUS has the content composed now. -/
def State.Reported (s : State) : Prop := s.line.queue.status.map (·.content) = some s.statusContent.payload

theorem State.requestStatus_reported {s : State} (h : s.requestStatus.line.sub ≠ .muted) : s.requestStatus.Reported := by
  rw [State.requestStatus_sub] at h
  unfold State.Reported State.requestStatus
  rw [if_neg h]
  exact Line.putStatus_content _ _

theorem State.requestStatus_watched (s : State) : s.requestStatus.watched = s.watched := by
  obtain ⟨_, h⟩ := State.requestStatus_frame s
  rw [h]; rfl

theorem State.requestAnnounce_reported {s : State} (h : s.Reported) : s.requestAnnounce.Reported := by
  unfold State.Reported at *
  rw [State.requestAnnounce_status, h]
  obtain ⟨_, hf⟩ := State.requestAnnounce_frame s
  rw [hf]; rfl

/-- Hand-ons that end with a watched value changed end with the STATUS queued, outside Muted. -/
theorem State.settle_reported (u b : State) (x : Bool) (hm : (u.settle b x).line.sub ≠ .muted)
    (hw : (u.settle b x).watched ≠ b.watched) : (u.settle b x).Reported := by
  unfold State.settle State.stageStatus at *
  dsimp only at *
  split at hm
  · rename_i hc
    rw [if_pos hc]
    exact State.requestStatus_reported hm
  · rename_i hc
    rw [if_neg hc] at hw
    exact absurd ((State.statusChanged_iff _ _).mpr hw) hc

/-- What a command does to the Transmit Queue: the queue stays in order, and a change of a watched value leaves a running
station that is not Muted with the STATUS composed then. -/
structure LineFollows (s t : State) : Prop where
  queue    : s.QueueOk → t.QueueOk
  reported : t.up = true → t.line.sub ≠ .muted → t.watched ≠ s.watched → t.Reported

theorem LineFollows.quiet {s t : State} (hq : s.QueueOk → t.QueueOk) (hw : t.watched = s.watched) : LineFollows s t :=
  ⟨hq, fun _ _ k => absurd hw k⟩

theorem LineFollows.refl (s : State) : LineFollows s s := .quiet id rfl

/-- A command of another block that changes no watched value. -/
theorem LineFollows.aside {s t : State} (hl : t.line = s.line := by rfl) (hw : t.watched = s.watched := by rfl) :
    LineFollows s t :=
  .quiet (fun h => h.of_line (by rw [hl]) (by rw [hl])) hw

theorem LineFollows.down {s t : State} (hq : s.QueueOk → t.QueueOk) (hd : t.up = false) : LineFollows s t :=
  ⟨hq, fun k => by rw [hd] at k; cases k⟩

/-- Hand-ons over a state whose queue the command has left in order; `b` is the state before it. -/
theorem LineFollows.settle {s u b : State} (hq : s.QueueOk → u.QueueOk) (hw : b.watched = s.watched) (x : Bool) :
    LineFollows s (u.settle b x) :=
  ⟨fun h => State.settle_queueOk (hq h) b x, fun _ hm k => State.settle_reported u b x hm (hw ▸ k)⟩

/-- Hand-ons over a change of another block. -/
theorem LineFollows.settleAside {s u : State} (x : Bool) (hl : u.line = s.line := by rfl) : LineFollows s (u.settle s x) :=
  .settle (fun h => h.of_line (by rw [hl]) (by rw [hl])) rfl x

theorem LineFollows.pre {s t r : State} (hq : s.QueueOk → t.QueueOk) (hw : t.watched = s.watched)
    (h : LineFollows t r) : LineFollows s r :=
  ⟨fun k => h.queue (hq k), fun u m k => h.reported u m (hw ▸ k)⟩

theorem LineFollows.ite {s a : State} {p : Prop} [Decidable p] (h : p → LineFollows s a) :
    LineFollows s (if p then a else s) := by
  split
  · exact h ‹_›
  · exact .refl s

end Sys2Proof.Machine
end

section
namespace Sys2Proof.Machine

/-! ## What the commands leave of the line -/

theorem State.trip_line (s : State) (i : Fin 8) : (s.trip i).line = s.line := by
  unfold State.trip
  dsimp only
  split
  · split <;> rfl
  · split <;> rfl

theorem State.compareCurrent_line (s : State) (i : Fin 8) : (s.compareCurrent i).line = s.line := rfl

theorem State.judgeStall_line (s : State) (i : Fin 8) : (s.judgeStall i).line = s.line := by
  unfold State.judgeStall; split <;> rfl

theorem State.bulbOut_line (s : State) (x : Side) : (s.bulbOut x).line = s.line := by
  cases x <;> (unfold State.bulbOut; dsimp only; split <;> rfl)

theorem State.checkBulb_line (s : State) (i : Fin 8) : (s.checkBulb i).line = s.line := by
  unfold State.checkBulb
  dsimp only
  split
  · split
    · exact State.bulbOut_line _ _
    · rfl
  · rfl

theorem State.currentCompleted_line (s : State) (i : Fin 8) : (s.currentCompleted i).line = s.line := by
  unfold State.currentCompleted
  rw [State.checkBulb_line, State.judgeStall_line, State.compareCurrent_line]

theorem State.senderCompleted_line (s : State) (n : Fin 4) : (s.senderCompleted n).line = s.line := by
  have key : ∀ t : State, t.line = s.line → ∀ p : Prop, ∀ [Decidable p], (if p then t.reloadQuiet else t).line = s.line := by
    intro t ht p _
    split
    · rw [State.reloadQuiet_line, ht]
    · exact ht
  unfold State.senderCompleted State.recomputeLocal
  dsimp only
  rw [State.withSw_line]
  refine key _ ?_ _
  split <;> rfl

theorem State.judgeThermal_line (s : State) : s.judgeThermal.line = s.line := by
  unfold State.judgeThermal
  dsimp only
  split
  · split <;> rfl
  · split <;> rfl

theorem State.drainStep_line (s : State) : s.drainStep.line = s.line := by
  unfold State.drainStep
  split
  · rfl
  · dsimp only
    split
    · split <;> rfl
    · rfl

theorem State.enterTest_line (s : State) (i : Fin 8) (d m : Nat) : (s.enterTest i d m).line = s.line := by
  unfold State.enterTest
  dsimp only
  split
  · rfl
  · split <;> rfl

theorem State.raiseObjection_queue (s : State) :
    s.raiseObjection.line.queue = s.line.queue ∧ s.raiseObjection.line.sub = s.line.sub ∧
      s.raiseObjection.watched = s.watched := by
  unfold State.raiseObjection; split <;> exact ⟨rfl, rfl, rfl⟩

theorem State.duplicateCheck_frame (s : State) (sender : Fin 16) :
    ∃ line' faults', s.duplicateCheck sender = { s with line := line', faults := faults' } := by
  unfold State.duplicateCheck
  split
  · exact State.findDuplicate_frame s
  · exact ⟨_, _, rfl⟩

theorem State.duplicateCheck_queueOk {s : State} (h : s.QueueOk) (sender : Fin 16) :
    (s.duplicateCheck sender).QueueOk := by
  unfold State.duplicateCheck
  split
  · exact State.findDuplicate_queueOk h
  · exact h

theorem State.duplicateCheck_watched (s : State) (sender : Fin 16) : (s.duplicateCheck sender).watched = s.watched := by
  obtain ⟨_, _, h⟩ := State.duplicateCheck_frame s sender
  rw [h]; rfl

theorem State.findDuplicate_watched (s : State) : s.findDuplicate.watched = s.watched := by
  obtain ⟨_, _, h⟩ := State.findDuplicate_frame s
  rw [h]; rfl

theorem State.attemptFailed_watched (s : State) (f : InFlight) : (s.attemptFailed f).watched = s.watched := by
  obtain ⟨_, _, _, _, h⟩ := State.attemptFailed_frame s f
  rw [h]; rfl

theorem State.orderIfLeft_watched (s : State) (q : Queue) : (s.orderIfLeft q).watched = s.watched := by
  rcases State.orderIfLeft_cases q s with ⟨-, h⟩ | ⟨-, h⟩ <;> rw [h]; rfl

theorem State.heard_frame (s : State) (target : Fin 16) : ∃ ctl', s.heard target = { s with ctl := ctl' } := by
  unfold State.heard
  split
  · exact State.reloadQuiet_frame s
  · exact ⟨_, rfl⟩

theorem State.reloadQuiet_watched (s : State) : s.reloadQuiet.watched = s.watched := by
  unfold State.reloadQuiet; split <;> rfl

theorem State.heard_watched (s : State) (target : Fin 16) : (s.heard target).watched = s.watched := by
  unfold State.heard
  split
  · exact State.reloadQuiet_watched s
  · rfl

theorem State.takeLine_queue (s : State) :
    s.takeLine.line.queue = s.line.queue ∧ s.takeLine.line.sub = s.line.sub ∧ s.takeLine.watched = s.watched := by
  rcases State.takeLine_cases s with h | ⟨_, _, _, _, _, _, h⟩ <;> rw [h]
  · exact ⟨rfl, rfl, rfl⟩
  · exact ⟨rfl, rfl, rfl⟩

/-! ## Frames and SERVICE commands -/

theorem State.setView_queueOk {s : State} (h : s.QueueOk) (v : LineView) : (s.setView v).QueueOk := h.of_line rfl rfl

/-- A received frame follows the line's rules when what it is handed to does, from any state of the same queue order and
watched values. -/
theorem LineFollows.receive {s : State} {hand : State → State} (sender : Fin 16) (format : Bool)
    (h : ∀ t : State, (s.QueueOk → t.QueueOk) → t.watched = s.watched → LineFollows s (hand t)) :
    LineFollows s (s.receive sender format hand) := by
  rcases State.receive_cases s sender format hand with ⟨-, e⟩ | ⟨-, -, e⟩ | ⟨-, -, e⟩ <;> rw [e]
  · exact .refl s
  · obtain ⟨hq, hs, hw⟩ := State.raiseObjection_queue (s.setView .busy)
    exact .quiet (fun k => (State.setView_queueOk k .busy).of_line hq hs) hw
  · exact h _ (fun k => State.duplicateCheck_queueOk (State.setView_queueOk k .busy) sender)
      (State.duplicateCheck_watched _ _)

theorem LineFollows.service {s : State} {serve : State → State} (target : Fin 16) (broadcast : Bool) (args : List Byte)
    (h : ∀ t : State, t.line.replyFull = false → (s.QueueOk → t.QueueOk) → t.watched = s.watched →
      LineFollows s (serve t)) :
    LineFollows s (s.service target broadcast args fun t => t.withSlot serve) := by
  have hq : s.QueueOk → ((s.setView .busy).heard target).QueueOk := fun k => by
    obtain ⟨_, e⟩ := State.heard_frame (s.setView .busy) target
    rw [e]; exact k.of_line rfl rfl
  have hw := State.heard_watched (s.setView .busy) target
  rcases State.service_cases s target broadcast args (fun t => t.withSlot serve) with
    ⟨-, e⟩ | ⟨-, -, e⟩ | ⟨-, -, -, e⟩ | ⟨-, -, -, e⟩ <;> rw [e]
  · exact .refl s
  · obtain ⟨oq, os, ow⟩ := State.raiseObjection_queue (s.setView .busy)
    exact .quiet (fun k => (State.setView_queueOk k .busy).of_line oq os) ow
  · exact .quiet hq hw
  · rcases State.withSlot_cases ((s.setView .busy).heard target) serve with ⟨-, e⟩ | ⟨hc, e⟩ <;> rw [e]
    · exact .quiet (fun k => (hq k).of_line rfl rfl) hw
    · exact h _ hc hq hw

/-- A SERVICE command that does not ask for the state before it. -/
theorem LineFollows.served {s : State} {serve : State → State} (target : Fin 16) (broadcast : Bool) (args : List Byte)
    (h : ∀ t : State, t.line.replyFull = false → LineFollows t (serve t)) :
    LineFollows s (s.service target broadcast args fun t => t.withSlot serve) :=
  .service target broadcast args fun t hc hq hw => (h t hc).pre hq hw

theorem LineFollows.reply {s : State} (hc : s.line.replyFull = false) (c : Nat) (r : ResultCode) (d : List Byte) :
    LineFollows s (s.reply c r d) := .quiet (fun h => State.reply_queueOk h hc c r d) rfl

theorem LineFollows.serveIdentify {s : State} (hc : s.line.replyFull = false) (args : List Byte) :
    LineFollows s (s.serveIdentify args) := by
  unfold State.serveIdentify
  split
  · refine .quiet (fun h => State.requestAnnounce_queueOk (State.reply_queueOk h hc _ _ _)) ?_
    obtain ⟨_, e⟩ := State.requestAnnounce_frame (s.reply 1 .ok (s.announceContent ++ [putByte s.ctl.state.code]))
    rw [e]; rfl
  · exact .reply hc _ _ _

theorem LineFollows.serveRead {s : State} (hc : s.line.replyFull = false) (args : List Byte) :
    LineFollows s (s.serveRead args) := by
  unfold State.serveRead
  split
  · split
    · exact .quiet (fun h => (State.reply_queueOk h hc 2 .ok _).of_line rfl rfl) rfl
    · exact .reply hc _ _ _
  · exact .reply hc _ _ _

theorem LineFollows.serveFaultCall {s : State} (hc : s.line.replyFull = false) (target : Fin 16) (args : List Byte) :
    LineFollows s (s.serveFaultCall target args) := by
  unfold State.serveFaultCall
  split
  · split
    · exact .reply hc _ _ _
    · split
      · exact .reply hc _ _ _
      · exact .refl s
  · exact .reply hc _ _ _

/-- A REPLY after a change of another block. -/
theorem LineFollows.replyAside {s t : State} (hc : s.line.replyFull = false) (hl : t.line = s.line)
    (hw : t.watched = s.watched) (c : Nat) (r : ResultCode) (d : List Byte) : LineFollows s (t.reply c r d) :=
  .quiet (fun h => State.reply_queueOk (h.of_line (by rw [hl]) (by rw [hl])) (hl ▸ hc) c r d) hw

theorem LineFollows.serveFaultAck {s : State} (hc : s.line.replyFull = false) (args : List Byte) :
    LineFollows s (s.serveFaultAck args) := by
  unfold State.serveFaultAck
  split
  · split
    · refine .replyAside hc ?_ ?_ _ _ _ <;> rfl
    · exact .reply hc _ _ _
  · exact .reply hc _ _ _

theorem LineFollows.serveFaultClear {s : State} (hc : s.line.replyFull = false) (args : List Byte) :
    LineFollows s (s.serveFaultClear args) := by
  unfold State.serveFaultClear
  split
  · refine .replyAside hc ?_ ?_ _ _ _ <;> rfl
  · exact .reply hc _ _ _

theorem LineFollows.enterSetup (s : State) : LineFollows s s.enterSetup := by
  refine .settle (fun h => ?_) rfl false
  exact h.of_line rfl rfl

theorem LineFollows.serveSetupEnter {s : State} (hc : s.line.replyFull = false) (args : List Byte) :
    LineFollows s (s.serveSetupEnter args) := by
  unfold State.serveSetupEnter
  split
  · exact .reply hc _ _ _
  · split
    · exact .reply hc _ _ _
    · split
      · exact .pre (fun h => State.reply_queueOk h hc 6 .ok []) rfl (.enterSetup _)
      · exact .reply hc _ _ _

theorem LineFollows.serveStoreWrite {s : State} (hc : s.line.replyFull = false) (command base : Nat)
    (args : List Byte) : LineFollows s (s.serveStoreWrite command base args) := by
  unfold State.serveStoreWrite
  split
  · exact .reply hc _ _ _
  · split
    · exact .reply hc _ _ _
    · split
      · exact .reply hc _ _ _
      · refine .replyAside hc ?_ ?_ _ _ _ <;> rfl

theorem LineFollows.serveStoreCommit {s : State} (hc : s.line.replyFull = false) (args : List Byte) :
    LineFollows s (s.serveStoreCommit args) := by
  unfold State.serveStoreCommit
  split
  · exact .reply hc _ _ _
  · split
    · exact .reply hc _ _ _
    · split
      · exact .reply hc _ _ _
      · split
        · exact .reply hc _ _ _
        · exact .aside

theorem LineFollows.serveTestOutput {s t : State} (hc : t.line.replyFull = false) (hq : s.QueueOk → t.QueueOk)
    (hw : t.watched = s.watched) (args : List Byte) : LineFollows s (t.serveTestOutput s args) := by
  unfold State.serveTestOutput
  split
  · exact .pre hq hw (.reply hc _ _ _)
  · split
    · refine .settle (fun h => ?_) rfl false
      exact (State.reply_queueOk (hq h) hc 10 .ok []).of_line (by rw [State.enterTest_line]) (by rw [State.enterTest_line])
    · exact .pre hq hw (.reply hc _ _ _)

theorem LineFollows.replyRestart {s : State} (hc : s.line.replyFull = false) (command : Nat) :
    LineFollows s (s.replyRestart command) := by
  have hq : s.QueueOk → (s.withLine (s.line.putReply [replyHead .ok command] true)).QueueOk := fun h => by
    rw [State.queueOk_iff] at *
    exact h.putReply ((Line.replyFull_eq_false_iff _).mp hc) _ _
  unfold State.replyRestart
  dsimp only
  split
  · exact .quiet (fun h => (hq h).of_line rfl rfl) rfl
  · exact .quiet hq rfl

theorem LineFollows.serveSetupExit {s : State} (hc : s.line.replyFull = false) (args : List Byte) :
    LineFollows s (s.serveSetupExit args) := by
  unfold State.serveSetupExit
  split
  · exact .reply hc _ _ _
  · split
    · exact .reply hc _ _ _
    · exact .replyRestart hc _

theorem LineFollows.serveRestart {s : State} (hc : s.line.replyFull = false) (args : List Byte) :
    LineFollows s (s.serveRestart args) := by
  unfold State.serveRestart
  split
  · exact .reply hc _ _ _
  · exact .replyRestart hc _

/-! ## Peers -/

theorem LineFollows.takeStatus {s t : State} (hq : s.QueueOk → t.QueueOk) (hw : t.watched = s.watched) (n : Nat)
    (payload : List Byte) : LineFollows s (t.takeStatus s n payload) := by
  unfold State.takeStatus
  split
  · split
    · refine .settle (fun h => ?_) rfl false
      exact (hq h).of_line rfl rfl
    · exact .quiet (fun h => (hq h).of_line rfl rfl) hw
  · exact .quiet hq hw

theorem LineFollows.takeAnnounce {s t : State} (hq : s.QueueOk → t.QueueOk) (hw : t.watched = s.watched) (n : Nat)
    (payload : List Byte) : LineFollows s (t.takeAnnounce s n payload) := by
  unfold State.takeAnnounce
  split
  · exact .quiet hq hw
  · refine .settle (fun h => ?_) rfl false
    exact (hq h).of_line rfl rfl

theorem State.alignTo_queueOk {s : State} (h : s.QueueOk) (c : FlashContent) : (s.alignTo c).1.QueueOk := by
  unfold State.alignTo
  split
  · split
    · rename_i x _ _ _ _
      exact State.enterFlashOn_queueOk h x (.align c.fast)
    · exact h
  · exact h

theorem State.takeReceived_line (s : State) (c : FlashContent) : (s.takeReceived c).line = s.line := by
  unfold State.takeReceived; split <;> rfl

theorem LineFollows.takeFlash {s t : State} (hq : s.QueueOk → t.QueueOk) (n : Nat) (byte : Byte) :
    LineFollows s (t.takeFlash s n byte) := by
  refine .settle (fun h => ?_) rfl _
  have hwd : ((t.withPeers (t.peers.modify n fun r => r.takeFlash (decodeFlash byte))).withLine
      (t.line.withdraw byte)).QueueOk := by
    have := hq h
    rw [State.queueOk_iff] at *
    exact this.withdraw byte
  exact (State.alignTo_queueOk hwd _).of_line (by rw [State.takeReceived_line]; rfl) (by rw [State.takeReceived_line]; rfl)

/-! ## Resets and wakes -/

/-- The state whose hand-ons entry to Starting runs (R44, R55, R139, R176). -/
def State.atStart (s : State) : State :=
  { s with
    ctl := { s.ctl with state := .starting, join := some 250, quiet := none, wake := .none, clock := 0 }
    sw := { s.sw with
      inputs := Vector.ofFn fun i => SwitchState.init (if s.cfg.switches[i].enabled then some 20 else none)
      ignDebounce := some 20 }
    line := { s.line with periodic := if s.strapInvalid then none else some 100 }
    meas := { s.meas with passTimer := some 4, slot := some 0 }
    fan := { s.fan with ramp := some 100 }
    gauges := { s.gauges with update := if s.strapInvalid then none else some 100 }
    supply := { s.supply with
      drainTick := some 1000, holds := ⟨⟨true, none⟩, ⟨true, none⟩, ⟨true, none⟩⟩ } }

theorem State.enterStarting_eq (s : State) (announce : Bool) : s.enterStarting announce =
    if announce then (s.atStart.settle s.atStart false).requestStatus.requestAnnounce
    else (s.atStart.settle s.atStart false).requestStatus := rfl

theorem State.enterStarting_queueOk {s : State} (h : s.QueueOk) (announce : Bool) :
    (s.enterStarting announce).QueueOk := by
  have ha : s.atStart.QueueOk := h.of_line rfl rfl
  have hs := State.requestStatus_queueOk (State.settle_queueOk ha s.atStart false)
  rw [State.enterStarting_eq]
  split
  · exact State.requestAnnounce_queueOk hs
  · exact hs

theorem State.enterStarting_reported {s : State} {announce : Bool} (h : (s.enterStarting announce).line.sub ≠ .muted) :
    (s.enterStarting announce).Reported := by
  rw [State.enterStarting_eq] at h ⊢
  split at h
  · rename_i ha
    rw [State.requestAnnounce_sub] at h
    rw [if_pos ha]
    exact State.requestAnnounce_reported (State.requestStatus_reported h)
  · rename_i ha
    rw [if_neg ha]
    exact State.requestStatus_reported h

theorem LineFollows.enterStarting {s u : State} (hq : s.QueueOk → u.QueueOk) (announce : Bool) :
    LineFollows s (u.enterStarting announce) :=
  ⟨fun h => State.enterStarting_queueOk (hq h) announce, fun _ hm _ => State.enterStarting_reported hm⟩

theorem State.loadConfig_line (s : State) : s.loadConfig.line = s.line := by
  unfold State.loadConfig; dsimp only; split <;> rfl

theorem Queue.empty_ok (sub : SubState) : Queue.empty.Ok sub where
  flashCount := by decide
  replyCount := by decide
  flashApart := .nil
  flashAges e he := by cases he
  replyApart := .nil
  replyAges e he := by cases he
  muted _ := ⟨rfl, rfl, rfl⟩
  isolated _ := rfl

theorem LineFollows.takeReset (s u : State) (p : StrapPins) (v : Supply) (c : ResumeCause) :
    LineFollows s (u.takeReset p v c) := by
  refine .enterStarting (fun _ => ?_) true
  rw [State.queueOk_iff, State.loadConfig_line]
  exact Queue.empty_ok _

theorem LineFollows.wakeUp (s : State) (c : ResumeCause) (i : Option Nat) : LineFollows s (s.wakeUp c i) := by
  refine .enterStarting (fun h => ?_) false
  rw [State.queueOk_iff] at *
  exact h.emptied

theorem LineFollows.powerDown (s : State) : LineFollows s s.powerDown := by
  refine .down (fun h => ?_) rfl
  rw [State.queueOk_iff] at *
  exact h.emptied

theorem LineFollows.enterAsleep (s : State) : LineFollows s s.enterAsleep := by
  refine .down (fun h => ?_) ?_
  · refine State.orderIfLeft_queueOk ?_ _
    rw [State.queueOk_iff] at *
    exact h.emptied
  · unfold State.enterAsleep
    dsimp only
    generalize ht : State.withCtl _ _ = t
    have hs : t.ctl.state = .asleep := by rw [← ht]; rfl
    rcases State.orderIfLeft_cases s.line.queue t with ⟨-, e⟩ | ⟨-, e⟩ <;> rw [e]
    · simp [State.up, State.orderRestart, hs]
    · simp [State.up, hs]

end Sys2Proof.Machine
end

section
namespace Sys2Proof.Machine

/-! ## Every command -/

theorem LineFollows.frameOffer (s : State) : LineFollows s s.takeLine := by
  obtain ⟨hq, hs, hw⟩ := State.takeLine_queue s
  exact .quiet (fun h => h.of_line hq hs) hw

theorem LineFollows.joinStartBit (s : State) : ∃ t, execJoinStartBit s = .next t ∧ LineFollows s t := by
  rcases execJoinStartBit_cases s with ⟨-, -, e⟩ | ⟨-, e⟩
  · exact ⟨_, e, .quiet (State.setView_queueOk · .receiving) rfl⟩
  · exact ⟨_, e, .frameOffer s⟩

theorem LineFollows.failed {s t : State} (f : InFlight) (hl : t.line.queue = s.line.queue := by rfl)
    (hs : t.line.sub = s.line.sub := by rfl) (hw : t.watched = s.watched := by rfl) : LineFollows s (t.attemptFailed f) :=
  .quiet (fun h => State.attemptFailed_queueOk (h.of_line hl hs) f) ((State.attemptFailed_watched t f).trans hw)

theorem LineFollows.findDuplicate {s t : State} (h : LineFollows s t) (hw : t.watched = s.watched) :
    LineFollows s t.findDuplicate :=
  .quiet (fun k => State.findDuplicate_queueOk (h.queue k)) ((State.findDuplicate_watched t).trans hw)

theorem LineFollows.collision (s : State) : ∃ t, execCollision s = .next t ∧ LineFollows s t := by
  refine ⟨_, rfl, ?_⟩
  split
  · rename_i f _
    refine .ite fun _ => ?_
    have hf : LineFollows s ((s.withLine s.line.countCollision).attemptFailed f) := .failed f
    dsimp only
    split
    · exact hf.findDuplicate (State.attemptFailed_watched _ _)
    · exact hf
  · exact .refl s

theorem LineFollows.attemptObjected (s : State) : ∃ t, execAttemptObjected s = .next t ∧ LineFollows s t := by
  refine ⟨_, rfl, ?_⟩
  split
  · exact .ite fun _ => .failed _
  · exact .refl s

theorem LineFollows.flashHanded {s t : State} (hq : s.QueueOk → t.QueueOk) (hw : t.watched = s.watched)
    (c : FlashContent) : LineFollows s (t.flashHanded s c) := by
  unfold State.flashHanded
  dsimp only
  split
  · exact .settle (fun h => State.alignTo_queueOk (hq h) c) rfl true
  · exact .quiet hq hw

theorem LineFollows.attemptSuccess (s : State) : ∃ t, execAttemptSuccess s = .next t ∧ LineFollows s t := by
  refine ⟨_, rfl, ?_⟩
  split
  · rename_i f _
    refine .ite fun _ => ?_
    have hq : s.QueueOk → ((s.withLine (s.line.succeed f)).orderIfLeft s.line.queue).QueueOk := fun h =>
      State.orderIfLeft_queueOk (State.succeed_queueOk h f) _
    have hw : ((s.withLine (s.line.succeed f)).orderIfLeft s.line.queue).watched = s.watched :=
      State.orderIfLeft_watched _ _
    dsimp only
    split
    · exact .flashHanded hq hw _
    · exact .quiet hq hw
  · exact .refl s

theorem LineFollows.objectedFrame (s : State) (claim head : Byte) (payload : List Byte) (check : Byte) (framing : Bool) :
    ∃ t, execObjectedFrame claim head payload check framing s = .next t ∧ LineFollows s t := by
  have key : ∀ p : Prop, ∀ [Decidable p],
      LineFollows s (if p then (s.setView .busy).raiseObjection else s.setView .busy) := by
    intro p _
    obtain ⟨hq, hs, hw⟩ := State.raiseObjection_queue (s.setView .busy)
    split
    · exact .quiet (fun k => (State.setView_queueOk k .busy).of_line hq hs) hw
    · exact .quiet (State.setView_queueOk · .busy) rfl
  have count : ∀ t : State, LineFollows s t → LineFollows s t.countCheckError := fun t h =>
    ⟨fun k => (h.queue k).of_line rfl rfl, h.reported⟩
  refine ⟨_, rfl, .ite fun _ => ?_⟩
  dsimp only
  split
  · exact count _ (key _)
  · exact key _

theorem LineFollows.stuckLine (s : State) : ∃ t, execStuckLine s = .next t ∧ LineFollows s t := by
  refine ⟨_, rfl, .ite fun _ => ?_⟩
  dsimp only
  split
  · exact .quiet (fun h => State.enterIsolated_queueOk (State.setView_queueOk h .busy)) rfl
  · exact .quiet (fun h => h.of_line rfl rfl) rfl
  · exact .quiet (State.setView_queueOk · .busy) rfl

theorem LineFollows.sampleInput {s t : State} (hl : t.line = s.line) (hw : t.watched = s.watched) (input : SlotInput)
    (x : Int) (beyond : Bool) : LineFollows s (t.sampleInput input x beyond) := by
  refine .pre (fun h => h.of_line (by rw [hl]) (by rw [hl])) hw ?_
  cases input with
  | supply =>
    show LineFollows t (t.sampleSupply x beyond)
    unfold State.sampleSupply
    dsimp only
    split
    · exact .settleAside false
    · exact .aside
  | die =>
    show LineFollows t (t.sampleDie x beyond)
    unfold State.sampleDie
    dsimp only
    split
    · refine .settleAside false ?_; rw [State.judgeThermal_line]; rfl
    · exact .aside
  | battery =>
    show LineFollows t (t.sampleBattery x beyond)
    unfold State.sampleBattery
    dsimp only
    refine .ite fun _ => ?_
    split
    · exact .settleAside false
    · exact .aside
  | channel i =>
    show LineFollows t (t.sampleChannel i x beyond)
    have key : ∀ (u : State) (a b : Bool), u.line = t.line → u.watched = t.watched → LineFollows t
        (if a || b then (if b then (if a then u.trip i else u).currentCompleted i else if a then u.trip i else u).settle t
          false
        else if b then (if a then u.trip i else u).currentCompleted i else if a then u.trip i else u) := by
      intro u a b hl hw
      have hline : (if b then (if a then u.trip i else u).currentCompleted i else if a then u.trip i else u).line =
          t.line := by
        cases a <;> cases b <;> simp [State.currentCompleted_line, State.trip_line, hl]
      split
      · exact .settleAside false hline
      · rename_i h
        obtain ⟨rfl, rfl⟩ : a = false ∧ b = false := by simpa using h
        exact .aside hl hw
    unfold State.sampleChannel
    dsimp only
    generalize (exceedsHard t.cfg.channels[i] x beyond && t.hardApplies i) = a
    generalize t.meas.channels[i].base.take t.cfg.ni x beyond = n
    exact key (t.withMeas _) a n.2 rfl rfl
  | sender n =>
    show LineFollows t (t.sampleSender n x beyond)
    unfold State.sampleSender
    dsimp only
    split
    · refine .settleAside false ?_; rw [State.senderCompleted_line]; rfl
    · exact .aside

theorem LineFollows.sample (s : State) (x : Int) : ∃ t, execSample x s = .next t ∧ LineFollows s t := by
  refine ⟨_, rfl, ?_⟩
  split
  · refine .ite fun _ => ?_
    exact .sampleInput (by rfl) (by rfl) _ _ _
  · exact .refl s

theorem LineFollows.halfTimer (s : State) : ∃ t, execHalfTimerExpiry s = .next t ∧ LineFollows s t := by
  refine ⟨_, rfl, .ite fun _ => ?_⟩
  split
  · exact .settleAside false
  · exact .settle (fun h => State.enterFlashOn_queueOk h _ _) rfl true
  · exact .refl s
  · exact .refl s

theorem LineFollows.joinWindow (s : State) : ∃ t, execJoinWindowExpiry s = .next t ∧ LineFollows s t := by
  refine ⟨_, rfl, .ite fun _ => ?_⟩
  refine .settle (fun h => ?_) rfl false
  dsimp only
  split
  · exact h.of_line rfl rfl
  · exact h.of_line rfl rfl

/-- Every command keeps the Transmit Queue in order, and a change of a watched value leaves the STATUS queued. -/
theorem exec_lineFollows (c : Instr) (s : State) : ∃ t, exec c s = .next t ∧ LineFollows s t := by
  have setView : ∀ v, LineFollows s (s.setView v) := fun v => .quiet (State.setView_queueOk · v) rfl
  cases c with
  | lineBreak => exact ⟨_, rfl, .ite fun _ => setView _⟩
  | truncatedFrame => exact ⟨_, rfl, .ite fun _ => setView _⟩
  | joinStartBit => exact LineFollows.joinStartBit s
  | frameOffer => exact ⟨_, rfl, .frameOffer s⟩
  | arbitrationLoss =>
    refine ⟨_, rfl, ?_⟩
    split
    · exact .ite fun _ => .quiet (fun h => h.of_line rfl rfl) rfl
    · exact .refl s
  | collision => exact LineFollows.collision s
  | attemptObjected => exact LineFollows.attemptObjected s
  | attemptSuccess => exact LineFollows.attemptSuccess s
  | objectedFrame claim head payload check framing => exact LineFollows.objectedFrame s claim head payload check framing
  | statusFrame n p => exact ⟨_, rfl, .receive _ _ fun _ hq hw => .takeStatus hq hw _ _⟩
  | announceFrame n p => exact ⟨_, rfl, .receive _ _ fun _ hq hw => .takeAnnounce hq hw _ _⟩
  | flashFrame n p => exact ⟨_, rfl, .receive _ _ fun _ hq _ => .takeFlash hq _ _⟩
  | replyFrame n p => exact ⟨_, rfl, .receive _ _ fun _ hq hw => .quiet hq hw⟩
  | stuckLine => exact LineFollows.stuckLine s
  | isolationWaitExpiry =>
    refine ⟨_, rfl, .ite fun _ => ?_⟩
    exact .quiet (fun h => State.requestStatus_queueOk (h.of_line rfl rfl)) (State.requestStatus_watched _)
  | periodicStatusTimer =>
    refine ⟨_, rfl, .ite fun _ => ?_⟩
    exact .quiet (fun h => (State.requestStatus_queueOk h).of_line rfl rfl) (State.requestStatus_watched _)
  | statusSpacingEnd => exact ⟨_, rfl, .ite fun _ => .quiet (fun h => h.of_line rfl rfl) rfl⟩
  | ageingTimerExpiry n =>
    refine ⟨_, rfl, ?_⟩
    split
    · exact .ite fun _ => .settleAside false
    · exact .refl s
  | switchRawChange i level =>
    refine ⟨_, rfl, ?_⟩
    split
    · exact .aside
    · exact .aside
  | debounceExpiry i =>
    refine ⟨_, rfl, .ite fun _ => .settleAside false ?_⟩
    show State.line (if _ then _ else _) = s.line
    split
    · rw [State.reloadQuiet_line]; rfl
    · rfl
  | holdTimerExpiry i => exact ⟨_, rfl, .ite fun _ => .settleAside false⟩
  | ignPinChange level =>
    refine ⟨_, rfl, ?_⟩
    split
    · exact .aside
    · exact .aside
  | ignDebounceExpiry => exact ⟨_, rfl, .ite fun _ => .settleAside false⟩
  | passTimer => exact ⟨_, rfl, .ite fun _ => .aside⟩
  | sample x => exact LineFollows.sample s x
  | inrushWindowExpiry i =>
    refine ⟨_, rfl, .ite fun _ => .settleAside false ?_⟩
    split <;> rfl
  | runTimerExpiry i => exact ⟨_, rfl, .ite fun _ => .aside⟩
  | overTimerExpiry i => exact ⟨_, rfl, .ite fun _ => .settleAside false (State.trip_line s i)⟩
  | retryWaitExpiry i => exact ⟨_, rfl, .ite fun _ => .settleAside false⟩
  | openLoadTimerExpiry i =>
    refine ⟨_, rfl, .ite fun _ => ?_⟩
    dsimp only
    split
    · exact .aside
    · exact .aside
  | testDurationExpiry i =>
    refine ⟨_, rfl, .ite fun _ => .settleAside false ?_⟩
    split <;> rfl
  | halfTimerExpiry => exact LineFollows.halfTimer s
  | persistenceTimerExpiry p => exact ⟨_, rfl, .ite fun _ => .settleAside false⟩
  | drainTick =>
    refine ⟨_, rfl, .ite fun _ => .settleAside false ?_⟩
    rw [State.withSupply_line, State.drainStep_line]
  | crankReleaseExpiry => exact ⟨_, rfl, .ite fun _ => .settleAside false⟩
  | holdTimerEnd c => exact ⟨_, rfl, .ite fun _ => .settleAside false⟩
  | rampUpdate => exact ⟨_, rfl, .ite fun _ => .settleAside false⟩
  | fanRunTimerExpiry =>
    refine ⟨_, rfl, .ite fun _ => ?_⟩
    dsimp only
    split
    · exact .aside
    · exact .aside
  | spinUpGraceExpiry => exact ⟨_, rfl, .ite fun _ => .aside⟩
  | stallTimerExpiry =>
    refine ⟨_, rfl, .ite fun _ => .settleAside false ?_⟩
    split <;> rfl
  | stallWaitExpiry => exact ⟨_, rfl, .ite fun _ => .settleAside false⟩
  | fanRetryWaitExpiry => exact ⟨_, rfl, .ite fun _ => .settleAside false⟩
  | deferralEnd => exact ⟨_, rfl, .ite fun _ => .settleAside false⟩
  | gaugeUpdate => exact ⟨_, rfl, .ite fun _ => .aside⟩
  | powerFail => exact ⟨_, rfl, .ite fun _ => .powerDown s⟩
  | powerOnReset p => exact ⟨_, rfl, .takeReset s _ _ _ _⟩
  | serviceRestart p => exact ⟨_, rfl, .ite fun _ => .takeReset s _ _ _ _⟩
  | joinWindowExpiry => exact LineFollows.joinWindow s
  | quietTimerExpiry =>
    refine ⟨_, rfl, .ite fun _ => ?_⟩
    split
    · exact .enterAsleep s
    · exact .aside (State.reloadQuiet_line s) (State.reloadQuiet_watched s)
  | lineWake => exact ⟨_, rfl, .ite fun _ => .wakeUp s _ _⟩
  | inputWake i => exact ⟨_, rfl, .ite fun _ => .aside⟩
  | ignWake => exact ⟨_, rfl, .ite fun _ => .aside⟩
  | wakePulseEnd => exact ⟨_, rfl, .ite fun _ => .aside⟩
  | wakeWaitExpiry => exact ⟨_, rfl, .ite fun _ => .wakeUp s _ _⟩
  | stationClockTick => exact ⟨_, rfl, .ite fun _ => .aside⟩
  | identify n args => exact ⟨_, rfl, .served _ _ _ fun _ hc => .serveIdentify hc _⟩
  | read n args => exact ⟨_, rfl, .served _ _ _ fun _ hc => .serveRead hc _⟩
  | faultCall n args => exact ⟨_, rfl, .served _ _ _ fun _ hc => .serveFaultCall hc _ _⟩
  | faultAck n args => exact ⟨_, rfl, .served _ _ _ fun _ hc => .serveFaultAck hc _⟩
  | faultClear n args => exact ⟨_, rfl, .served _ _ _ fun _ hc => .serveFaultClear hc _⟩
  | setupEnter n args => exact ⟨_, rfl, .served _ _ _ fun _ hc => .serveSetupEnter hc _⟩
  | storeWriteLowHalf n args => exact ⟨_, rfl, .served _ _ _ fun _ hc => .serveStoreWrite hc _ _ _⟩
  | storeWriteHighHalf n args => exact ⟨_, rfl, .served _ _ _ fun _ hc => .serveStoreWrite hc _ _ _⟩
  | storeCommit n args => exact ⟨_, rfl, .served _ _ _ fun _ hc => .serveStoreCommit hc _⟩
  | programmingEnd =>
    refine ⟨_, rfl, .ite fun _ => ?_⟩
    rcases State.withSlot_cases ((s.withStore s.svc.staging).withSvc { s.svc with programming := false })
      (fun t => t.reply 9 .ok []) with ⟨-, e⟩ | ⟨hc, e⟩ <;> rw [e]
    · exact .aside
    · refine LineFollows.replyAside (s := s) hc ?_ ?_ _ _ _ <;> rfl
  | testOutput n args => exact ⟨_, rfl, .service _ _ _ fun _ hc hq hw => .serveTestOutput hc hq hw _⟩
  | setupExit n args => exact ⟨_, rfl, .served _ _ _ fun _ hc => .serveSetupExit hc _⟩
  | restart n args => exact ⟨_, rfl, .served _ _ _ fun _ hc => .serveRestart hc _⟩
  | unknownCommand n code args =>
    refine ⟨_, rfl, ?_⟩
    split
    · exact .refl s
    · exact .served _ _ _ fun _ hc => .reply hc _ _ _
  | lineIdle => exact ⟨_, rfl, .ite fun _ => setView _⟩

theorem step_lineFollows {s t : State} (h : step s = .next t) : LineFollows s t := by
  rcases step_cases s with ⟨-, e⟩ | ⟨c, rest, -, e⟩
  · cases e.symm.trans h; exact .refl s
  · obtain ⟨u, hu, hf⟩ := exec_lineFollows c (s.withPending rest)
    cases (e.trans hu).symm.trans h
    exact LineFollows.pre (t := s.withPending rest) (fun k => k.of_line rfl rfl) rfl hf

/-- Settles O4: a step takes the front command, and every command keeps the queue in order. -/
theorem stepKeepsQueue : Obligations.StepKeepsQueue := fun _ _ h k => (step_lineFollows k).queue h

end Sys2Proof.Machine

end

section
/-! SUPPORT. The commands of the body line alone: the receiver's view, the STATUS timing, the offer, the attempts of the
entry in flight and their ends, Isolated and Muted (R2 to R22). -/

namespace Sys2Proof.Machine

/-! ## The STATUS queued in each case (R14) -/

theorem State.requestStatus_muted {s : State} (h : s.line.sub = .muted) : s.requestStatus = s := if_pos h

theorem State.requestStatus_empty {s : State} (hm : s.line.sub ≠ .muted) (hq : s.line.queue.status = none) :
    s.requestStatus = { s with line := { s.line with queue := { s.line.queue with
      status := some ⟨s.statusContent.payload, s.line.queue.nextAge, 0, false⟩
      nextAge := s.line.queue.nextAge + 1 } } } := by
  unfold State.requestStatus Line.putStatus
  rw [if_neg hm, hq]; rfl

theorem State.requestStatus_queued {s : State} {e : Entry} (hm : s.line.sub ≠ .muted)
    (hq : s.line.queue.status = some e) : s.requestStatus = { s with line := { s.line with
      queue := { s.line.queue with status := some { e with content := s.statusContent.payload } }
      inFlight := s.line.inFlight.map fun f =>
        if f.kind = .status ∧ f.age = e.age then { f with replaced := true } else f } } := by
  unfold State.requestStatus Line.putStatus
  rw [if_neg hm, hq]; rfl

/-! ## The view, the spacing and the periodic timer -/

theorem execArbitrationLoss_next {s : State} {f : InFlight} (hu : s.up = true) (hf : s.line.inFlight = some f) :
    execArbitrationLoss s = .next (s.withLine s.line.lose) := by
  unfold execArbitrationLoss
  rw [hf, hu]; rfl

/-- The period that the table of R22 gives a state is the one the timer is loaded with. -/
theorem State.loadPeriodic_timer {s : State} {p : Timer} (hp : p = (if s.strapInvalid = true then none
    else if s.ctl.state = .standby ∨ s.ctl.state = .setup then some 500 else some 100)) (t : State)
    (hs : t.straps = s.straps) : t.loadPeriodic s.ctl.state = { t with line := { t.line with periodic := p } } := by
  have hi : t.strapInvalid = s.strapInvalid := by unfold State.strapInvalid; rw [hs]
  unfold State.loadPeriodic
  rw [hp, hi]
  cases s.ctl.state <;> rfl

theorem execPeriodicStatusTimer_next {s : State} (hu : s.up = true) (hp : s.line.periodic.isSome = true) :
    exec .periodicStatusTimer s = .next (s.requestStatus.loadPeriodic s.ctl.state) := by
  show execPeriodicStatusTimer s = _
  unfold execPeriodicStatusTimer
  rw [if_pos ⟨hu, hp⟩]

/-- The change that clause 3 of the statement names is a change of a watched value. -/
theorem State.watched_ne {s t : State} (h : t.sw.requests ≠ s.sw.requests ∨ t.sw.fanStep ≠ s.sw.fanStep ∨
    t.sw.dimmer ≠ s.sw.dimmer ∨ t.supply.localLevel ≠ s.supply.localLevel ∨
    (t.sw.ignAccepted = .closed ↔ s.sw.ignAccepted ≠ .closed) ∨ t.res.ign ≠ s.res.ign ∨ t.ctl.state ≠ s.ctl.state) :
    t.watched ≠ s.watched := by
  intro hw
  simp only [State.watched, State.ignInput, Prod.mk.injEq, decide_eq_decide] at hw
  tauto

/-- Settles O17: the line events by their definitions, the timer by what a STATUS request does in each case, and the
extra STATUS by what every step leaves. -/
theorem lineViewAndStatusTimer : Obligations.LineViewAndStatusTimer := by
  refine ⟨fun s hu => ⟨?_, ?_, ?_, fun hf => ?_, fun f hf => ?_⟩, fun s hu hp p hper => ⟨?_, ?_, ?_⟩, ?_⟩
  · exact congrArg _ (if_pos hu)
  · exact congrArg _ (if_pos hu)
  · exact congrArg _ (if_pos hu)
  · exact congrArg _ (if_pos ⟨hu, hf⟩)
  · exact execArbitrationLoss_next hu hf
  · intro hm
    rw [execPeriodicStatusTimer_next hu hp, State.requestStatus_muted hm, State.loadPeriodic_timer hper s rfl]
  · intro hm hq
    rw [execPeriodicStatusTimer_next hu hp, State.loadPeriodic_timer hper _ (State.requestStatus_straps s),
      State.requestStatus_empty hm hq]
  · intro e hm hq
    rw [execPeriodicStatusTimer_next hu hp, State.loadPeriodic_timer hper _ (State.requestStatus_straps s),
      State.requestStatus_queued hm hq]
  · intro s t h hu hm hw
    exact (step_lineFollows h).reported hu hm (State.watched_ne hw)

/-! ## The offer -/

theorem State.takeLine_of_view {s : State} (h : s.line.view ≠ .idle) : s.takeLine = s := by
  rcases State.takeLine_cases s with e | ⟨_, _, _, hv, _⟩
  · exact e
  · exact absurd hv h

theorem State.takeLine_of_choose {s : State} (hi : s.atIdle = true) {kind : FrameKind} {e : Entry}
    (hc : s.line.choose s.strapInvalid = some (kind, e)) : s.takeLine = s.withLine (s.line.offer kind e) := by
  unfold State.takeLine
  rw [if_pos hi, hc]

theorem State.takeLine_of_none {s : State} (hc : s.line.choose s.strapInvalid = none) : s.takeLine = s := by
  unfold State.takeLine
  rw [hc]; split <;> rfl

/-- The head of a list of rising ages is its only entry as old as every other. -/
theorem head?_eq_of_oldest {l : List Entry} (h : l.Pairwise fun x y => x.age < y.age) {e : Entry} (he : e ∈ l)
    (hold : ∀ x ∈ l, e.age ≤ x.age) : l.head? = some e := by
  cases l with
  | nil => cases he
  | cons x t =>
    rcases List.mem_cons.mp he with rfl | ht
    · rfl
    · have := List.rel_of_pairwise_cons h ht
      have := hold x List.mem_cons_self
      omega

/-- The STATUS, where it is queued and its spacing is over. -/
def Line.dueStatus (l : Line) : Option (FrameKind × Entry) :=
  if l.spacing.isSome then none else l.queue.status.map fun e => (FrameKind.status, e)

theorem Line.choose_isolated {l : Line} (h : l.sub = .isolated) :
    l.choose false = if l.probing then l.dueStatus else none := by
  unfold Line.choose
  rw [h]; rfl

theorem Line.choose_other {l : Line} (h : l.sub ≠ .isolated) : l.choose false =
    (l.queue.flash.head?.map fun e => (FrameKind.flash, e)).or (l.dueStatus.or
      ((l.queue.announce.map fun e => (FrameKind.announce, e)).or
        (l.queue.reply.head?.map fun e => (FrameKind.reply, e)))) := by
  unfold Line.choose
  cases hs : l.sub
  · rfl
  · rfl
  · exact absurd hs h

theorem Line.dueStatus_eq_some_iff {l : Line} {kind : FrameKind} {e : Entry} :
    l.dueStatus = some (kind, e) ↔ kind = .status ∧ l.queue.status = some e ∧ l.spacing = none := by
  unfold Line.dueStatus
  cases l.spacing <;> cases l.queue.status <;> simp [and_comm, eq_comm]

/-- What is chosen is eligible. -/
theorem Line.eligible_of_choose {l : Line} {b : Bool} {kind : FrameKind} {e : Entry} (h : l.choose b = some (kind, e)) :
    l.Eligible b kind e := by
  cases b with
  | true => cases h
  | false =>
    by_cases hs : l.sub = .isolated
    · rw [Line.choose_isolated hs] at h
      split at h
      · rename_i hp
        obtain ⟨rfl, hq⟩ := Line.dueStatus_eq_some_iff.mp h
        exact ⟨rfl, hq, fun _ => ⟨hp, rfl⟩⟩
      · cases h
    · rw [Line.choose_other hs] at h
      simp only [Option.or_eq_some_iff, Option.map_eq_some_iff, Prod.mk.injEq, Line.dueStatus_eq_some_iff] at h
      rcases h with ⟨x, hx, rfl, rfl⟩ | ⟨-, ⟨rfl, hq⟩ | ⟨-, ⟨x, hx, rfl, rfl⟩ | ⟨-, x, hx, rfl, rfl⟩⟩⟩
      · exact ⟨rfl, List.mem_of_head? hx, fun k => absurd k hs⟩
      · exact ⟨rfl, hq, fun k => absurd k hs⟩
      · exact ⟨rfl, hx, fun k => absurd k hs⟩
      · exact ⟨rfl, List.mem_of_head? hx, fun k => absurd k hs⟩

/-- The most urgent eligible entry, the oldest of its kind, is chosen (R7, R13). -/
theorem Line.choose_of_most_urgent {l : Line} (hok : l.queue.Ok l.sub) {b : Bool} {kind : FrameKind} {e : Entry}
    (he : l.Eligible b kind e) (first : ∀ (kind' : FrameKind) (e' : Entry), l.Eligible b kind' e' →
      kind.urgency < kind'.urgency ∨ (kind = kind' ∧ e.age ≤ e'.age)) : l.choose b = some (kind, e) := by
  obtain ⟨rfl, hq, hi⟩ := he
  by_cases hs : l.sub = .isolated
  · obtain ⟨hp, rfl⟩ := hi hs
    rw [Line.choose_isolated hs, if_pos hp]
    exact Line.dueStatus_eq_some_iff.mpr ⟨rfl, hq⟩
  · have other : ∀ kind' e', kind'.urgency < kind.urgency → ¬ l.Eligible false kind' e' := fun k x hlt hx => by
      rcases first k x hx with h | ⟨rfl, -⟩ <;> omega
    have noFlash : FrameKind.flash.urgency < kind.urgency → l.queue.flash.head? = none := fun hlt => by
      by_contra hne
      obtain ⟨x, hx⟩ := Option.ne_none_iff_exists'.mp hne
      exact other .flash x hlt ⟨rfl, List.mem_of_head? hx, fun k => absurd k hs⟩
    have noStatus : FrameKind.status.urgency < kind.urgency → l.dueStatus = none := fun hlt => by
      by_contra hne
      obtain ⟨⟨k, x⟩, hx⟩ := Option.ne_none_iff_exists'.mp hne
      obtain ⟨rfl, due⟩ := Line.dueStatus_eq_some_iff.mp hx
      exact other .status x hlt ⟨rfl, due, fun k => absurd k hs⟩
    have noAnnounce : FrameKind.announce.urgency < kind.urgency → l.queue.announce = none := fun hlt => by
      by_contra hne
      obtain ⟨x, hx⟩ := Option.ne_none_iff_exists'.mp hne
      exact other .announce x hlt ⟨rfl, hx, fun k => absurd k hs⟩
    have oldest : ∀ e', l.Eligible false kind e' → e.age ≤ e'.age := fun x hx => by
      rcases first kind x hx with h | ⟨-, h⟩ <;> omega
    rw [Line.choose_other hs]
    cases kind with
    | flash =>
      rw [head?_eq_of_oldest hok.flashRising hq fun x hx => oldest x ⟨rfl, hx, fun k => absurd k hs⟩]
      rfl
    | status =>
      rw [noFlash (by decide), Line.dueStatus_eq_some_iff.mpr ⟨rfl, hq⟩]
      rfl
    | announce =>
      have ha : l.queue.announce = some e := hq
      rw [noFlash (by decide), noStatus (by decide), ha]
      rfl
    | reply =>
      rw [noFlash (by decide), noStatus (by decide), noAnnounce (by decide),
        head?_eq_of_oldest hok.replyApart hq fun x hx => oldest x ⟨rfl, hx, fun k => absurd k hs⟩]
      rfl
    | service => exact hq.elim

theorem execJoinStartBit_of_none {s : State} (hi : s.atIdle = true) (hc : s.line.choose s.strapInvalid = none) :
    execJoinStartBit s = .next (s.setView .receiving) := congrArg _ (if_pos ⟨hi, hc⟩)

theorem execJoinStartBit_of_ne {s : State} (h : ¬(s.atIdle = true ∧ s.line.choose s.strapInvalid = none)) :
    execJoinStartBit s = .next s.takeLine := congrArg _ (if_neg h)

/-- Settles O18: on an idle line the entry chosen is the most urgent one, and it is the line's. -/
theorem offerTakesMostUrgent : Obligations.OfferTakesMostUrgent := by
  refine ⟨fun s hv => ?_, fun s hok hu hv hf => ⟨fun kind e he first t ht => ?_, fun hnone => ?_⟩⟩
  · have hi : ¬(s.atIdle = true ∧ s.line.choose s.strapInvalid = none) := fun k =>
      hv ((State.atIdle_iff s).mp k.1).2.1
    exact ⟨congrArg _ (State.takeLine_of_view hv),
      (execJoinStartBit_of_ne hi).trans (congrArg _ (State.takeLine_of_view hv))⟩
  · have hc := Line.choose_of_most_urgent ((State.queueOk_iff s).mp hok) he first
    have hi : s.atIdle = true := (State.atIdle_iff s).mpr ⟨hu, hv, hf⟩
    have htake : s.takeLine = t := (State.takeLine_of_choose hi hc).trans ht.symm
    refine ⟨congrArg _ htake, (execJoinStartBit_of_ne fun k => ?_).trans (congrArg _ htake)⟩
    rw [hc] at k
    cases k.2
  · have hi : s.atIdle = true := (State.atIdle_iff s).mpr ⟨hu, hv, hf⟩
    have hc : s.line.choose s.strapInvalid = none := by
      by_contra hne
      obtain ⟨⟨kind, e⟩, h⟩ := Option.ne_none_iff_exists'.mp hne
      exact hnone kind e (Line.eligible_of_choose h)
    exact ⟨congrArg _ (State.takeLine_of_none hc), execJoinStartBit_of_none hi hc⟩

end Sys2Proof.Machine
end

section
namespace Sys2Proof.Machine

/-! ## The queued entry of a kind and age -/

theorem find?_age {l : List Entry} (h : l.Pairwise fun x y => x.age < y.age) {e : Entry} (he : e ∈ l) :
    l.find? (fun x => decide (x.age = e.age)) = some e := by
  cases hx : l.find? (fun x => decide (x.age = e.age)) with
  | none => simpa using List.find?_eq_none.mp hx e he
  | some x => rw [eq_of_age_eq h (List.mem_of_find?_eq_some hx) he (by simpa using List.find?_some hx)]

theorem Queue.entry?_status {q : Queue} {e : Entry} (h : q.status = some e) : q.entry? .status e.age = some e := by
  simp [Queue.entry?, h]

theorem Queue.entry?_announce {q : Queue} {e : Entry} (h : q.announce = some e) :
    q.entry? .announce e.age = some e := by simp [Queue.entry?, h]

theorem Queue.Ok.entry?_flash {q : Queue} {sub : SubState} (hok : q.Ok sub) {e : Entry} (h : e ∈ q.flash) :
    q.entry? .flash e.age = some e := find?_age hok.flashRising h

theorem Queue.Ok.entry?_reply {q : Queue} {sub : SubState} (hok : q.Ok sub) {e : Entry} (h : e ∈ q.reply) :
    q.entry? .reply e.age = some e := find?_age hok.replyApart h

theorem find?_age_use (l : List Entry) (age : Nat) :
    (l.map fun x => if x.age = age then { x with used := x.used + 1 } else x).find? (fun x => decide (x.age = age)) =
      (l.find? fun x => decide (x.age = age)).map fun x => { x with used := x.used + 1 } := by
  induction l with
  | nil => rfl
  | cons x t ih => by_cases h : x.age = age <;> simp [h, ih]

/-- The entry that has used an attempt. -/
theorem Queue.entry?_useAttempt {q : Queue} {kind : FrameKind} {age : Nat} {e : Entry} (h : q.entry? kind age = some e) :
    (q.useAttempt kind age).entry? kind age = some { e with used := e.used + 1 } := by
  cases kind with
  | status =>
    obtain ⟨hq, ha⟩ := Option.filter_eq_some_iff.mp h
    have ha : e.age = age := by simpa using ha
    simp [Queue.entry?, Queue.useAttempt, hq, ha]
  | announce =>
    obtain ⟨hq, ha⟩ := Option.filter_eq_some_iff.mp h
    have ha : e.age = age := by simpa using ha
    simp [Queue.entry?, Queue.useAttempt, hq, ha]
  | flash => exact (find?_age_use _ _).trans (congrArg _ h)
  | reply => exact (find?_age_use _ _).trans (congrArg _ h)
  | service => cases h

theorem filter_age_use (l : List Entry) (age : Nat) :
    (l.map fun x => if x.age = age then { x with used := x.used + 1 } else x).filter (fun x => decide (x.age ≠ age)) =
      l.filter fun x => decide (x.age ≠ age) := by
  induction l with
  | nil => rfl
  | cons x t ih => by_cases h : x.age = age <;> simp_all

/-- The attempt an entry has used goes with it. -/
theorem Queue.remove_useAttempt (q : Queue) (kind : FrameKind) (age : Nat) :
    (q.useAttempt kind age).remove kind age = q.remove kind age := by
  have opt : ∀ x : Option Entry,
      (x.map fun x => if x.age = age then { x with used := x.used + 1 } else x).filter (fun x => decide (x.age ≠ age)) =
        x.filter fun x => decide (x.age ≠ age) := by
    intro x
    cases x with
    | none => rfl
    | some x => by_cases h : x.age = age <;> simp [h, Option.filter]
  cases kind with
  | status => simp only [Queue.useAttempt, Queue.remove, opt]
  | announce => simp only [Queue.useAttempt, Queue.remove, opt]
  | flash => simp only [Queue.useAttempt, Queue.remove, filter_age_use]
  | reply => simp only [Queue.useAttempt, Queue.remove, filter_age_use]
  | service => rfl

theorem Queue.remove_status {q : Queue} {e : Entry} (h : q.status = some e) :
    q.remove .status e.age = { q with status := none } := by simp [Queue.remove, h]

theorem Queue.remove_announce {q : Queue} {e : Entry} (h : q.announce = some e) :
    q.remove .announce e.age = { q with announce := none } := by simp [Queue.remove, h]

/-! ## The REPLY entries that order a restart (R187) -/

theorem Queue.restartCount_useAttempt (q : Queue) (kind : FrameKind) (age : Nat) :
    (q.useAttempt kind age).restartCount = q.restartCount := by
  have hres : ∀ e : Entry, (if e.age = age then { e with used := e.used + 1 } else e : Entry).restarts = e.restarts := by
    intro e; split <;> rfl
  cases kind with
  | reply =>
    simp only [Queue.restartCount, Queue.useAttempt, List.filter_map, List.length_map, Function.comp_def, hres]
  | status => rfl
  | announce => rfl
  | flash => rfl
  | service => rfl

theorem Queue.restartCount_remove {q : Queue} {kind : FrameKind} {age : Nat}
    (h : kind = .reply → ∀ e ∈ q.reply, e.age = age → e.restarts = false) :
    (q.remove kind age).restartCount = q.restartCount := by
  cases kind with
  | reply =>
    simp only [Queue.restartCount, Queue.remove, List.filter_filter]
    congr 1
    refine List.filter_congr fun e he => ?_
    by_cases ha : e.age = age
    · simp [h rfl e he ha]
    · simp [ha]
  | status => rfl
  | announce => rfl
  | flash => rfl
  | service => rfl

theorem State.orderIfLeft_of_le {s : State} {q : Queue} (h : q.restartCount ≤ s.line.queue.restartCount) :
    s.orderIfLeft q = s := if_neg (by omega)

/-! ## A failed attempt (R9, R11, R18, R21) -/

theorem execCollision_next {s : State} {f : InFlight} (hu : s.up = true) (hf : s.line.inFlight = some f) :
    exec .collision s = .next (if f.kind = .announce
      then ((s.withLine s.line.countCollision).attemptFailed f).findDuplicate
      else (s.withLine s.line.countCollision).attemptFailed f) := by
  show execCollision s = _
  unfold execCollision
  rw [hf, hu]; rfl

theorem execAttemptObjected_next {s : State} {f : InFlight} (hu : s.up = true) (hf : s.line.inFlight = some f) :
    exec .attemptObjected s = .next ((s.withLine s.line.countObjection).attemptFailed f) := by
  show execAttemptObjected s = _
  unfold execAttemptObjected
  rw [hf, hu]; rfl

theorem Line.failAttempt_of_left {l : Line} {f : InFlight} {e : Entry} (he : l.queue.entry? f.kind f.age = some e)
    (hu : e.used + 1 < f.kind.attempts) : l.failAttempt f = { l with
      view := .busy, run := satInc 255 l.run, queue := l.queue.useAttempt f.kind f.age, inFlight := none } := by
  unfold Line.failAttempt
  dsimp only
  rw [Queue.entry?_useAttempt he]
  simp only [decide_eq_true_eq]
  rw [if_neg (by omega), if_neg (by omega)]

theorem Line.failAttempt_of_last {l : Line} {f : InFlight} {e : Entry} (he : l.queue.entry? f.kind f.age = some e)
    (hu : f.kind.attempts ≤ e.used + 1) : l.failAttempt f = { l with
      view := .busy, run := satInc 255 l.run, queue := l.queue.remove f.kind f.age, inFlight := none
      counters := { l.counters with framesDropped := satInc 65535 l.counters.framesDropped } } := by
  unfold Line.failAttempt
  dsimp only
  rw [Queue.entry?_useAttempt he]
  simp only [decide_eq_true_eq]
  rw [if_pos hu, if_pos hu, Queue.remove_useAttempt]

/-- A failed attempt outside the probe that neither brings the run to 16 nor drops a REPLY that orders a restart. -/
theorem State.attemptFailed_other {s : State} {f : InFlight}
    (hs : s.line.sub = .muted ∨ (s.line.sub = .joined ∧ s.line.run + 1 < 16))
    (hr : s.line.queue.restartCount ≤ (s.line.failAttempt f).queue.restartCount) :
    s.attemptFailed f = s.withLine (s.line.failAttempt f) := by
  have hn : s.line.sub ≠ .isolated := by rcases hs with h | ⟨h, -⟩ <;> rw [h] <;> decide
  unfold State.attemptFailed
  dsimp only
  rw [if_neg hn, State.orderIfLeft_of_le hr, if_neg]
  rintro ⟨hj, h16⟩
  have hrun : (s.line.failAttempt f).run = satInc 255 s.line.run := rfl
  have hsub : (s.line.failAttempt f).sub = s.line.sub := rfl
  rw [State.withLine_line] at hj h16
  rw [hrun] at h16
  rcases hs with h | ⟨-, h⟩
  · rw [hsub, h] at hj; cases hj
  · unfold satInc at h16; omega

/-- While attempts remain the entry stays with one attempt more. -/
theorem State.attemptFailed_of_left {s : State} {f : InFlight} {e : Entry}
    (hs : s.line.sub = .muted ∨ (s.line.sub = .joined ∧ s.line.run + 1 < 16))
    (he : s.line.queue.entry? f.kind f.age = some e) (hu : e.used + 1 < f.kind.attempts) :
    s.attemptFailed f = { s with line := { s.line with
      view := .busy, run := min (s.line.run + 1) 255, queue := s.line.queue.useAttempt f.kind f.age
      inFlight := none } } := by
  have hl := Line.failAttempt_of_left he hu
  rw [State.attemptFailed_other hs (by rw [hl, Queue.restartCount_useAttempt]), hl]; rfl

/-- The last failed attempt drops its entry. -/
theorem State.attemptFailed_of_last {s : State} {f : InFlight} {e : Entry}
    (hs : s.line.sub = .muted ∨ (s.line.sub = .joined ∧ s.line.run + 1 < 16))
    (he : s.line.queue.entry? f.kind f.age = some e) (hu : f.kind.attempts ≤ e.used + 1)
    (hr : f.kind = .reply → ∀ x ∈ s.line.queue.reply, x.age = f.age → x.restarts = false) :
    s.attemptFailed f = { s with line := { s.line with
      view := .busy, run := min (s.line.run + 1) 255, queue := s.line.queue.remove f.kind f.age, inFlight := none
      counters := { s.line.counters with framesDropped := min (s.line.counters.framesDropped + 1) 65535 } } } := by
  have hl := Line.failAttempt_of_last he hu
  rw [State.attemptFailed_other hs (by rw [hl, Queue.restartCount_remove hr]), hl]; rfl

/-- Settles O19: the entry in flight is the queued one of its kind and age, which has used one attempt more. -/
theorem failedAttemptUsesEntry : Obligations.FailedAttemptUsesEntry := by
  refine ⟨fun s f e q hok hu hf hage hs hcase => ?_, fun s f e q hok hu hf hage hs hcase => ?_⟩
  · have hok := (State.queueOk_iff s).mp hok
    obtain ⟨he, hleft, rfl⟩ : s.line.queue.entry? f.kind f.age = some e ∧ e.used + 1 < f.kind.attempts ∧
        s.line.queue.useAttempt f.kind f.age = q := by
      rcases hcase with ⟨hk, hq, hn, rfl⟩ | ⟨hk, hq, hn, rfl⟩ | ⟨hk, hq, hn, rfl⟩ <;> rw [hk, hage]
      · exact ⟨Queue.entry?_status hq, hn, by simp [Queue.useAttempt, hq]⟩
      · exact ⟨Queue.entry?_announce hq, hn, by simp [Queue.useAttempt, hq]⟩
      · exact ⟨hok.entry?_reply hq, hn, rfl⟩
    rw [execAttemptObjected_next hu hf, execCollision_next hu hf,
      State.attemptFailed_of_left (s := s.withLine s.line.countObjection) hs he hleft,
      State.attemptFailed_of_left (s := s.withLine s.line.countCollision) hs he hleft]
    exact ⟨rfl, fun hk => congrArg _ (if_neg hk)⟩
  · have hok := (State.queueOk_iff s).mp hok
    obtain ⟨he, hlast, hr, rfl⟩ : s.line.queue.entry? f.kind f.age = some e ∧ f.kind.attempts ≤ e.used + 1 ∧
        (f.kind = .reply → ∀ x ∈ s.line.queue.reply, x.age = f.age → x.restarts = false) ∧
        s.line.queue.remove f.kind f.age = q := by
      rcases hcase with ⟨hk, hq, rfl⟩ | ⟨hk, hq, hn, rfl⟩ | ⟨hk, hq, hn, rfl⟩ | ⟨hk, hq, hres, hn, rfl⟩ <;>
        rw [hk, hage]
      · exact ⟨hok.entry?_flash hq, Nat.le_add_left _ _, (fun k => by cases k), rfl⟩
      · exact ⟨Queue.entry?_status hq, hn, (fun k => by cases k), Queue.remove_status hq⟩
      · exact ⟨Queue.entry?_announce hq, hn, (fun k => by cases k), Queue.remove_announce hq⟩
      · exact ⟨hok.entry?_reply hq, hn, fun _ x hx ha => by rw [hok.reply_eq hx hq ha]; exact hres, rfl⟩
    rw [execAttemptObjected_next hu hf, execCollision_next hu hf,
      State.attemptFailed_of_last (s := s.withLine s.line.countObjection) hs he hlast hr,
      State.attemptFailed_of_last (s := s.withLine s.line.countCollision) hs he hlast hr]
    exact ⟨rfl, fun hk => congrArg _ (if_neg hk)⟩

end Sys2Proof.Machine
end

section
namespace Sys2Proof.Machine

/-! ## Isolated and Muted (R9, R19 to R21) -/

/-- The failed attempt that brings a Joined station's run to 16 isolates it. -/
theorem State.attemptFailed_isolates {s : State} {f : InFlight} (hs : s.line.sub = .joined) (hr : 15 ≤ s.line.run) :
    s.attemptFailed f = ((s.withLine (s.line.failAttempt f)).orderIfLeft s.line.queue).enterIsolated := by
  have hn : s.line.sub ≠ .isolated := by rw [hs]; decide
  have hrun : (s.line.failAttempt f).run = satInc 255 s.line.run := rfl
  unfold State.attemptFailed
  dsimp only
  rw [if_neg hn, if_pos]
  rw [State.orderIfLeft_line, State.withLine_line]
  refine ⟨hs, ?_⟩
  rw [hrun]; unfold satInc; omega

theorem State.attemptFailed_probe {s : State} {f : InFlight} (hs : s.line.sub = .isolated) :
    s.attemptFailed f = { s with line := { s.line with
      view := .busy, inFlight := none, isoWait := some 1000, probing := false } } := if_pos hs

theorem State.orderIfLeft_faults (s : State) (q : Queue) : (s.orderIfLeft q).faults = s.faults := by
  rcases State.orderIfLeft_cases q s with ⟨-, h⟩ | ⟨-, h⟩ <;> rw [h]; rfl

theorem State.orderIfLeft_ctl (s : State) (q : Queue) : (s.orderIfLeft q).ctl = s.ctl := by
  rcases State.orderIfLeft_cases q s with ⟨-, h⟩ | ⟨-, h⟩ <;> rw [h]; rfl

theorem State.enterIsolated_line (s : State) : s.enterIsolated.line = { s.line with
    sub := .isolated, isoWait := some 1000, probing := false, run := 0, queue := { s.line.queue with flash := [] }
    counters := { s.line.counters with isolationEntries := satInc 65535 s.line.counters.isolationEntries } } := rfl

theorem State.enterIsolated_faults (s : State) :
    s.enterIsolated.faults = s.faults.add .lineIsolated none s.ctl.clock := rfl

/-- What the entry to Isolated leaves of the line and the Fault List. -/
structure State.Isolates (s t : State) : Prop where
  line   : t.line.sub = .isolated ∧ t.line.isoWait = some 1000 ∧ t.line.probing = false ∧ t.line.run = 0 ∧
    t.line.queue.flash = [] ∧ t.line.inFlight = none ∧ t.line.view = .busy ∧
    t.line.counters.isolationEntries = min (s.line.counters.isolationEntries + 1) 65535
  faults : t.faults = s.faults.add .lineIsolated none s.ctl.clock

theorem Line.failAttempt_counters (l : Line) (f : InFlight) :
    (l.failAttempt f).counters = { l.counters with framesDropped := (l.failAttempt f).counters.framesDropped } := by
  unfold Line.failAttempt
  dsimp only
  split
  · split <;> rfl
  · rfl

theorem State.isolates_of_run {s : State} {f : InFlight} (hs : s.line.sub = .joined) (hr : 15 ≤ s.line.run) :
    s.Isolates (s.attemptFailed f) := by
  have hl := State.orderIfLeft_line (s.withLine (s.line.failAttempt f)) s.line.queue
  have hcount : (s.line.failAttempt f).counters.isolationEntries = s.line.counters.isolationEntries := by
    rw [Line.failAttempt_counters]
  rw [State.attemptFailed_isolates hs hr]
  refine ⟨?_, ?_⟩
  · rw [State.enterIsolated_line, hl]
    exact ⟨rfl, rfl, rfl, rfl, rfl, rfl, rfl, by rw [← hcount]; rfl⟩
  · rw [State.enterIsolated_faults, State.orderIfLeft_faults, State.orderIfLeft_ctl]; rfl

theorem execStuckLine_next {s : State} (hu : s.up = true) {t : State}
    (h : t = match s.line.sub with
      | .joined => (s.setView .busy).enterIsolated
      | .isolated => (s.setView .busy).withLine { (s.setView .busy).line with isoWait := some 1000, probing := false }
      | .muted => s.setView .busy) : exec .stuckLine s = .next t := by
  show execStuckLine s = _
  unfold execStuckLine
  rw [if_pos hu, h]; rfl

/-- The end of the wait asks for a STATUS with the probe due. -/
theorem execIsolationWaitExpiry_next {s : State} (hu : s.up = true) (hs : s.line.sub = .isolated)
    (hw : s.line.isoWait.isSome = true) : exec .isolationWaitExpiry s =
      .next (s.withLine { s.line with isoWait := none, probing := true }).requestStatus := by
  show execIsolationWaitExpiry s = _
  unfold execIsolationWaitExpiry
  rw [if_pos ⟨hu, hs, hw⟩]

/-- Settles O20: a failure at a run of 15 or more and a stuck line enter Isolated; there the wait's end queues the STATUS
and a failure begins a new wait. -/
theorem stationIsolatedAndProbes : Obligations.StationIsolatedAndProbes := by
  refine ⟨⟨fun s f c hu hs hf hr hc => ?_, fun s hu hs => ?_, fun s hu hs => ?_, fun s hu hs => ?_⟩,
    fun s hu hs => ?_⟩
  · rcases hc with rfl | ⟨rfl, hk⟩
    · obtain ⟨⟨h1, h2, h3, h4, h5, h6, h7, h8⟩, h9⟩ :=
        State.isolates_of_run (s := s.withLine s.line.countObjection) (f := f) hs hr
      exact ⟨_, execAttemptObjected_next hu hf, h1, h2, h3, h4, h5, h6, h7, h8, h9⟩
    · obtain ⟨⟨h1, h2, h3, h4, h5, h6, h7, h8⟩, h9⟩ :=
        State.isolates_of_run (s := s.withLine s.line.countCollision) (f := f) hs hr
      exact ⟨_, (execCollision_next hu hf).trans (congrArg _ (if_neg hk)), h1, h2, h3, h4, h5, h6, h7, h8, h9⟩
  · exact execStuckLine_next hu (by rw [hs]; rfl)
  · exact execStuckLine_next hu (by rw [hs]; rfl)
  · exact execStuckLine_next hu (by rw [hs]; rfl)
  · have hm : s.line.sub ≠ .muted := by rw [hs]; decide
    refine ⟨fun hw hq => ?_, fun e hw hq => ?_, fun f hf => ⟨?_, fun hk => ?_⟩⟩
    · rw [execIsolationWaitExpiry_next hu hs hw,
        State.requestStatus_empty (s := s.withLine { s.line with isoWait := none, probing := true }) hm hq]
      rfl
    · rw [execIsolationWaitExpiry_next hu hs hw,
        State.requestStatus_queued (s := s.withLine { s.line with isoWait := none, probing := true }) hm hq]
      rfl
    · rw [execAttemptObjected_next hu hf, State.attemptFailed_probe (s := s.withLine s.line.countObjection) hs]; rfl
    · rw [execCollision_next hu hf, if_neg hk, State.attemptFailed_probe (s := s.withLine s.line.countCollision) hs]; rfl

/-- What the finding of a duplicate leaves: outside Muted the station is muted and keeps its REPLY entries alone. -/
theorem State.findDuplicate_of_ne {s : State} (h : s.line.sub ≠ .muted) :
    s.findDuplicate.line = { s.line with
      sub := .muted, isoWait := none, probing := false
      queue := { s.line.queue with status := none, announce := none, flash := [] } } ∧
      s.findDuplicate.faults = s.faults.add .duplicate none s.ctl.clock := by
  unfold State.findDuplicate
  rw [if_neg h]
  exact ⟨rfl, rfl⟩

theorem State.findDuplicate_muted {s : State} (h : s.line.sub = .muted) : s.findDuplicate = s := if_pos h

theorem Queue.useAttempt_reply_of_ne (q : Queue) {kind : FrameKind} (h : kind ≠ .reply) (age : Nat) :
    (q.useAttempt kind age).reply = q.reply := by
  cases kind with
  | reply => exact absurd rfl h
  | status => rfl
  | announce => rfl
  | flash => rfl
  | service => rfl

theorem Queue.remove_reply_of_ne (q : Queue) {kind : FrameKind} (h : kind ≠ .reply) (age : Nat) :
    (q.remove kind age).reply = q.reply := by
  cases kind with
  | reply => exact absurd rfl h
  | status => rfl
  | announce => rfl
  | flash => rfl
  | service => rfl

/-- An attempt of another kind leaves the REPLY entries. -/
theorem Line.failAttempt_reply {l : Line} {f : InFlight} (h : f.kind ≠ .reply) :
    (l.failAttempt f).queue.reply = l.queue.reply := by
  have hu := l.queue.useAttempt_reply_of_ne h f.age
  have hr := fun q : Queue => q.remove_reply_of_ne h f.age
  unfold Line.failAttempt
  dsimp only
  split
  · split
    · exact (hr _).trans hu
    · exact hu
  · exact hu

/-- A failed attempt of another kind than REPLY orders no restart. -/
theorem Line.failAttempt_restartCount {l : Line} {f : InFlight} (h : f.kind ≠ .reply) :
    l.queue.restartCount ≤ (l.failAttempt f).queue.restartCount := by
  unfold Queue.restartCount
  rw [Line.failAttempt_reply h]

/-! ## What the hand-ons do to the cycle and the queued FLASH -/

theorem Line.putStatus_flash (l : Line) (content : List Byte) : (l.putStatus content).queue.flash = l.queue.flash := by
  unfold Line.putStatus; split <;> rfl

theorem State.requestStatus_flash_queue (s : State) : s.requestStatus.line.queue.flash = s.line.queue.flash := by
  unfold State.requestStatus
  split
  · rfl
  · exact Line.putStatus_flash _ _

/-- The hand-ons queue a FLASH where the cycle follows its side set, and nowhere else. -/
theorem State.settle_flash_queue (s b : State) (x : Bool) : (s.settle b x).line.queue.flash =
    (s.stageUnion.stageSupply s.res.ign).stageFlasher.1.line.queue.flash := by
  have hst : ∀ t : State, (t.stageStatus b).line.queue.flash = t.line.queue.flash := by
    intro t
    unfold State.stageStatus
    split
    · exact State.requestStatus_flash_queue t
    · rfl
  unfold State.settle
  dsimp only
  rw [hst, State.stageControl_queue, State.stageLoads_line]

theorem State.settle_flash (s b : State) (x : Bool) :
    (s.settle b x).flash = (s.stageUnion.stageSupply s.res.ign).stageFlasher.1.flash := by
  unfold State.settle; simp

theorem State.requestFlash_of_ne {s : State} (h : s.line.sub ≠ .joined) (x : SideSet) : s.requestFlash x = s := if_neg h

theorem State.enterFlashOn_line_of_ne {s : State} (h : s.line.sub ≠ .joined) (x : SideSet) (k : OnEntry) :
    (s.enterFlashOn x k).line = s.line := by
  have key : ∀ t : State, t.line = s.line → (t.requestFlash x).line = s.line := fun t ht => by
    rw [State.requestFlash_of_ne (by rw [ht]; exact h), ht]
  cases k
  case align f => rfl
  all_goals exact key _ rfl

theorem State.stageFlasher_line_of_ne {s : State} (h : s.line.sub ≠ .joined) : s.stageFlasher.1.line = s.line := by
  unfold State.stageFlasher
  dsimp only
  split
  · rfl
  · split
    · rfl
    · rename_i x _
      split
      · exact State.enterFlashOn_line_of_ne
          (s := s.withFlash { s.flash with reportedLeft := false, reportedRight := false }) h x .start
      · exact State.enterFlashOn_line_of_ne h x .change

/-- What a Muted station's hand-ons leave: the sub-state, the queue and the Fault List. -/
structure StaysMuted (s t : State) : Prop where
  sub      : t.line.sub = .muted
  isoWait  : t.line.isoWait = s.line.isoWait
  probing  : t.line.probing = s.line.probing
  status   : t.line.queue.status = s.line.queue.status
  announce : t.line.queue.announce = s.line.queue.announce
  flash    : s.line.queue.flash = [] → t.line.queue.flash = []
  reply    : t.line.queue.reply = s.line.queue.reply
  faults   : t.faults = s.faults

theorem StaysMuted.refl {s : State} (h : s.line.sub = .muted) : StaysMuted s s :=
  ⟨h, rfl, rfl, rfl, rfl, id, rfl, rfl⟩

theorem StaysMuted.settle {s u : State} (k : StaysMuted s u) (b : State) (x : Bool) : StaysMuted s (u.settle b x) := by
  have h := State.settle_handedOn u b x
  have hsub : (u.settle b x).line.sub = .muted := h.line.sub.trans k.sub
  refine ⟨hsub, h.line.isoWait.trans k.isoWait, h.line.probing.trans k.probing,
    (h.status.resolve_right fun c => c.1 hsub).trans k.status, h.line.announce.trans k.announce, fun hf => ?_,
    h.line.reply.trans k.reply, h.faults.trans k.faults⟩
  have hne : (u.stageUnion.stageSupply u.res.ign).line.sub ≠ .joined := by simp [k.sub]
  rw [State.settle_flash_queue, State.stageFlasher_line_of_ne hne]
  simpa using k.flash hf

theorem StaysMuted.aside {s t : State} (hm : s.line.sub = .muted) (hl : t.line = s.line := by rfl)
    (hf : t.faults = s.faults := by rfl) : StaysMuted s t :=
  ⟨hl ▸ hm, by rw [hl], by rw [hl], by rw [hl], by rw [hl], fun h => by rw [hl, h], by rw [hl], hf⟩

theorem StaysMuted.takeStatus {s : State} (hm : s.line.sub = .muted) (b : State) (n : Nat) (p : List Byte) :
    StaysMuted s (s.takeStatus b n p) := by
  unfold State.takeStatus
  split
  · split
    · exact .settle (.aside hm) b false
    · exact .aside hm
  · exact .refl hm

theorem StaysMuted.takeAnnounce {s : State} (hm : s.line.sub = .muted) (b : State) (n : Nat) (p : List Byte) :
    StaysMuted s (s.takeAnnounce b n p) := by
  unfold State.takeAnnounce
  split
  · exact .refl hm
  · exact .settle (.aside hm) b false

theorem State.alignTo_frame (s : State) (c : FlashContent) :
    ∃ meas' flash', (s.alignTo c).1 = { s with meas := meas', flash := flash' } := by
  unfold State.alignTo
  split
  · split <;> exact ⟨_, _, rfl⟩
  · exact ⟨_, _, rfl⟩

theorem State.takeReceived_frame (s : State) (c : FlashContent) :
    ∃ flash', s.takeReceived c = { s with flash := flash' } := by
  unfold State.takeReceived; split <;> exact ⟨_, rfl⟩

/-- A received FLASH before its hand-ons: the record, the withdrawal and the Flasher's part (R16, R39, R112, R114). -/
def State.flashTaken (s : State) (n : Nat) (byte : Byte) : State :=
  ((((s.withPeers (s.peers.modify n fun r => r.takeFlash (decodeFlash byte))).withLine (s.line.withdraw byte)).alignTo
    (decodeFlash byte)).1).takeReceived (decodeFlash byte)

theorem State.takeFlash_eq (s b : State) (n : Nat) (byte : Byte) : s.takeFlash b n byte =
    (s.flashTaken n byte).settle b (((s.withPeers (s.peers.modify n fun r => r.takeFlash (decodeFlash byte))).withLine
      (s.line.withdraw byte)).alignTo (decodeFlash byte)).2 := rfl

theorem State.flashTaken_frame (s : State) (n : Nat) (byte : Byte) : ∃ meas' flash',
    s.flashTaken n byte = { s with
      peers := s.peers.modify n fun r => r.takeFlash (decodeFlash byte), line := s.line.withdraw byte
      meas := meas', flash := flash' } := by
  obtain ⟨m, f, h⟩ := State.alignTo_frame ((s.withPeers (s.peers.modify n fun r =>
    r.takeFlash (decodeFlash byte))).withLine (s.line.withdraw byte)) (decodeFlash byte)
  unfold State.flashTaken
  rw [h]
  obtain ⟨f', h'⟩ := State.takeReceived_frame _ _
  rw [h']
  exact ⟨_, _, rfl⟩

theorem StaysMuted.takeFlash {s : State} (hm : s.line.sub = .muted) (b : State) (n : Nat) (byte : Byte) :
    StaysMuted s (s.takeFlash b n byte) := by
  rw [State.takeFlash_eq]
  refine .settle ?_ b _
  obtain ⟨m, f, h⟩ := State.flashTaken_frame s n byte
  rw [h]
  exact ⟨hm, rfl, rfl, rfl, rfl, fun hf => by simp [Line.withdraw, hf], rfl, rfl⟩

/-! ## The frame with the station's own number -/

/-- A frame of the station's own number that R6's table allows is handed on by a Muted station. -/
theorem State.receive_own {s : State} {n : Fin 16} {format : Bool} {hand : State → State} (hr : s.receives = true)
    (hf : format = true) (hn : n.val = s.straps.number) :
    s.receive n format hand = hand (s.setView .busy).findDuplicate := by
  unfold State.receive State.duplicateCheck
  rw [if_pos hr, if_pos hf, State.setView_straps, if_pos hn]

theorem State.findDuplicate_sub (s : State) : s.findDuplicate.line.sub = .muted := by
  by_cases h : s.line.sub = .muted
  · rw [State.findDuplicate_muted h, h]
  · rw [(State.findDuplicate_of_ne h).1]

/-- A frame of the station's own number leaves what its finding of a duplicate leaves. -/
theorem exec_ownFrame {s : State} {n : Fin 16} {p : List Byte} {c : Instr} (hr : s.receives = true) (h15 : n.val < 15)
    (hn : n.val = s.straps.number)
    (hc : (c = .statusFrame n p ∧ (p.length = 8 ∨ p.length = 10 ∨ p.length = 12 ∨ p.length = 14)) ∨
      (c = .announceFrame n p ∧ p.length = 11) ∨ (c = .flashFrame n p ∧ p.length = 1) ∨
      (c = .replyFrame n p ∧ 1 ≤ p.length ∧ p.length ≤ 15)) :
    ∃ t, exec c s = .next t ∧ StaysMuted (s.setView .busy).findDuplicate t := by
  have hok : stationNumberOk n = true := by simp [stationNumberOk, h15]
  have hm := State.findDuplicate_sub (s.setView .busy)
  rcases hc with ⟨rfl, hl⟩ | ⟨rfl, hl⟩ | ⟨rfl, hl⟩ | ⟨rfl, hl, hl'⟩
  · exact ⟨_, congrArg Host.Outcome.next (State.receive_own hr (by rcases hl with h | h | h | h <;> simp [hok, statusLengthOk, h]) hn),
      .takeStatus hm s _ p⟩
  · exact ⟨_, congrArg Host.Outcome.next (State.receive_own hr (by simp [hok, hl]) hn), .takeAnnounce hm s _ p⟩
  · exact ⟨_, congrArg Host.Outcome.next (State.receive_own hr (by simp [hok, hl]) hn), .takeFlash hm s _ _⟩
  · exact ⟨_, congrArg Host.Outcome.next (State.receive_own hr (by simp [hok, hl, hl']) hn), .refl hm⟩

/-- What the finding of a duplicate leaves of a line that is not Muted. -/
structure State.Mutes (s t : State) : Prop where
  line   : t.line.sub = .muted ∧ t.line.isoWait = none ∧ t.line.probing = false
  queue  : t.line.queue.status = none ∧ t.line.queue.announce = none ∧ t.line.queue.flash = [] ∧
    t.line.queue.reply = s.line.queue.reply
  kept   : t.line.run = s.line.run ∧ t.line.inFlight = s.line.inFlight ∧ t.line.counters = s.line.counters
  faults : t.faults = s.faults.add .duplicate none s.ctl.clock

theorem State.mutes_of_ne {s : State} (h : s.line.sub ≠ .muted) : s.Mutes s.findDuplicate := by
  obtain ⟨hl, hf⟩ := State.findDuplicate_of_ne h
  exact ⟨by rw [hl]; exact ⟨rfl, rfl, rfl⟩, by rw [hl]; exact ⟨rfl, rfl, rfl, rfl⟩, by rw [hl]; exact ⟨rfl, rfl, rfl⟩, hf⟩

/-- What every failed attempt of another kind than REPLY leaves. -/
theorem State.attemptFailed_leaves (s : State) {f : InFlight} (h : f.kind ≠ .reply) :
    (s.attemptFailed f).line.inFlight = none ∧ (s.attemptFailed f).line.queue.reply = s.line.queue.reply ∧
      (s.attemptFailed f).line.counters.collisions = s.line.counters.collisions ∧ (s.attemptFailed f).ctl = s.ctl := by
  have hr : (s.line.failAttempt f).queue.reply = s.line.queue.reply := Line.failAttempt_reply h
  have hc : (s.line.failAttempt f).counters.collisions = s.line.counters.collisions := by rw [Line.failAttempt_counters]
  have hl := State.orderIfLeft_of_le (s := s.withLine (s.line.failAttempt f)) (Line.failAttempt_restartCount h)
  unfold State.attemptFailed
  dsimp only
  rw [hl]
  split
  · exact ⟨rfl, rfl, rfl, rfl⟩
  · split
    · exact ⟨rfl, hr, hc, rfl⟩
    · exact ⟨rfl, hr, hc, rfl⟩

/-- Settles O21: the collision of an ANNOUNCE counts its attempt first, and a frame with the station's own number is
handed on by a station that the finding has muted. -/
theorem duplicateMutes : Obligations.DuplicateMutes := by
  refine ⟨fun s f hu hf hk hs => ?_, fun s f hu hf hk hs hr => ?_, fun s f hu hf hk hs => ?_,
    fun s n p c hr h15 hn hc => ?_⟩
  · refine ⟨_, (execCollision_next hu hf).trans (congrArg _ (if_pos hk)), ?_⟩
    have hnr : f.kind ≠ .reply := by rw [hk]; decide
    obtain ⟨hfly, hrep, hcol, hctl⟩ := State.attemptFailed_leaves (s.withLine s.line.countCollision) hnr
    obtain ⟨hsub, hfau⟩ : ((s.withLine s.line.countCollision).attemptFailed f).line.sub = s.line.sub ∧
        ((s.withLine s.line.countCollision).attemptFailed f).faults = s.faults := by
      rcases hs with hs | hs
      · rw [State.attemptFailed_probe (s := s.withLine s.line.countCollision) hs]; exact ⟨rfl, rfl⟩
      · rw [State.attemptFailed_other (s := s.withLine s.line.countCollision) (.inr hs)
          (Line.failAttempt_restartCount hnr)]
        exact ⟨rfl, rfl⟩
    obtain ⟨⟨h1, h2, h3⟩, ⟨h4, h5, h6, h7⟩, ⟨-, h9, h10⟩, h11⟩ := State.mutes_of_ne
      (s := (s.withLine s.line.countCollision).attemptFailed f)
      (by rw [hsub]; rcases hs with hs | ⟨hs, -⟩ <;> rw [hs] <;> decide)
    exact ⟨h1, h2, h3, h9.trans hfly, h4, h5, h6, h7.trans hrep, by rw [h10, hcol]; rfl, by rw [h11, hfau, hctl]; rfl⟩
  · refine ⟨_, (execCollision_next hu hf).trans (congrArg _ (if_pos hk)), ?_⟩
    have hnr : f.kind ≠ .reply := by rw [hk]; decide
    obtain ⟨hfly, hrep, hcol, hctl⟩ := State.attemptFailed_leaves (s.withLine s.line.countCollision) hnr
    obtain ⟨⟨hsub, -, -, hrun, -, -, -, hiso⟩, hfau⟩ :=
      State.isolates_of_run (s := s.withLine s.line.countCollision) (f := f) hs hr
    obtain ⟨⟨h1, h2, h3⟩, ⟨h4, h5, h6, h7⟩, ⟨h8, h9, h10⟩, h11⟩ := State.mutes_of_ne
      (s := (s.withLine s.line.countCollision).attemptFailed f) (by rw [hsub]; decide)
    exact ⟨h1, h2, h3, h8.trans hrun, h9.trans hfly, h4, h5, h6, h7.trans hrep, by rw [h10, hcol]; rfl,
      by rw [h10, hiso]; rfl, by rw [h11, hfau, hctl]; rfl⟩
  · refine ⟨_, (execCollision_next hu hf).trans (congrArg _ (if_pos hk)), ?_⟩
    have hnr : f.kind ≠ .reply := by rw [hk]; decide
    obtain ⟨hfly, hrep, hcol, -⟩ := State.attemptFailed_leaves (s.withLine s.line.countCollision) hnr
    have hother := State.attemptFailed_other (s := s.withLine s.line.countCollision) (f := f) (.inl hs)
      (Line.failAttempt_restartCount hnr)
    have hsub : ((s.withLine s.line.countCollision).attemptFailed f).line.sub = .muted := by rw [hother]; exact hs
    rw [State.findDuplicate_muted hsub]
    exact ⟨hsub, by rw [hother]; rfl, hfly, hrep, by rw [hcol]; rfl, by rw [hother]; rfl⟩
  · obtain ⟨t, ht, k⟩ := exec_ownFrame hr h15 hn hc
    refine ⟨fun hm => ?_, fun hm => ?_⟩
    · obtain ⟨⟨-, h2, h3⟩, ⟨h4, h5, h6, h7⟩, -, h8⟩ := State.mutes_of_ne (s := s.setView .busy) hm
      exact ⟨t, ht, k.sub, k.isoWait.trans h2, k.probing.trans h3, k.status.trans h4, k.announce.trans h5, k.flash h6,
        k.reply.trans h7, k.faults.trans h8⟩
    · exact ⟨t, ht, k.sub, by rw [k.faults, State.findDuplicate_muted (s := s.setView .busy) hm]; rfl⟩

end Sys2Proof.Machine
end

section
namespace Sys2Proof.Machine

/-! ## A successful attempt (R11, R14, R21, R22) -/

/-- The line after a success, its queue and the STATUS spacing apart. -/
def Line.sent (l : Line) : Line :=
  { l with
    view := .busy, run := 0, inFlight := none
    sub := if l.sub = .isolated then .joined else l.sub
    isoWait := if l.sub = .isolated then none else l.isoWait
    probing := if l.sub = .isolated then false else l.probing
    counters := { l.counters with framesSent := satInc 65535 l.counters.framesSent } }

theorem Line.succeed_plain {l : Line} {f : InFlight} (hr : f.replaced = false) : l.succeed f = { l.sent with
    spacing := if f.kind = .status then some 20 else l.spacing, queue := l.queue.remove f.kind f.age } := by
  unfold Line.succeed
  rw [hr]; rfl

theorem Line.succeed_replaced {l : Line} {f : InFlight} {e : Entry} (hr : f.replaced = true)
    (he : l.queue.entry? f.kind f.age = some e) : l.succeed f =
      ({ l.sent with
        spacing := if f.kind = .status then some 20 else l.spacing
        queue := l.queue.remove f.kind f.age } : Line).rejoin f.kind e.content := by
  unfold Line.succeed
  rw [hr, he]; rfl

theorem execAttemptSuccess_next {s : State} {f : InFlight} (hu : s.up = true) (hf : s.line.inFlight = some f) :
    exec .attemptSuccess s = .next (if f.kind = .flash
      then ((s.withLine (s.line.succeed f)).orderIfLeft s.line.queue).flashHanded s (decodeFlash (f.content.headD 0))
      else (s.withLine (s.line.succeed f)).orderIfLeft s.line.queue) := by
  show execAttemptSuccess s = _
  unfold execAttemptSuccess
  rw [hf, hu]; rfl

theorem Line.rejoin_reply (l : Line) (kind : FrameKind) (content : List Byte) :
    (l.rejoin kind content).queue.reply = l.queue.reply := by
  cases kind
  case flash => exact (Line.putFlash_kept l content).reply
  case status => exact (Line.putStatus_kept l content).reply
  case announce => unfold Line.rejoin Line.putAnnounce; dsimp only; split <;> rfl
  case reply => rfl
  case service => rfl

theorem Line.rejoin_restartCount (l : Line) (kind : FrameKind) (content : List Byte) :
    (l.rejoin kind content).queue.restartCount = l.queue.restartCount := by
  unfold Queue.restartCount
  rw [Line.rejoin_reply]

/-- A success orders a restart only where a REPLY that orders one leaves. -/
theorem Line.succeed_restartCount {l : Line} {f : InFlight}
    (h : f.kind = .reply → ∀ e ∈ l.queue.reply, e.age = f.age → e.restarts = false) :
    l.queue.restartCount ≤ (l.succeed f).queue.restartCount := by
  have hrem := Queue.restartCount_remove (q := l.queue) (age := f.age) h
  unfold Line.succeed
  dsimp only
  split
  · rw [Line.rejoin_restartCount]; exact hrem.ge
  · exact hrem.ge

theorem State.alignTo_of_apart {s : State} {c : FlashContent}
    (h : s.flash.phase = .idle ∨ c.sides = none ∨ c.sides ≠ s.flash.sides) : s.alignTo c = (s, false) := by
  unfold State.alignTo
  split
  · rename_i x y hx hy
    rw [if_neg]
    rintro ⟨-, hp, rfl⟩
    rcases h with h | h | h
    · exact hp h
    · rw [hx] at h; cases h
    · exact h (hx.trans hy.symm)
  · rfl

theorem State.flashHanded_of_apart {s b : State} {c : FlashContent}
    (h : s.flash.phase = .idle ∨ c.sides = none ∨ c.sides ≠ s.flash.sides) : s.flashHanded b c = s := by
  unfold State.flashHanded
  rw [State.alignTo_of_apart h]; rfl

/-- A success that orders no restart and does not align the cycle ends with the line. -/
theorem execAttemptSuccess_line {s : State} {f : InFlight} (hu : s.up = true) (hf : s.line.inFlight = some f)
    (hr : f.kind = .reply → ∀ e ∈ s.line.queue.reply, e.age = f.age → e.restarts = false)
    (ha : f.kind = .flash → s.flash.phase = .idle ∨ (decodeFlash (f.content.headD 0)).sides = none ∨
      (decodeFlash (f.content.headD 0)).sides ≠ s.flash.sides) :
    exec .attemptSuccess s = .next { s with line := s.line.succeed f } := by
  rw [execAttemptSuccess_next hu hf,
    State.orderIfLeft_of_le (s := s.withLine (s.line.succeed f)) (Line.succeed_restartCount hr)]
  split
  · rename_i hk
    rw [State.flashHanded_of_apart (s := s.withLine (s.line.succeed f)) (ha hk)]; rfl
  · rfl

theorem Queue.Ok.sides_ne {q : Queue} {sub : SubState} (h : q.Ok sub) {x y : Entry} (hx : x ∈ q.flash)
    (hy : y ∈ q.flash) (hne : x.age ≠ y.age) : sideBits x.content ≠ sideBits y.content := by
  have : Std.Symm fun a b : Entry => a.age ≠ b.age → sideBits a.content ≠ sideBits b.content :=
    ⟨fun _ _ hab hba => (hab hba.symm).symm⟩
  exact List.Pairwise.forall_of_forall (R := fun a b : Entry => a.age ≠ b.age → sideBits a.content ≠ sideBits b.content)
    (fun _ _ k => absurd rfl k) (h.flashApart.imp fun hab _ => hab.2) hx hy hne

/-- The content that replaced a FLASH in flight joins anew after it (R14, R15). -/
theorem Queue.Ok.rejoin_flash {l : Line} {q : Queue} {sub : SubState} (hok : q.Ok sub) {e : Entry} (he : e ∈ q.flash) :
    ({ l with queue := q.remove .flash e.age } : Line).putFlash e.content = { l with queue := { q with
      flash := (q.flash.filter fun x => x.age ≠ e.age) ++ [⟨e.content, q.nextAge, 0, false⟩]
      nextAge := q.nextAge + 1 } } := by
  have hnone : (q.flash.filter fun x => decide (x.age ≠ e.age)).find?
      (fun x => decide (sideBits x.content = sideBits e.content)) = none := by
    rw [List.find?_eq_none]
    intro x hx
    obtain ⟨hx, hne⟩ := List.mem_filter.mp hx
    simpa using hok.sides_ne hx he (by simpa using hne)
  have hlen : (q.flash.filter fun x => decide (x.age ≠ e.age)).length < 2 :=
    (List.length_filter_lt_length_iff_exists.mpr ⟨e, he, by simp⟩).trans_le hok.flashCount
  unfold Line.putFlash
  simp only [Queue.remove, hnone]
  exact if_pos hlen

/-- Settles O22: a success removes its entry, and content replaced in flight joins the queue it leaves. -/
theorem attemptSucceeds : Obligations.AttemptSucceeds := by
  intro s f e l hok hu hf hage hl
  have hok := (State.queueOk_iff s).mp hok
  obtain rfl : l = s.line.sent := hl
  refine ⟨fun hk hq => ?_, fun hk hq => ?_, fun hk hq hres hrep => ?_, fun hk hq hrep ha => ?_, fun hk hq hrep ha => ?_⟩
  · have hnext := execAttemptSuccess_line hu hf (by rw [hk]; intro k; cases k) (by rw [hk]; intro k; cases k)
    refine ⟨fun hrep => ?_, fun hrep => ?_⟩
    · rw [hnext, Line.succeed_plain hrep, if_pos hk, hk, hage, Queue.remove_status hq]
    · rw [hnext, Line.succeed_replaced hrep (by rw [hk, hage]; exact Queue.entry?_status hq), if_pos hk, hk, hage,
        Queue.remove_status hq]
      rfl
  · have hnext := execAttemptSuccess_line hu hf (by rw [hk]; intro k; cases k) (by rw [hk]; intro k; cases k)
    have hns : f.kind ≠ .status := by rw [hk]; decide
    refine ⟨fun hrep => ?_, fun hrep => ?_⟩
    · rw [hnext, Line.succeed_plain hrep, if_neg hns, hk, hage, Queue.remove_announce hq]; rfl
    · rw [hnext, Line.succeed_replaced hrep (by rw [hk, hage]; exact Queue.entry?_announce hq), if_neg hns, hk, hage,
        Queue.remove_announce hq]
      rfl
  · have hnext := execAttemptSuccess_line hu hf
      (fun _ x hx hxa => by rw [hok.reply_eq hx hq (hxa.trans hage)]; exact hres) (by rw [hk]; intro k; cases k)
    rw [hnext, Line.succeed_plain hrep, if_neg (by rw [hk]; decide), hk, hage]; rfl
  · have hnext := execAttemptSuccess_line hu hf (by rw [hk]; intro k; cases k) fun _ => ha
    rw [hnext, Line.succeed_plain hrep, if_neg (by rw [hk]; decide), hk, hage]; rfl
  · have hnext := execAttemptSuccess_line hu hf (by rw [hk]; intro k; cases k) fun _ => ha
    have hjoin := hok.rejoin_flash (l := s.line.sent) hq
    rw [hnext, Line.succeed_replaced hrep (by rw [hk, hage]; exact hok.entry?_flash hq), if_neg (by rw [hk]; decide), hk,
      hage]
    exact congrArg (fun x => Host.Outcome.next { s with line := x }) hjoin

/-! ## Frames that change nothing (R5, R6, R10, R12) -/

theorem formatOk_iff (claim head : Byte) : formatOk claim head = true ↔ FormatAllowed claim head := by
  have hh : head.toNat < 256 := head.isLt
  unfold formatOk FormatAllowed
  simp only [← BitVec.toNat_inj, BitVec.reduceToNat]
  generalize claim.toNat = c
  generalize head.toNat = h at hh
  split
  case h_6 n1 n2 n3 n4 n5 =>
    rw [imp_false] at n1 n2 n3 n4 n5
    simp only [Bool.false_eq_true, false_iff]
    omega
  all_goals
    simp only [Bool.and_eq_true, Bool.or_eq_true, decide_eq_true_eq]
    omega

theorem State.raiseObjection_valid {s : State} (h : s.strapInvalid = false) :
    s.raiseObjection = { s with line := { s.line with counters := { s.line.counters with
      objectionsRaised := min (s.line.counters.objectionsRaised + 1) 65535 } } } := if_neg (by simp [h])

theorem State.raiseObjection_invalid {s : State} (h : s.strapInvalid = true) : s.raiseObjection = s := if_pos h

theorem execObjectedFrame_next {s : State} (hr : s.receives = true) (claim head : Byte) (payload : List Byte)
    (check : Byte) (framing : Bool) : exec (.objectedFrame claim head payload check framing) s =
      .next (if checkMismatch claim head payload check
        then (if framing || !formatOk claim head || checkMismatch claim head payload check
          then (s.setView .busy).raiseObjection else s.setView .busy).countCheckError
        else (if framing || !formatOk claim head || checkMismatch claim head payload check
          then (s.setView .busy).raiseObjection else s.setView .busy)) := congrArg Host.Outcome.next (if_pos hr)

theorem checkMismatch_iff (claim head : Byte) (payload : List Byte) (check : Byte) :
    checkMismatch claim head payload check = true ↔ check ≠ crc8 (claim :: head :: payload) := by
  simp [checkMismatch]

/-- The receiver that finds a fault objects, unless it is strap-invalid (R1, R10). -/
theorem State.raiseObjection_of_faulty {s : State} {fault faulty : Bool}
    (h : faulty = true ↔ s.strapInvalid = false ∧ fault = true) :
    (if fault then s.raiseObjection else s) = { s with line := { s.line with counters := { s.line.counters with
      objectionsRaised := if faulty then min (s.line.counters.objectionsRaised + 1) 65535
        else s.line.counters.objectionsRaised } } } := by
  cases fault with
  | false =>
    obtain rfl : faulty = false := by simpa using h
    rfl
  | true =>
    cases hi : s.strapInvalid with
    | false =>
      obtain rfl : faulty = true := by simpa [hi] using h
      exact State.raiseObjection_valid hi
    | true =>
      obtain rfl : faulty = false := by simpa [hi] using h
      exact State.raiseObjection_invalid hi

/-- A frame of another station that R6's table allows is handed on. -/
theorem State.receive_other {s : State} {n : Fin 16} {format : Bool} {hand : State → State} (h : s.Hears n)
    (hf : format = true) : s.receive n format hand = hand (s.setView .busy) := by
  unfold State.receive State.duplicateCheck
  rw [if_pos h.receives, if_pos hf, State.setView_straps, if_neg h.other]

theorem State.Hears.numberOk {s : State} {n : Fin 16} (h : s.Hears n) : stationNumberOk n = true := by
  simp [stationNumberOk, h.station]

/-- Settles O24: the objection and the mismatch are counted by what the receiver found; a REPLY has no reader. -/
theorem framesDiscarded : Obligations.FramesDiscarded := by
  refine ⟨fun s claim head payload check framing mismatch faulty hr hm hf => ?_, fun s n payload hh h1 h15 => ?_⟩
  · obtain rfl : mismatch = checkMismatch claim head payload check := by
      rw [Bool.eq_iff_iff, hm, checkMismatch_iff]
    have hfaulty : faulty = true ↔ (s.setView .busy).strapInvalid = false ∧
        (framing || !formatOk claim head || checkMismatch claim head payload check) = true := by
      rw [hf, ← formatOk_iff]
      simp only [Bool.or_eq_true, Bool.not_eq_true', Bool.not_eq_true]
      exact and_congr_right fun _ => by tauto
    rw [execObjectedFrame_next hr, State.raiseObjection_of_faulty hfaulty]
    cases checkMismatch claim head payload check <;> rfl
  · exact congrArg Host.Outcome.next (State.receive_other hh (by simp [hh.numberOk, h1, h15]))

end Sys2Proof.Machine
end

section
/-! PROOFS. A FLASH taken in: the sender's record, the withdrawal, the received marks and the alignment of the cycle
(R14 to R16, R39, R112 to R119). -/

namespace Sys2Proof.Machine

/-! ## One record changed -/

theorem PeerTable.find_modify_same (t : PeerTable) (n : Nat) {f : PeerRecord → PeerRecord}
    (hf : ∀ r, (f r).number = r.number) : (t.modify n f).find n = (t.find n).map f := by
  unfold PeerTable.find PeerTable.modify
  rw [List.find?_map]
  induction t.records with
  | nil => rfl
  | cons r l ih =>
    by_cases h : r.number = n
    · simp [h, hf]
    · simpa [h] using ih

theorem PeerTable.find_modify_other (t : PeerTable) {n m : Nat} (hm : m ≠ n) {f : PeerRecord → PeerRecord}
    (hf : ∀ r, (f r).number = r.number) : (t.modify n f).find m = t.find m := by
  unfold PeerTable.find PeerTable.modify
  induction t.records with
  | nil => rfl
  | cons r l ih =>
    rw [List.map_cons, List.find?_cons, List.find?_cons, ih]
    by_cases h : r.number = n
    · simp [h, hf, hm.symm]
    · simp [h]

theorem unionOf_modify (u : RequestSet) (t : PeerTable) (n : Nat) {f : PeerRecord → PeerRecord}
    (hf : ∀ r, (f r).counts = r.counts ∧ (f r).requests = r.requests) : unionOf u (t.modify n f) = unionOf u t := by
  unfold unionOf PeerTable.modify
  rw [List.foldl_map]
  congr 1
  funext v r
  split <;> simp [hf]

theorem ignOf_modify (b i : Bool) (t : PeerTable) (n : Nat) {f : PeerRecord → PeerRecord}
    (hf : ∀ r, (f r).isPresent = r.isPresent ∧ (f r).ign = r.ign) : ignOf b i (t.modify n f) = ignOf b i t := by
  unfold ignOf PeerTable.modify
  rw [List.any_map]
  congr 3
  funext r
  dsimp only [Function.comp]
  split <;> simp [hf]

/-! ## The side set of a FLASH -/

theorem sideSetOf_eq_some_iff (n : Nat) (x : SideSet) : sideSetOf n = some x ↔ n = x.code := by
  unfold sideSetOf
  split <;> cases x <;> simp_all [SideSet.code]

theorem sideSetOf_byte_eq_none_iff (b : Byte) : sideSetOf (b.toNat / 64) = none ↔ b.toNat / 64 = 0 := by
  have : b.toNat / 64 < 4 := by have := b.isLt; omega
  generalize b.toNat / 64 = n at this ⊢
  unfold sideSetOf
  split <;> simp_all
  omega

theorem withdrawnBy_iff (b q : Byte) : withdrawnBy b q = true ↔ b.toNat / 64 ≠ 0 ∧ b.toNat / 64 = q.toNat / 64 ∧
    (q.getLsbD 5 = true → b.getLsbD 5 = true) ∧ (q.getLsbD 4 = true → b.getLsbD 4 = true) := by
  unfold withdrawnBy
  cases q.getLsbD 5 <;> cases q.getLsbD 4 <;> simp [and_assoc]

/-! ## Hand-ons that leave the cycle as it is -/

theorem State.stageFlasher_agrees {u : State} (h : u.drives = true → u.FlashAgrees) :
    (u.stageUnion.stageSupply u.res.ign).stageFlasher = (u.stageUnion.stageSupply u.res.ign, false) := by
  unfold State.stageFlasher
  refine if_pos ?_
  by_cases hd : u.drives = true
  · rw [State.stageSupply_res, State.stageSupply_flash]; exact .inr (h hd)
  · exact .inl (by simpa [State.drives, State.strapInvalid] using hd)

/-- Where the cycle's side set is the one asked for, or nothing is driven, the hand-ons leave the cycle alone. -/
theorem State.settle_agrees {u : State} (h : u.drives = true → u.FlashAgrees) (b : State) (x : Bool) :
    (u.settle b x).flash = u.flash ∧ (u.settle b x).line.queue.flash = u.line.queue.flash := by
  rw [State.settle_flash, State.settle_flash_queue, State.stageFlasher_agrees h]
  exact ⟨by simp, by simp⟩

/-- The hand-ons from a state that differs in the line, the measurement and the cycle alone. -/
theorem HandedOn.of_before {u v t : State} (h : HandedOn u t)
    (hv : v = { u with line := v.line, meas := v.meas, flash := v.flash }) (hl : LineKept v.line u.line)
    (hs : u.line.queue.status = v.line.queue.status) (hm : MeasKept v.meas u.meas) : HandedOn v t := by
  rw [hv]
  exact { h with line := hl.trans h.line, status := hs ▸ h.status, meas := hm.trans h.meas }

theorem Line.withdraw_kept (l : Line) (b : Byte) : LineKept l (l.withdraw b) :=
  ⟨rfl, rfl, rfl, rfl, rfl, rfl, rfl, rfl, rfl, rfl⟩

theorem State.alignTo_kept (s : State) (c : FlashContent) :
    MeasKept s.meas (s.alignTo c).1.meas ∧ (s.alignTo c).1.flash.sides = s.flash.sides := by
  unfold State.alignTo
  split
  · rename_i x y _ hy
    split
    · rename_i h
      exact ⟨(State.enterFlashOn_kept s x (.align c.fast)).2, by rw [hy, ← h.2.2]; rfl⟩
    · exact ⟨MeasKept.refl _, rfl⟩
  · exact ⟨MeasKept.refl _, rfl⟩

theorem State.takeReceived_sides (s : State) (c : FlashContent) : (s.takeReceived c).flash.sides = s.flash.sides := by
  unfold State.takeReceived; split <;> rfl

/-- The state as a received FLASH finds the Flasher: the record and the queue have taken it. -/
def State.flashHeard (s : State) (n : Nat) (b : Byte) : State :=
  (s.withPeers (s.peers.modify n fun r => r.takeFlash (decodeFlash b))).withLine (s.line.withdraw b)

theorem State.flashTaken_kept (s : State) (n : Nat) (b : Byte) :
    MeasKept s.meas (s.flashTaken n b).meas ∧ (s.flashTaken n b).flash.sides = s.flash.sides := by
  obtain ⟨hm, hs⟩ := State.alignTo_kept (s.flashHeard n b) (decodeFlash b)
  obtain ⟨f, h⟩ := State.takeReceived_frame ((s.flashHeard n b).alignTo (decodeFlash b)).1 (decodeFlash b)
  exact ⟨(congrArg (fun t : State => MeasKept s.meas t.meas) h).mpr hm, (State.takeReceived_sides _ _).trans hs⟩

/-- A FLASH changes what neither the Union nor IGN reads. -/
theorem State.flashTaken_agrees {s : State} {n : Nat} {b : Byte} (h : s.drives = true → s.FlashAgrees)
    (hd : (s.flashTaken n b).drives = true) : (s.flashTaken n b).FlashAgrees := by
  have hsides := (State.flashTaken_kept s n b).2
  obtain ⟨m, f, e⟩ := State.flashTaken_frame s n b
  rw [e] at hd hsides ⊢
  have hs : s.FlashAgrees := h hd
  unfold State.FlashAgrees at hs ⊢
  dsimp only at hs hsides ⊢
  rw [unionOf_modify _ _ _ (f := fun r => r.takeFlash (decodeFlash b)) fun _ => ⟨rfl, rfl⟩,
    ignOf_modify _ _ _ _ (f := fun r => r.takeFlash (decodeFlash b)) fun _ => ⟨rfl, rfl⟩, hsides]
  exact hs

/-- What a received FLASH leaves, but for the cycle and the directed marks. -/
structure State.FlashLeaves (s : State) (n : Fin 16) (b : Byte) (t : State) : Prop where
  handedOn     : HandedOn { s with line := { s.line with view := .busy }, peers := t.peers } t
  queue        : t.line.queue.flash = s.line.queue.flash.filter (fun e =>
        decide (¬(b.toNat / 64 ≠ 0 ∧ b.toNat / 64 = (e.content.headD 0).toNat / 64 ∧
          ((e.content.headD 0).getLsbD 5 = true → b.getLsbD 5 = true) ∧
          ((e.content.headD 0).getLsbD 4 = true → b.getLsbD 4 = true))))
  record       : ∀ r : PeerRecord, s.peers.find n.val = some r →
        t.peers.find n.val = some { r with bulbLeft := b.getLsbD 5, bulbRight := b.getLsbD 4 }
  others       : ∀ m : Nat, m ≠ n.val → t.peers.find m = s.peers.find m
  changed      : t.peers.changed = s.peers.changed
  inconsistent : t.peers.inconsistent = s.peers.inconsistent

theorem Line.withdraw_flash (l : Line) (b : Byte) : (l.withdraw b).queue.flash = l.queue.flash.filter (fun e =>
    decide (¬(b.toNat / 64 ≠ 0 ∧ b.toNat / 64 = (e.content.headD 0).toNat / 64 ∧
      ((e.content.headD 0).getLsbD 5 = true → b.getLsbD 5 = true) ∧
      ((e.content.headD 0).getLsbD 4 = true → b.getLsbD 4 = true)))) := by
  unfold Line.withdraw
  refine List.filter_congr fun e _ => ?_
  rw [Bool.eq_iff_iff, decide_eq_true_iff, Bool.not_eq_true', ← Bool.not_eq_true, withdrawnBy_iff]

theorem State.takeFlash_leaves {s : State} {n : Fin 16} (b : Byte) (h : s.drives = true → s.FlashAgrees) (x : Bool) :
    s.FlashLeaves n b (((s.setView .busy).flashTaken n b).settle s x) := by
  have hpeers := State.settle_peers ((s.setView .busy).flashTaken n b) s x
  have hkept := (State.flashTaken_kept (s.setView .busy) n b).1
  have hqueue := (State.settle_agrees (State.flashTaken_agrees (s := s.setView .busy) (n := n) (b := b) h) s x).2
  have hon := State.settle_handedOn ((s.setView .busy).flashTaken n b) s x
  obtain ⟨m, f, e⟩ := State.flashTaken_frame (s.setView .busy) n b
  generalize ((s.setView .busy).flashTaken n b).settle s x = t at *
  rw [e] at hpeers hkept hqueue hon
  have hnum : ∀ r : PeerRecord, (r.takeFlash (decodeFlash b)).number = r.number := fun _ => rfl
  refine ⟨hon.of_before (by rw [hpeers]; rfl) (Line.withdraw_kept _ b) rfl hkept, ?_, fun r hr => ?_, fun k hk => ?_, ?_, ?_⟩
  · exact hqueue.trans (Line.withdraw_flash _ b)
  · rw [hpeers]; exact (PeerTable.find_modify_same _ _ hnum).trans (by rw [State.setView_peers, hr]; rfl)
  · rw [hpeers]; exact PeerTable.find_modify_other _ hk hnum
  · rw [hpeers]; rfl
  · rw [hpeers]; rfl

theorem execFlashFrame_next {s : State} {n : Fin 16} (h : s.Hears n) (b : Byte) : exec (.flashFrame n [b]) s =
    .next (((s.setView .busy).flashTaken n b).settle s (((s.setView .busy).flashHeard n b).alignTo (decodeFlash b)).2) := by
  refine congrArg Host.Outcome.next ((State.receive_other h (by simp [h.numberOk])).trans ?_)
  exact State.takeFlash_eq _ _ _ _

theorem State.takeReceived_flash {s : State} {c : FlashContent}
    (h : s.drives = true ∧ s.flash.phase ≠ .idle ∧ c.sides.isSome = true) : (s.takeReceived c).flash =
      { s.flash with memory := { s.flash.memory with current := { s.flash.memory.current with
        receivedLeft := s.flash.memory.current.receivedLeft || c.bulbLeft
        receivedRight := s.flash.memory.current.receivedRight || c.bulbRight } } } := by
  unfold State.takeReceived; rw [if_pos h]; rfl

theorem State.takeReceived_of_not {s : State} {c : FlashContent}
    (h : ¬(s.drives = true ∧ s.flash.phase ≠ .idle ∧ c.sides.isSome = true)) : s.takeReceived c = s := if_neg h

/-- The cycle after a FLASH that aligns nothing: the received marks alone. -/
theorem State.flashTaken_flash_of_apart {s : State} (n : Nat) (b : Byte) (h : s.drives = true →
      (s.flash.phase = .idle ∨ b.toNat / 64 = 0 ∨ some (b.toNat / 64) ≠ s.flash.sides.map SideSet.code)) :
    (s.flashTaken n b).flash = (if s.drives = false ∨ s.flash.phase = .idle ∨ b.toNat / 64 = 0 then s.flash else
        { s.flash with memory := { s.flash.memory with current := { s.flash.memory.current with
          receivedLeft := s.flash.memory.current.receivedLeft || b.getLsbD 5
          receivedRight := s.flash.memory.current.receivedRight || b.getLsbD 4 } } }) := by
  have halign : (s.flashHeard n b).alignTo (decodeFlash b) = (s.flashHeard n b, false) := by
    by_cases hd : s.drives = true
    · refine State.alignTo_of_apart ((h hd).imp_right fun hb => ?_)
      by_cases h0 : b.toNat / 64 = 0
      · exact .inl ((sideSetOf_byte_eq_none_iff b).mpr h0)
      · refine .inr fun heq => hb.resolve_left h0 ?_
        obtain ⟨x, hx⟩ := Option.ne_none_iff_exists'.mp (mt (sideSetOf_byte_eq_none_iff b).mp h0)
        have heq : sideSetOf (b.toNat / 64) = s.flash.sides := heq
        rw [← heq, hx, (sideSetOf_eq_some_iff _ _).mp hx]
        rfl
    · unfold State.alignTo
      split
      · exact if_neg fun k => hd k.1
      · rfl
  have htaken : s.flashTaken n b = (s.flashHeard n b).takeReceived (decodeFlash b) :=
    congrArg (fun r : State × Bool => r.1.takeReceived (decodeFlash b)) halign
  rw [htaken]
  by_cases hp : s.drives = true ∧ s.flash.phase ≠ .idle ∧ (decodeFlash b).sides.isSome = true
  · obtain ⟨hd, hi, hs⟩ := hp
    have h0 : b.toNat / 64 ≠ 0 := fun h0 => by
      have hn : (decodeFlash b).sides = none := (sideSetOf_byte_eq_none_iff b).mpr h0
      rw [hn] at hs; cases hs
    rw [if_neg (by simp [hd, hi, h0])]
    rw [State.takeReceived_flash (by exact ⟨hd, hi, hs⟩)]; rfl
  · rw [if_pos]
    · rw [State.takeReceived_of_not (by exact hp)]; rfl
    · by_contra hc
      push Not at hc
      obtain ⟨hd, hi, h0⟩ := hc
      exact hp ⟨by simpa using hd, hi, Option.isSome_iff_ne_none.mpr (mt (sideSetOf_byte_eq_none_iff b).mp h0)⟩

/-- Settles O27: the FLASH reaches record, queue and received marks, and the hand-ons leave the cycle alone. -/
theorem flashTakenIn : Obligations.FlashTakenIn := by
  intro s n b hh h
  obtain ⟨hon, hq, hr, ho, hc, hi⟩ := State.takeFlash_leaves (n := n) b (fun hd => (h hd).1)
    (((s.setView .busy).flashHeard n b).alignTo (decodeFlash b)).2
  refine ⟨_, execFlashFrame_next hh b, hon, hq, hr, ho, hc, hi, ?_⟩
  rw [(State.settle_agrees (State.flashTaken_agrees (s := s.setView .busy) fun hd => (h hd).1) s _).1]
  exact State.flashTaken_flash_of_apart (s := s.setView .busy) n.val b fun hd => (h hd).2

end Sys2Proof.Machine
end

section
namespace Sys2Proof.Machine

/-! ## The alignment of the cycle (R112, R115, R118, R119) -/

theorem State.alignTo_of_eq {s : State} {c : FlashContent} {x : SideSet} (hd : s.drives = true)
    (hp : s.flash.phase ≠ .idle) (hs : s.flash.sides = some x) (hc : c.sides = some x) :
    s.alignTo c = (s.enterFlashOn x (.align c.fast), true) := by
  unfold State.alignTo
  rw [hc, hs]
  exact if_pos ⟨hd, hp, rfl⟩

theorem SideSet.has_left_iff (x : SideSet) : x.has .left = true ↔ x ≠ .right := by cases x <;> simp [SideSet.has]

theorem SideSet.has_right_iff (x : SideSet) : x.has .right = true ↔ x ≠ .left := by cases x <;> simp [SideSet.has]

theorem SideSet.has_iff (x : SideSet) (d : Side) : x.has d = true ↔
    x = .both ∨ (x = .left ∧ d = .left) ∨ (x = .right ∧ d = .right) := by
  cases x <;> cases d <;> simp [SideSet.has]

/-- The rate decided at an alignment: by the memory and by the frame's flag (R119). -/
theorem sideFast_align (t : PeerTable) (m : BulbMemory) (f : Bool) (d : Side) : sideFast t m (.align f) d = true ↔
    f = true ∨ (m.before.own d || m.earlier.own d || m.before.received d || m.earlier.received d) = true := by
  unfold sideFast
  rw [Bool.or_eq_true, or_comm]

theorem State.enterFlashOn_align {s : State} {x : SideSet} {f fast : Bool} {memory : BulbMemory}
    (hm : memory = (if s.flash.phase = .off then ⟨CycleMarks.clear, s.flash.memory.current, s.flash.memory.before⟩
      else s.flash.memory))
    (hf : fast = true ↔ f = true ∨
      (x ≠ .right ∧ (memory.before.ownLeft || memory.earlier.ownLeft || memory.before.receivedLeft
        || memory.earlier.receivedLeft) = true) ∨
      (x ≠ .left ∧ (memory.before.ownRight || memory.earlier.ownRight || memory.before.receivedRight
        || memory.earlier.receivedRight) = true)) :
    (s.enterFlashOn x (.align f)).flash = { s.flash with
      phase := .on, sides := some x, fast := fast, memory := memory
      half := some (if fast then (roundDiv s.cfg.flashPeriod 4).toNat else s.cfg.flashPeriod / 2) } := by
  have hmem : (if decide (s.flash.phase = .off) then s.flash.memory.push else s.flash.memory) = memory := by
    rw [hm]; by_cases h : s.flash.phase = .off <;> simp [h, BulbMemory.push]
  have hfast : ((x.has .left && sideFast s.peers memory (.align f) .left)
      || (x.has .right && sideFast s.peers memory (.align f) .right)) = fast := by
    rw [Bool.eq_iff_iff, Bool.or_eq_true, Bool.and_eq_true, Bool.and_eq_true, sideFast_align, sideFast_align,
      SideSet.has_left_iff, SideSet.has_right_iff, hf]
    have hx : x ≠ .right ∨ x ≠ .left := by cases x <;> simp
    simp only [CycleMarks.own, CycleMarks.received]
    tauto
  unfold State.enterFlashOn
  dsimp only
  rw [hmem, hfast]
  rfl

/-! ## The directed marks under the hand-ons -/

theorem State.restartIfArmed_mark (s : State) (b : Bool) (i : Fin 8) :
    (s.restartIfArmed b i).mark = s.meas.channels[i].mark ∨ (s.meas.channels[i].mark = .armed ∧
      (s.restartIfArmed b i).mark = .restarted ∧ s.cfg.channels[i].inrush = 0) := by
  unfold State.restartIfArmed
  dsimp only
  split
  · rename_i h; exact .inr ⟨h.2.2, rfl, h.2.1⟩
  · exact .inl rfl

/-- Where the hand-ons leave the cycle alone, a mark changes only as an armed channel comes on without a window. -/
theorem State.settle_mark {u : State} (h : u.drives = true → u.FlashAgrees) (b : State) (x : Bool) (i : Fin 8) :
    (u.settle b x).meas.channels[i].mark = u.meas.channels[i].mark ∨ (u.meas.channels[i].mark = .armed ∧
      (u.settle b x).meas.channels[i].mark = .restarted ∧ u.cfg.channels[i].inrush = 0) := by
  have hmeas : (u.settle b x).meas = ((u.stageUnion.stageSupply u.res.ign).stageEffective.stageChannels x).meas := by
    unfold State.settle State.stageLoads
    dsimp only
    rw [State.stageFlasher_agrees h]
    simp
  rw [hmeas]
  unfold State.stageChannels
  simp only [State.withOut_meas, State.withMeas_meas, Fin.getElem_fin, Vector.getElem_ofFn]
  simpa using State.restartIfArmed_mark (u.stageUnion.stageSupply u.res.ign).stageEffective _ i

theorem State.named_iff (s : State) (x : SideSet) (i : Fin 8) : s.named x i = true ↔
    (s.cfg.channels[i].kind = .flashLamp ∨ s.cfg.channels[i].kind = .stopTurn) ∧
      (x = .both ∨ (x = .left ∧ s.cfg.channels[i].side = .left) ∨ (x = .right ∧ s.cfg.channels[i].side = .right)) ∧
      0 < s.cfg.channels[i].openLimit := by
  unfold State.named
  simp only [Bool.and_eq_true, Bool.or_eq_true, decide_eq_true_eq, SideSet.has_iff, and_assoc]

/-- The hand-ons of an alignment leave the named channels armed, or restarted where the window is 0 ms. -/
theorem State.marksArmed_of_settle {s u : State} {x : SideSet} (h : u.drives = true → u.FlashAgrees)
    (hc : u.cfg = s.cfg) (hm : ∀ i : Fin 8, u.meas.channels[i].mark = if s.named x i then .armed else .none)
    (b : State) (y : Bool) : s.MarksArmed x (u.settle b y) := by
  intro i
  have hi := State.settle_mark h b y i
  rw [hm i, hc] at hi
  rw [← State.named_iff]
  refine ⟨fun hn => ?_, fun hn => ?_⟩
  · rw [if_pos hn] at hi; exact hi.imp_right And.right
  · rw [if_neg hn] at hi; exact hi.resolve_right fun k => by cases k.1

theorem State.armMarks_mark (s : State) (x : SideSet) (i : Fin 8) :
    (s.armMarks x).meas.channels[i].mark = if s.named x i then .armed else .none := by
  simp [State.armMarks]

/-- A received FLASH of the cycle's side set aligns it. -/
theorem State.flashHeard_aligned {s : State} {b : Byte} {x : SideSet} (n : Nat) (hd : s.drives = true)
    (hp : s.flash.phase ≠ .idle) (hs : s.flash.sides = some x) (hb : b.toNat / 64 = x.code) :
    (s.flashHeard n b).alignTo (decodeFlash b) = ((s.flashHeard n b).enterFlashOn x (.align (b.getLsbD 3)), true) :=
  State.alignTo_of_eq (s := s.flashHeard n b) hd hp hs ((sideSetOf_eq_some_iff _ _).mpr hb)

theorem State.flashTaken_aligned {s : State} {b : Byte} {x : SideSet} (n : Nat) (hd : s.drives = true)
    (hp : s.flash.phase ≠ .idle) (hs : s.flash.sides = some x) (hb : b.toNat / 64 = x.code) :
    s.flashTaken n b = ((s.flashHeard n b).enterFlashOn x (.align (b.getLsbD 3))).takeReceived (decodeFlash b) :=
  congrArg (fun r : State × Bool => r.1.takeReceived (decodeFlash b)) (State.flashHeard_aligned n hd hp hs hb)

/-- The line after the station's own FLASH has left it. -/
theorem Queue.Ok.succeed_flash {l : Line} {f : InFlight} {e : Entry} (hok : l.queue.Ok .joined) (hj : l.sub = .joined)
    (hk : f.kind = .flash) (ha : f.age = e.age) (he : e ∈ l.queue.flash) :
    LineKept { l with
        view := .busy, run := 0, inFlight := none
        counters := { l.counters with framesSent := min (l.counters.framesSent + 1) 65535 } } (l.succeed f) ∧
      (l.succeed f).queue.status = l.queue.status ∧
      (l.succeed f).queue.flash = l.queue.flash.filter (fun y => decide (y.age ≠ e.age)) ++
        (if f.replaced then [⟨e.content, l.queue.nextAge, 0, false⟩] else []) := by
  have hns : f.kind ≠ .status := by rw [hk]; decide
  have hsub : l.sub ≠ .isolated := by rw [hj]; decide
  cases hr : f.replaced with
  | false =>
    rw [Line.succeed_plain hr, if_neg hns, hk, ha]
    unfold Line.sent
    rw [if_neg hsub, if_neg hsub, if_neg hsub]
    exact ⟨⟨rfl, rfl, rfl, rfl, rfl, rfl, rfl, rfl, rfl, rfl⟩, rfl, (List.append_nil _).symm⟩
  | true =>
    rw [Line.succeed_replaced hr (by rw [hk, ha]; exact hok.entry?_flash he), if_neg hns, hk, ha]
    show LineKept _ (Line.putFlash _ _) ∧ (Line.putFlash _ _).queue.status = _ ∧ (Line.putFlash _ _).queue.flash = _
    have hjoin := hok.rejoin_flash (l := l.sent) he
    unfold Line.sent at hjoin ⊢
    rw [if_neg hsub, if_neg hsub, if_neg hsub] at hjoin ⊢
    rw [hjoin]
    exact ⟨⟨rfl, rfl, rfl, rfl, rfl, rfl, rfl, rfl, rfl, rfl⟩, rfl, rfl⟩

/-- Settles O28: received or own, the FLASH enters On by the alignment, and the hand-ons leave that cycle alone. -/
theorem flashAligns : Obligations.FlashAligns := by
  intro s c b x memory fast hok hu hd hag hp hs hb hmem hfast
  refine ⟨fun n hc hh => ?_, fun f e hc hf hk hcont hage he hj => ?_⟩
  · subst hc
    have hagrees : ((s.setView .busy).flashTaken n.val b).drives = true →
      ((s.setView .busy).flashTaken n.val b).FlashAgrees := State.flashTaken_agrees (s := s.setView .busy) fun _ => hag
    have htaken := State.flashTaken_aligned (s := s.setView .busy) n.val hd hp hs hb
    have hnext := execFlashFrame_next hh b
    rw [congrArg Prod.snd (State.flashHeard_aligned (s := s.setView .busy) n.val hd hp hs hb :)] at hnext
    obtain ⟨hon, hq, hr, ho, hch, hi⟩ := State.takeFlash_leaves (n := n) b (fun _ => hag) true
    refine ⟨_, hnext, hon, hq, State.marksArmed_of_settle hagrees ?_ ?_ s true, hr, ho, hch, hi, ?_⟩
    · obtain ⟨m, f, e⟩ := State.flashTaken_frame (s.setView .busy) n b
      rw [e]; rfl
    · intro i
      obtain ⟨f, e⟩ := State.takeReceived_frame (((s.setView .busy).flashHeard n b).enterFlashOn x
        (.align (b.getLsbD 3))) (decodeFlash b)
      rw [htaken, e]
      exact State.armMarks_mark _ x i
    · rw [(State.settle_agrees hagrees s true).1, htaken, State.takeReceived_flash,
        State.enterFlashOn_align (s := (s.setView .busy).flashHeard n b) hmem hfast]
      · rfl
      · exact ⟨hd, by rw [State.enterFlashOn_align (s := (s.setView .busy).flashHeard n b) hmem hfast]; simp,
          Option.isSome_iff_exists.mpr ⟨x, (sideSetOf_eq_some_iff _ _).mpr hb⟩⟩
  · subst hc
    have hok := (State.queueOk_iff s).mp hok
    rw [hj] at hok
    obtain ⟨hl, hst, hfl⟩ := hok.succeed_flash hj hk hage he
    have hcycle := State.enterFlashOn_align (s := s.withLine (s.line.succeed f)) hmem hfast
    have hagrees : ((s.withLine (s.line.succeed f)).enterFlashOn x (.align (b.getLsbD 3))).FlashAgrees := by
      unfold State.FlashAgrees at hag ⊢
      rw [hcycle]
      exact hag.trans hs
    have hnext : exec .attemptSuccess s = .next (((s.withLine (s.line.succeed f)).enterFlashOn x
        (.align (b.getLsbD 3))).settle s true) := by
      rw [execAttemptSuccess_next hu hf, if_pos hk, hcont, State.orderIfLeft_of_le (s := s.withLine (s.line.succeed f))
        (Line.succeed_restartCount (by rw [hk]; intro k; cases k))]
      unfold State.flashHanded
      rw [List.headD_cons, State.alignTo_of_eq (s := s.withLine (s.line.succeed f)) hd hp hs
        ((sideSetOf_eq_some_iff _ _).mpr hb)]
      rfl
    refine ⟨_, hnext, (State.settle_handedOn _ s true).of_before rfl hl hst (State.armMarks_meas _ x), ?_,
      State.marksArmed_of_settle (fun _ => hagrees) rfl (State.armMarks_mark _ x) s true, ?_⟩
    · rw [(State.settle_agrees (fun _ => hagrees) s true).2]; exact hfl
    · rw [(State.settle_agrees (fun _ => hagrees) s true).1]; exact hcycle

end Sys2Proof.Machine
end

section
/-! PROOFS. The state after reset meets every invariant (R24, R42, R54, R62, R79, R105, R123, R142, R156, R171, R175). -/

namespace Sys2Proof.Machine

theorem reset_channels (i : Fin 8) : State.reset.out.channels[i] = Channel.init := by revert i; decide

theorem reset_kind (i : Fin 8) : State.reset.cfg.channels[i].kind = .off := by revert i; decide

theorem reset_motor : State.reset.motor = none := by decide

theorem reset_not_counted : ∀ r ∈ State.reset.peers.records, ¬r.Counted := by unfold PeerRecord.Counted; decide

theorem reset_queueOk : State.reset.QueueOk where
  flashCount := by decide
  replyCount := by decide
  flashApart := .nil
  flashAges e he := by cases he
  replyApart := .nil
  replyAges e he := by cases he
  muted h := by cases h
  isolated h := by cases h

theorem reset_inputsOk : State.reset.InputsOk where
  requests _ n _ := by simp [State.reset, WorkingConfig.default, SwitchEntry.default, SenderEntry.default]
  fanStep _ := by decide
  dimmer _ := by decide

theorem reset_resolverOk : State.reset.ResolverOk where
  union _ n := by
    have hu : State.reset.res.union = 0 := rfl
    have hr : State.reset.sw.requests = 0 := rfl
    rw [hu, hr, or_iff_left fun ⟨r, hr, hc, _⟩ => reset_not_counted r hr hc]
  ign _ := by decide
  fanStep _ := ⟨by decide, fun r hr hc => absurd hc (reset_not_counted r hr), .inl rfl⟩
  dimmer _ := ⟨by decide, fun r hr hc => absurd hc (reset_not_counted r hr), .inl rfl⟩
  panel _ := by decide

theorem reset_effectiveOk : State.reset.EffectiveOk where
  beams := by decide
  lighting _ := by decide
  flashing _ := by decide
  passed _ := by decide
  telltales _ := by decide
  charge _ := iff_of_false (by decide) fun h => absurd h.1 (by decide)

theorem reset_flashOk : State.reset.FlashOk where
  sides := by decide
  half := by decide
  effective _ _ := by decide

theorem reset_supplyOk : State.reset.SupplyOk where
  demand _ := by decide
  harness _ := by decide
  localLevel _ := by decide
  effective _ := ⟨by decide, fun r hr hc => absurd hc (reset_not_counted r hr), .inl rfl⟩
  orders _ := by decide

/-- Every entry of the default configuration is of kind Off, and every channel stands in Off with no command. -/
theorem reset_channelsOk : State.reset.ChannelsOk where
  still i _ := by rw [reset_channels]; exact .inl rfl
  unused _ i _ := by rw [reset_channels]; rfl
  lampOff _ i _ _ := by rw [reset_channels]; rfl
  lampOn _ i h := by rw [reset_kind] at h; cases h
  plainOn _ i h := by rw [reset_kind] at h; cases h
  flashing _ i h := by rw [reset_kind] at h; rcases h with h | h <;> cases h
  flashOff _ i h := by rw [reset_kind] at h; cases h
  stopTurn _ i h := by rw [reset_kind] at h; cases h
  lit _ _ i _ h := by rw [reset_channels] at h; rcases h with h | h <;> cases h
  dark _ _ i _ h := by rw [reset_channels] at h; cases h
  waiting _ _ i _ _ := by rw [reset_channels]; exact .inl rfl
  shed _ _ i _ h := absurd (reset_kind i) h
  released _ _ i _ h := by rw [reset_channels] at h; cases h
  duty _ _ i _ := by rw [reset_channels]; rfl

theorem reset_fanOk : State.reset.FanOk where
  turning h := by rcases h with h | h <;> cases h
  deferred m h := by rw [reset_motor] at h; cases h
  still _ := .inl rfl
  rest _ := rfl
  target _ m h := by rw [reset_motor] at h; cases h
  cap _ m h := by rw [reset_motor] at h; cases h
  duty _ _ m h := by rw [reset_motor] at h; cases h

theorem reset_stillAsleep : State.reset.StillAsleep where
  channels h := by cases h
  fan h := by cases h
  gauges h := by cases h
  queue h := by cases h

theorem reset_faultsOk : State.reset.FaultsOk where
  count := by decide
  apart := List.pairwise_singleton _ _
  occurrences := by decide

theorem reset_invalidStill : State.reset.InvalidStill where
  state h := absurd h (by decide)
  inFlight h := absurd h (by decide)
  flash h := absurd h (by decide)
  channels h := absurd h (by decide)
  fan h := absurd h (by decide)
  gauges h := absurd h (by decide)

theorem reset_stationOk : State.reset.StationOk where
  awake _ h := by cases h
  standby _ h := by cases h
  quiet _ _ := rfl
  periodic _ := by decide

/-- Settles O2: each invariant of the one state, block by block. -/
theorem resetMeetsInvariants : Obligations.ResetMeetsInvariants :=
  ⟨⟨rfl, rfl⟩, reset_queueOk, rfl, reset_inputsOk, reset_resolverOk, reset_effectiveOk, reset_flashOk, reset_supplyOk,
    reset_channelsOk, reset_fanOk, reset_stillAsleep,
    ⟨fun i => by rw [reset_channels]; decide, by decide⟩, reset_faultsOk, reset_invalidStill, reset_stationOk⟩

end Sys2Proof.Machine
end

section
/-! PROOFS. Station Control's timers, the following of IGN, and the entry to Asleep (R22, R138, R139, R176 to R183). -/

namespace Sys2Proof.Machine

/-! ## The periodic STATUS timer and IGN under the hand-ons -/

theorem Line.putStatus_periodic (l : Line) (content : List Byte) : (l.putStatus content).periodic = l.periodic := by
  unfold Line.putStatus; split <;> rfl

theorem State.requestStatus_periodic (s : State) : s.requestStatus.line.periodic = s.line.periodic := by
  unfold State.requestStatus
  split
  · rfl
  · exact Line.putStatus_periodic _ _

theorem Line.putFlash_periodic (l : Line) (content : List Byte) : (l.putFlash content).periodic = l.periodic := by
  unfold Line.putFlash
  split
  · rfl
  · dsimp only; split <;> rfl

theorem State.requestFlash_periodic (s : State) (x : SideSet) :
    (s.requestFlash x).line.periodic = s.line.periodic := by
  unfold State.requestFlash
  split
  · exact Line.putFlash_periodic _ _
  · rfl

theorem State.enterFlashOn_periodic (s : State) (x : SideSet) (k : OnEntry) :
    (s.enterFlashOn x k).line.periodic = s.line.periodic := by
  cases k
  case align f => rfl
  all_goals exact State.requestFlash_periodic _ x

theorem State.stageFlasher_periodic (s : State) : s.stageFlasher.1.line.periodic = s.line.periodic := by
  unfold State.stageFlasher
  dsimp only
  split
  · rfl
  · split
    · rfl
    · split <;> exact State.enterFlashOn_periodic _ _ _

theorem State.stageControl_awake {s : State} (e : EffectiveSet) (h : s.ctl.state = .awake) (hi : s.res.ign = false) :
    s.stageControl e = s.enterStandby := by
  unfold State.stageControl; rw [h, hi]

theorem State.stageControl_standby {s : State} (e : EffectiveSet) (h : s.ctl.state = .standby) (hi : s.res.ign = true) :
    s.stageControl e = s.enterAwake := by
  unfold State.stageControl; rw [h, hi]

theorem State.stageControl_other {s : State} (e : EffectiveSet) (ha : ¬(s.ctl.state = .awake ∧ s.res.ign = false))
    (hs : ¬(s.ctl.state = .standby ∧ s.res.ign = true)) :
    (s.stageControl e).ctl.state = s.ctl.state ∧ (s.stageControl e).line = s.line := by
  unfold State.stageControl
  split
  · rename_i h hi; exact absurd ⟨h, hi⟩ ha
  · rename_i h hi; exact absurd ⟨h, hi⟩ hs
  · split
    · exact ⟨rfl, rfl⟩
    · unfold State.reloadQuiet; split <;> exact ⟨rfl, rfl⟩

/-- The state that Station Control finds in the hand-ons. -/
def State.beforeControl (s : State) (x : Bool) : State :=
  (s.stageUnion.stageSupply s.res.ign).stageFlasher.1.stageLoads
    (x || (s.stageUnion.stageSupply s.res.ign).stageFlasher.2)

theorem State.settle_eq (s b : State) (x : Bool) :
    s.settle b x = ((s.beforeControl x).stageControl b.res.eff).stageStatus b := rfl

theorem State.beforeControl_res_ign (s : State) (x : Bool) :
    (s.beforeControl x).res.ign = ignOf s.cfg.ignFromLine s.ignInput s.peers := by
  unfold State.beforeControl State.stageLoads
  rw [State.stageLoad_res, State.stageFan_res, State.stageChannels_res]
  show (State.stageFlasher _).1.res.ign = _
  rw [State.stageFlasher_res, State.stageSupply_res]
  rfl

theorem State.beforeControl_ctl (s : State) (x : Bool) : (s.beforeControl x).ctl = s.ctl := by
  unfold State.beforeControl; simp

theorem State.beforeControl_cfg (s : State) (x : Bool) : (s.beforeControl x).cfg = s.cfg := by
  unfold State.beforeControl; simp

theorem State.beforeControl_straps (s : State) (x : Bool) : (s.beforeControl x).straps = s.straps := by
  unfold State.beforeControl; simp

theorem State.beforeControl_periodic (s : State) (x : Bool) :
    (s.beforeControl x).line.periodic = s.line.periodic := by
  unfold State.beforeControl
  rw [State.stageLoads_line, State.stageFlasher_periodic]
  simp

theorem State.settle_res_ign (s b : State) (x : Bool) :
    (s.settle b x).res.ign = ignOf s.cfg.ignFromLine s.ignInput s.peers := by
  rw [State.settle_eq, State.stageStatus_res, State.stageControl_res, State.beforeControl_res_ign]

theorem State.stageStatus_periodic (s b : State) : (s.stageStatus b).line.periodic = s.line.periodic := by
  unfold State.stageStatus
  split
  · exact State.requestStatus_periodic s
  · rfl

theorem State.settle_ctl (s b : State) (x : Bool) :
    (s.settle b x).ctl = ((s.beforeControl x).stageControl b.res.eff).ctl := by
  rw [State.settle_eq, State.stageStatus_ctl]

theorem State.settle_periodic (s b : State) (x : Bool) :
    (s.settle b x).line.periodic = ((s.beforeControl x).stageControl b.res.eff).line.periodic := by
  rw [State.settle_eq, State.stageStatus_periodic]

theorem State.settle_res_ign_eq (s b : State) (x : Bool) :
    (s.beforeControl x).res.ign = (s.settle b x).res.ign := by
  rw [State.settle_res_ign, State.beforeControl_res_ign]

/-- Station Control follows IGN in the hand-ons, from Awake and Standby alone (R177). -/
theorem State.settle_follows (s b : State) (x : Bool) :
    (s.ctl.state = .awake → (s.settle b x).res.ign = false → (s.settle b x).ctl = { s.ctl with
        state := .standby, quiet := some (s.cfg.quiet * 1000) } ∧
      (s.settle b x).line.periodic = (if s.straps.number = 15 then none else some 500)) ∧
    (s.ctl.state = .standby → (s.settle b x).res.ign = true →
      (s.settle b x).ctl = { s.ctl with state := .awake, quiet := none } ∧
      (s.settle b x).line.periodic = (if s.straps.number = 15 then none else some 100)) ∧
    (¬(s.ctl.state = .awake ∧ (s.settle b x).res.ign = false) →
      ¬(s.ctl.state = .standby ∧ (s.settle b x).res.ign = true) →
      (s.settle b x).ctl.state = s.ctl.state ∧ (s.settle b x).line.periodic = s.line.periodic) := by
  rw [← State.settle_res_ign_eq, State.settle_ctl, State.settle_periodic, ← State.beforeControl_ctl s x,
    ← State.beforeControl_cfg s x, ← State.beforeControl_straps s x, ← State.beforeControl_periodic s x]
  generalize s.beforeControl x = w
  refine ⟨fun h hi => ?_, fun h hi => ?_, fun ha hs => ?_⟩
  · rw [State.stageControl_awake _ h hi]
    exact ⟨rfl, if_congr decide_eq_true_iff rfl rfl⟩
  · rw [State.stageControl_standby _ h hi]
    exact ⟨rfl, if_congr decide_eq_true_iff rfl rfl⟩
  · obtain ⟨hc, hl⟩ := State.stageControl_other b.res.eff ha hs
    exact ⟨hc, by rw [hl]⟩

/-! ## The conditions of sleep (R179) -/

theorem EffectiveSet.quiet_iff (e : EffectiveSet) : e.quiet = true ↔ ∀ n, n < 14 → e.byCode n = false := by
  constructor
  · intro h
    simp only [EffectiveSet.quiet, EffectiveSet.functions, EffectiveSet.empty, decide_eq_true_eq,
      EffectiveSet.mk.injEq, and_true] at h
    obtain ⟨h0, h1, h2, h3, h4, h5, h6, h7, h8, h9, h10, h11, h12, h13⟩ := h
    intro n hn
    interval_cases n <;> assumption
  · intro h
    simp only [EffectiveSet.quiet, EffectiveSet.functions, EffectiveSet.empty, decide_eq_true_eq,
      EffectiveSet.mk.injEq, and_true]
    exact ⟨h 0 (by decide), h 1 (by decide), h 2 (by decide), h 3 (by decide), h 4 (by decide), h 5 (by decide),
      h 6 (by decide), h 7 (by decide), h 8 (by decide), h 9 (by decide), h 10 (by decide), h 11 (by decide),
      h 12 (by decide), h 13 (by decide)⟩

theorem PeerTable.anyAwake_iff (t : PeerTable) :
    t.anyAwake = true ↔ ∃ r ∈ t.records, r.state = .present ∧ r.station = .awake := by
  simp [PeerTable.anyAwake, PeerRecord.isPresent]

theorem State.maySleep_iff (s : State) : s.maySleep = true ↔ (∀ n, n < 14 → s.res.eff.byCode n = false) ∧
    s.res.ign = false ∧ ∀ r ∈ s.peers.records, r.state = .present → r.station ≠ .awake := by
  unfold State.maySleep
  rw [Bool.and_eq_true, Bool.and_eq_true, EffectiveSet.quiet_iff, Bool.not_eq_true', Bool.not_eq_true',
    ← Bool.not_eq_true s.peers.anyAwake, PeerTable.anyAwake_iff, and_assoc]
  push Not
  rfl

theorem execQuietTimerExpiry_next {s : State} (hu : s.up = true) (hs : s.ctl.state = .standby)
    (hq : s.ctl.quiet.isSome = true) :
    exec .quietTimerExpiry s = .next (if s.maySleep then s.enterAsleep else s.reloadQuiet) :=
  congrArg Host.Outcome.next (if_pos ⟨hu, hs, hq⟩)

theorem State.reloadQuiet_standby {s : State} (h : s.ctl.state = .standby) :
    s.reloadQuiet = { s with ctl := { s.ctl with quiet := some (s.cfg.quiet * 1000) } } := if_pos h

/-! ## The join window (R176) -/

theorem State.ResolverOk.ign_eq {s : State} (h : s.ResolverOk) (hu : s.up = true) :
    ignOf s.cfg.ignFromLine s.ignInput s.peers = s.res.ign := by
  rw [Bool.eq_iff_iff, h.ign hu]
  simp [ignOf, State.ignInput, PeerRecord.isPresent]

theorem execJoinWindowExpiry_next {s : State} (hu : s.up = true) (hn : s.straps.number < 15)
    (hs : s.ctl.state = .starting) (hj : s.ctl.join.isSome = true) {h : Hold}
    (hh : h = if s.straps.number = 0 then ⟨false, none⟩ else ⟨true, some (s.straps.number * 50)⟩) :
    exec .joinWindowExpiry s = .next (State.settle { s with
        ctl := { s.ctl with
          join := none, state := if s.res.ign then .awake else .standby
          quiet := if s.res.ign then none else some (s.cfg.quiet * 1000) }
        line := { s.line with periodic := some (if s.res.ign then 100 else 500) }
        supply := { s.supply with holds := ⟨h, h, h⟩ } } s false) := by
  have hv : s.strapInvalid = false := by simp [State.strapInvalid]; omega
  have hhold : startHold s.stagger = h := by
    rw [hh]; simp [startHold, State.stagger]
  refine (congrArg Host.Outcome.next (if_pos ⟨hu, hv, hs, hj⟩)).trans ?_
  refine congrArg (fun u : State => Host.Outcome.next (u.settle s false)) ?_
  dsimp only
  rw [hhold]
  have hper : ∀ n : Nat, (if s.strapInvalid = true then none else some n) = some n := fun n => by rw [hv]; rfl
  have hw : (s.withCtl { s.ctl with join := none }).res.ign = s.res.ign := rfl
  rw [hw]
  cases s.res.ign
  · exact congrArg (fun p => ({ s with
      ctl := { s.ctl with join := none, state := .standby, quiet := some (s.cfg.quiet * 1000) }
      line := { s.line with periodic := p }, supply := { s.supply with holds := ⟨h, h, h⟩ } } : State)) (hper 500)
  · exact congrArg (fun p => ({ s with
      ctl := { s.ctl with join := none, state := .awake, quiet := none }
      line := { s.line with periodic := p }, supply := { s.supply with holds := ⟨h, h, h⟩ } } : State)) (hper 100)

/-- Settles O49: Station Control is the last to act in the hand-ons, so its state there follows IGN alone. -/
theorem stationTimersExpire : Obligations.StationTimersExpire := by
  refine ⟨fun s before t fresh ht => ht ▸ State.settle_follows s before fresh, fun s hu =>
    ⟨fun u h hn hs hj hh hueq => ?_, fun hs hq hwhy => ?_, congrArg Host.Outcome.next (if_pos hu)⟩⟩
  · subst hueq
    refine ⟨execJoinWindowExpiry_next hu hn hs hj hh, State.settle_handedOn _ s false, fun hr => ?_⟩
    have hi : ∀ v : Line, ∀ c : Control, ∀ m : Supply,
        (State.settle { s with ctl := c, line := v, supply := m } s false).res.ign = s.res.ign := fun v c m =>
      (State.settle_res_ign _ s false).trans (hr.ign_eq hu)
    refine ((State.settle_follows _ s false).2.2 ?_ ?_).1 <;> rw [hi] <;> cases s.res.ign <;> simp
  · have hm : ¬s.maySleep = true := by
      rw [State.maySleep_iff]
      rintro ⟨hf, hi, hp⟩
      rcases hwhy with ⟨n, hn, h⟩ | h | ⟨r, hr, h, h'⟩
      · rw [hf n hn] at h; cases h
      · rw [hi] at h; cases h
      · exact hp r hr h h'
    rw [execQuietTimerExpiry_next hu hs hq, if_neg hm, State.reloadQuiet_standby hs]

/-! ## Entry to Asleep (R180) -/

/-- The station as it sleeps, before a restart that the emptied queue orders. -/
def State.asleep (s : State) : State :=
  { s with
    ctl := { s.ctl with state := .asleep, join := none, quiet := none, wake := .none }
    line := s.line.asleep
    out := ⟨Vector.ofFn fun i => s.out.channels[i].stand, 0⟩
    fan := { s.fan.rest .off with stallCount := 0, ramp := none }
    gauges := ⟨Vector.ofFn fun i => s.gauges.drives[i].atRest, none⟩
    flash := { s.flash with phase := .idle, sides := none, half := none, reportedLeft := false, reportedRight := false }
    meas := s.clearMarks.meas.asleep
    peers := { s.peers with records := s.peers.records.map fun r => { r with ageing := none } }
    sw := s.sw.asleep
    supply := s.supply.asleep }

theorem State.enterAsleep_eq (s : State) : s.enterAsleep = s.asleep.orderIfLeft s.line.queue := by
  unfold State.enterAsleep
  refine congrArg (State.orderIfLeft s.line.queue) ?_
  simp only [State.standDown, State.flashIdle, State.clearMarks, State.withCtl, State.withLine, State.withSupply,
    State.withSw, State.withPeers, State.withMeas, State.withFan, State.withOut, State.withGauges, State.withFlash,
    State.asleep]

theorem Queue.restartCount_pos_iff (q : Queue) : 0 < q.restartCount ↔ ∃ e ∈ q.reply, e.restarts = true := by
  simp [Queue.restartCount, List.length_pos_iff_exists_mem]

/-- A restart that a queued REPLY orders is ordered as the queue is emptied (R187). -/
theorem State.enterAsleep_of_ordered {s : State} {ordered : Bool}
    (h : ordered = true ↔ ∃ e ∈ s.line.queue.reply, e.restarts = true) : s.enterAsleep = { s.asleep with
      svc := if ordered then { s.svc with restartOrdered := true, programming := false } else s.svc
      store := if ordered = true ∧ s.svc.programming = true then none else s.store } := by
  rw [← Queue.restartCount_pos_iff] at h
  rw [State.enterAsleep_eq]
  cases ordered with
  | true =>
    refine (if_pos (h.mp rfl)).trans ?_
    have hst : (if s.svc.programming = true then none else s.store) =
        if true = true ∧ s.svc.programming = true then none else s.store := by simp
    exact congrArg (fun m => { s.asleep with
      svc := { s.svc with restartOrdered := true, programming := false }, store := m }) hst
  | false => exact if_neg fun k => by cases h.mpr k

theorem Measurement.asleep_record (m : Measurement) (input : SlotInput) : m.asleep.record input = { Record.init with
    latest := (m.record input).latest, latestOver := (m.record input).latestOver } := by
  cases input <;> simp [Measurement.asleep, Measurement.record, Record.asleep, Record.init]

theorem State.clearMarks_record (s : State) (input : SlotInput) :
    (s.clearMarks.meas.record input) = s.meas.record input := by
  cases input <;> simp [State.clearMarks, Measurement.record]

/-- Settles O50: the conditions hold, and Asleep is entered block by block. -/
theorem quietStationSleeps : Obligations.QuietStationSleeps := by
  intro s ordered hu hs hq hf hi hp hord
  have hnext : exec .quietTimerExpiry s = .next s.enterAsleep := by
    rw [execQuietTimerExpiry_next hu hs hq, if_pos ((State.maySleep_iff s).mpr ⟨hf, hi, hp⟩)]
  rw [State.enterAsleep_of_ordered hord] at hnext
  refine ⟨_, hnext, rfl, rfl, fun i => ?_, rfl, rfl, rfl, fun i => ?_, rfl, rfl, rfl, fun input => ?_, fun i => ?_,
    fun n => ?_, rfl, fun i => ?_, rfl, rfl, rfl, rfl, rfl, rfl, rfl⟩
  · simp [State.asleep, Channel.stand, Channel.goTo, Channel.init]
  · simp [State.asleep, Gauge.atRest]
  · exact (Measurement.asleep_record _ input).trans (by rw [State.clearMarks_record])
  · simp [State.asleep, Measurement.asleep]
  · simp [State.asleep, Measurement.asleep]
  · simp [State.asleep, SwitchInputs.asleep]

end Sys2Proof.Machine
end

section
/-! PROOFS. The taking of a SERVICE frame, and the entry to Setup (R17, R105, R156, R171, R182, R184, R187, R188). -/

namespace Sys2Proof.Machine

/-! ## A SERVICE frame that the station takes (R184) -/

theorem State.up_of_receives {s : State} (h : s.receives = true) : s.up = true := by
  simp only [State.receives, Bool.and_eq_true] at h
  exact h.1.1

theorem State.setView_reloadQuiet (s : State) : (s.setView .busy).reloadQuiet = s.atSlotEnd := by
  unfold State.reloadQuiet State.atSlotEnd
  by_cases h : s.ctl.state = .standby
  · rw [if_pos h]; exact if_pos h
  · rw [if_neg h]; exact if_neg h

/-- The command of a frame addressed to the station is served at the end of its slot. -/
theorem State.service_eq {s : State} {n : Fin 16} {broadcast : Bool} (h : s.Serves n broadcast) {args : List Byte}
    (ha : args.length ≤ 7) (serve : State → State) :
    (s.service n broadcast args fun t => t.withSlot serve) = serve s.atSlotEnd := by
  have hheard : (s.setView .busy).heard n = s.atSlotEnd := by
    rw [← State.setView_reloadQuiet]
    refine if_pos ?_
    rcases h.addressed with k | ⟨-, k⟩ <;> simp [State.addressed, k]
  have htakes : s.atSlotEnd.takes n broadcast = true := by
    have hn := h.number
    rcases h.addressed with k | ⟨b, k⟩ <;> simp [State.takes, State.strapInvalid, State.addressed, State.atSlotEnd, *]
  have hslot : s.atSlotEnd.line.replyFull = false := (Line.replyFull_eq_false_iff _).mpr h.slot
  unfold State.service State.withSlot
  rw [if_pos h.receives, if_pos (by simpa [serviceArgsOk] using ha)]
  dsimp only
  rw [hheard, if_pos htakes, hslot]
  rfl

theorem State.atSlotEnd_state (s : State) : s.atSlotEnd.ctl.state = s.ctl.state := by
  unfold State.atSlotEnd; dsimp only; split <;> rfl

/-! ## The levels that the peers give -/

theorem PeerRecord.counts_iff (r : PeerRecord) : r.counts = true ↔ r.Counted := by
  simp [PeerRecord.counts, PeerRecord.Counted]

theorem effectiveShed_cons (own n i : Nat) (r : PeerRecord) (l : List PeerRecord) :
    effectiveShed own ⟨r :: l, n, i⟩ = effectiveShed (if r.counts then max own r.shed else own) ⟨l, n, i⟩ := rfl

/-- The effective shed level is the highest of the station's own and the counted peers' (R125). -/
theorem effectiveShed_spec (own : Nat) (t : PeerTable) : own ≤ effectiveShed own t ∧
    (∀ r ∈ t.records, r.Counted → r.shed ≤ effectiveShed own t) ∧
    (effectiveShed own t = own ∨ ∃ r ∈ t.records, r.Counted ∧ effectiveShed own t = r.shed) := by
  obtain ⟨l, n, i⟩ := t
  induction l generalizing own with
  | nil => exact And.intro (Nat.le_refl own) (And.intro (fun r hr => by cases hr) (Or.inl rfl))
  | cons r l ih =>
    rw [effectiveShed_cons]
    by_cases hc : r.counts = true
    · rw [if_pos hc]
      obtain ⟨hle, hall, hatt⟩ := ih (max own r.shed)
      refine ⟨le_trans (le_max_left _ _) hle, ?_, ?_⟩
      · intro x hx hxc
        rcases List.mem_cons.mp hx with rfl | hx
        · exact le_trans (le_max_right _ _) hle
        · exact hall x hx hxc
      · rcases hatt with h | ⟨x, hx, h⟩
        · rcases max_choice own r.shed with k | k
          · exact .inl (h.trans k)
          · exact .inr ⟨r, List.mem_cons_self, (PeerRecord.counts_iff r).mp hc, h.trans k⟩
        · exact .inr ⟨x, List.mem_cons_of_mem _ hx, h⟩
    · rw [if_neg hc]
      obtain ⟨hle, hall, hatt⟩ := ih own
      refine ⟨hle, ?_, hatt.imp_right fun ⟨x, hx, h⟩ => ⟨x, List.mem_cons_of_mem _ hx, h⟩⟩
      intro x hx hxc
      rcases List.mem_cons.mp hx with rfl | hx
      · exact absurd ((PeerRecord.counts_iff x).mpr hxc) hc
      · exact hall x hx hxc

theorem State.SupplyOk.effective_eq {s : State} (h : s.SupplyOk) (hu : s.up = true) :
    effectiveShed s.supply.localLevel s.peers = s.supply.effective := by
  obtain ⟨hle, hall, hatt⟩ := h.effective hu
  obtain ⟨kle, kall, katt⟩ := effectiveShed_spec s.supply.localLevel s.peers
  refine le_antisymm ?_ ?_
  · rcases katt with k | ⟨r, hr, hc, k⟩
    · rw [k]; exact hle
    · rw [k]; exact hall r hr hc
  · rcases hatt with k | ⟨r, hr, hc, k⟩
    · rw [k]; exact kle
    · rw [k]; exact kall r hr hc

/-- The orders that the levels and holds give, at any level (R133). -/
theorem State.SupplyOk.orders_eq {s : State} (h : s.SupplyOk) (hu : s.up = true) : s.supply.orders =
    ⟨orderOf s.supply.effective s.supply.crank s.supply.thermal 1,
      orderOf s.supply.effective s.supply.crank s.supply.thermal 2,
      orderOf s.supply.effective s.supply.crank s.supply.thermal 3⟩ := by
  rw [h.orders hu]
  generalize s.supply.effective = e
  cases s.supply.thermal <;> cases s.supply.crank <;>
    rcases e with _ | _ | _ | e <;> simp [orderOf, orderOfLevel]

theorem Hold.ordered_self (h : Hold) (starting : Bool) (delay : Nat) (o : Order) : h.ordered starting delay o o = h := by
  unfold Hold.ordered
  rw [if_neg fun k => k.2 k.1, if_neg fun k => k.1 k.2]

/-! ## The hand-ons where nothing is driven -/

/-- What the hand-ons leave of a channel where nothing is driven. -/
structure ChannelStill (c d : Channel) : Prop where
  state : d.state = c.state
  duty  : d.duty = c.duty
  retry : c.retry = 0 → d.retry = 0

theorem ChannelStill.refl (c : Channel) : ChannelStill c c := ⟨rfl, rfl, id⟩

theorem ChannelStill.trans {a b c : Channel} (h : ChannelStill a b) (k : ChannelStill b c) : ChannelStill a c :=
  ⟨k.state.trans h.state, k.duty.trans h.duty, fun r => k.retry (h.retry r)⟩

theorem State.stageChannels_still {s : State} (hd : s.drives = false) (x : Bool) (i : Fin 8) :
    ChannelStill s.out.channels[i] (s.stageChannels x).out.channels[i] := by
  have hf : ChannelStill s.out.channels[i] (s.followChannel x i).1 := by
    unfold State.followChannel
    dsimp only
    split
    · exact .refl _
    · rw [hd]
      refine ⟨rfl, rfl, fun h => ?_⟩
      show (if _ then 0 else s.out.channels[i].retry) = 0
      rw [h, ite_self]
  have hr : ∀ c : Channel, s.redrive i c = c := fun c => if_neg fun k => by rw [hd] at k; cases k.1
  have hg : ∀ t : State, ChannelStill t.out.channels[i] (t.openGate i) := fun t => by
    unfold State.openGate
    split <;> exact ⟨rfl, rfl, id⟩
  unfold State.stageChannels
  simp only [State.withOut_out, Vector.getElem_ofFn, Fin.getElem_fin]
  refine ChannelStill.trans ?_ (hg _)
  simp only [State.withOut_out, Vector.getElem_ofFn, Fin.getElem_fin]
  rw [hr]
  exact hf

theorem State.setChannel_still (s : State) (m : Fin 8) {c : Channel} (h : ChannelStill s.out.channels[m] c) (i : Fin 8) :
    ChannelStill s.out.channels[i] (s.setChannel m c).out.channels[i] := by
  unfold State.setChannel
  simp only [State.withOut_out, Fin.getElem_fin, Vector.getElem_set]
  split
  · rename_i k
    obtain rfl : m = i := Fin.ext k
    exact h
  · exact .refl _

theorem State.driveMotor_still {s : State} (hd : s.drives = false) (m : Fin 8) (cleared : Bool) (i : Fin 8) :
    ChannelStill s.out.channels[i] (s.driveMotor m cleared).out.channels[i] := by
  unfold State.driveMotor
  rw [hd]
  apply State.setChannel_still
  cases cleared
  · exact .refl _
  · exact ⟨rfl, rfl, fun _ => rfl⟩

theorem State.stageFan_still {s : State} (hd : s.drives = false) :
    s.stageFan.fan.state = s.fan.state ∧ (s.fan.stallCount = 0 → s.stageFan.fan.stallCount = 0) ∧
      ∀ i : Fin 8, ChannelStill s.out.channels[i] s.stageFan.out.channels[i] := by
  unfold State.stageFan
  split
  · exact ⟨rfl, id, fun i => .refl _⟩
  · rename_i m _
    dsimp only
    rw [hd]
    refine ⟨rfl, fun h => ?_, fun i => State.driveMotor_still (s := s.withFan _) hd m _ i⟩
    rw [State.driveMotor_fan]
    exact (ite_eq_left_iff.mpr fun _ => h)

theorem State.drives_congr {s t : State} (hn : t.straps = s.straps) (hc : t.ctl = s.ctl) : t.drives = s.drives := by
  unfold State.drives State.strapInvalid; rw [hn, hc]

theorem State.stageLoad_channels (s : State) : s.stageLoad.out.channels = s.out.channels := rfl

theorem State.stageLoads_still {s : State} (hd : s.drives = false) (x : Bool) :
    (s.stageLoads x).fan.state = s.fan.state ∧ (s.fan.stallCount = 0 → (s.stageLoads x).fan.stallCount = 0) ∧
      ∀ i : Fin 8, ChannelStill s.out.channels[i] (s.stageLoads x).out.channels[i] := by
  have hd1 : s.stageEffective.drives = false := hd
  have hd2 : (s.stageEffective.stageChannels x).drives = false :=
    (State.drives_congr (State.stageChannels_straps _ _) (State.stageChannels_ctl _ _)).trans hd1
  obtain ⟨hs, hc, ho⟩ := State.stageFan_still hd2
  unfold State.stageLoads
  rw [State.stageLoad_fan, State.stageLoad_channels]
  rw [State.stageChannels_fan] at hs hc
  exact ⟨hs, hc, fun i => (State.stageChannels_still hd1 x i).trans (ho i)⟩

theorem State.drives_stageSupply (s : State) (b : Bool) : (s.stageUnion.stageSupply b).drives = s.drives :=
  State.drives_congr (by simp) (by simp)

theorem State.stageFlasher_still {s : State} (hd : s.drives = false) : s.stageFlasher = (s, false) := if_pos (.inl hd)

theorem State.settle_still {s : State} (hd : s.drives = false) (b : State) (x : Bool) :
    (s.settle b x).fan.state = s.fan.state ∧ (s.fan.stallCount = 0 → (s.settle b x).fan.stallCount = 0) ∧
      (s.settle b x).flash = s.flash ∧
      ∀ i : Fin 8, ChannelStill s.out.channels[i] (s.settle b x).out.channels[i] := by
  have hd1 := (State.drives_stageSupply s s.res.ign).trans hd
  obtain ⟨hs, hc, ho⟩ := State.stageLoads_still hd1 (x || false)
  refine ⟨?_, ?_, (State.settle_agrees (fun h => by rw [hd] at h; cases h) b x).1, fun i => ?_⟩ <;>
    (rw [State.settle_eq]; unfold State.beforeControl; rw [State.stageFlasher_still hd1])
  · rw [State.stageStatus_fan, State.stageControl_fan]
    simpa using hs
  · rw [State.stageStatus_fan, State.stageControl_fan]
    simpa using hc
  · rw [State.stageStatus_out, State.stageControl_out]
    simpa using ho i

/-! ## The Supply Manager with IGN off -/

/-- The Supply Manager with new levels and an ended crank condition: the holds follow the orders (R135, R138). -/
theorem State.stageOrders_holds {s : State} (h : s.supply.orders =
    ⟨orderOf s.supply.effective s.supply.crank s.supply.thermal 1,
      orderOf s.supply.effective s.supply.crank s.supply.thermal 2,
      orderOf s.supply.effective s.supply.crank s.supply.thermal 3⟩) : s.stageOrders.supply.holds = s.supply.holds := by
  unfold State.stageOrders
  simp only [State.withSupply_supply, h, Hold.ordered_self]

theorem Supply.judgeCrank_false (u : Supply) : ∃ r, u.judgeCrank false = { u with release := r } := by
  unfold Supply.judgeCrank
  rw [if_neg (by decide)]
  split <;> exact ⟨_, rfl⟩

/-- The Supply Manager's stage while IGN stays off (R124, R125, R135). -/
theorem State.stageSupply_ignOff {s : State} (hi : s.res.ign = false) : s.stageSupply false =
    (s.withSupply (({ s.supply with
      localLevel := max (max s.supply.a s.supply.b) (max s.supply.c s.supply.d)
      effective := effectiveShed (max (max s.supply.a s.supply.b) (max s.supply.c s.supply.d)) s.peers } :
        Supply).judgeCrank false)).stageOrders := by
  have hc : s.crankCondition = false := by unfold State.crankCondition; rw [hi]; rfl
  unfold State.stageSupply
  dsimp only
  rw [hi, hc, if_neg (by simp), if_neg (by simp)]

/-- Where the levels and orders stand already and IGN stays off, the hand-ons leave the holds (R138). -/
theorem State.stageSupply_holds {u : State} (hw : u.res.ign = false) (hi : u.stageUnion.res.ign = false)
    (hl : max (max u.supply.a u.supply.b) (max u.supply.c u.supply.d) = u.supply.localLevel)
    (he : effectiveShed u.supply.localLevel u.peers = u.supply.effective)
    (ho : u.supply.orders = ⟨orderOf u.supply.effective u.supply.crank u.supply.thermal 1,
      orderOf u.supply.effective u.supply.crank u.supply.thermal 2,
      orderOf u.supply.effective u.supply.crank u.supply.thermal 3⟩) :
    (u.stageUnion.stageSupply u.res.ign).supply.holds = u.supply.holds := by
  have hsame : u.stageUnion.stageSupply u.res.ign =
      (u.stageUnion.withSupply (u.supply.judgeCrank false)).stageOrders := by
    rw [hw, State.stageSupply_ignOff hi, State.stageUnion_supply, State.stageUnion_peers, hl, he]
  obtain ⟨r, hr⟩ := Supply.judgeCrank_false u.supply
  rw [hsame, hr]
  exact State.stageOrders_holds (s := u.stageUnion.withSupply { u.supply with release := r }) ho

theorem State.stageLoad_supply (s : State) :
    ∃ timers harness, s.stageLoad.supply = { s.supply with timers := timers, harness := harness } := by
  unfold State.stageLoad
  dsimp only [State.withSupply_supply]
  split <;> exact ⟨_, _, rfl⟩

/-- After the Supply Manager's own stage the hand-ons change the harness load and its timers alone. -/
theorem State.settle_supply (s b : State) (x : Bool) : ∃ timers harness, (s.settle b x).supply =
    { (s.stageUnion.stageSupply s.res.ign).supply with timers := timers, harness := harness } := by
  obtain ⟨t, h, e⟩ := State.stageLoad_supply ((s.stageUnion.stageSupply s.res.ign).stageFlasher.1.stageEffective.stageChannels
    (x || (s.stageUnion.stageSupply s.res.ign).stageFlasher.2)).stageFan
  refine ⟨t, h, ?_⟩
  rw [State.settle_eq, State.stageStatus_supply, State.stageControl_supply]
  refine e.trans ?_
  rw [State.stageFan_supply, State.stageChannels_supply, State.stageEffective_supply, State.stageFlasher_supply]

end Sys2Proof.Machine
end

section
namespace Sys2Proof.Machine

/-! ## Entry to Setup (R182, R187) -/

/-- The state whose hand-ons entry to Setup runs. -/
def State.inSetup (s : State) : State :=
  { s with
    ctl := { s.ctl with state := .setup, quiet := none }
    line := { s.line with periodic := if s.strapInvalid then none else some 500 }
    out := { s.out with channels := Vector.ofFn fun i => s.out.channels[i].stand }
    fan := { s.fan.rest .off with stallCount := 0 }
    gauges := ⟨Vector.ofFn fun i => s.gauges.drives[i].atRest, none⟩
    flash := { s.flash with phase := .idle, sides := none, half := none, reportedLeft := false, reportedRight := false }
    meas := s.clearMarks.meas
    supply := { s.supply with holds := ⟨⟨false, none⟩, ⟨false, none⟩, ⟨false, none⟩⟩ }
    svc := { s.svc with staging := some (Memory.ofBytes s.cfg.bytes) } }

theorem State.enterSetup_eq (s : State) : s.enterSetup = s.inSetup.settle s false := by
  unfold State.enterSetup
  refine congrArg (fun u : State => u.settle s false) ?_
  simp only [State.standDown, State.flashIdle, State.clearMarks, State.withCtl, State.withLine, State.withSupply,
    State.withSvc, State.withMeas, State.withFan, State.withOut, State.withGauges, State.withFlash, State.loadPeriodic,
    statusPeriod, State.inSetup]
  simp only [State.mk.injEq, true_and, and_true, Line.mk.injEq]
  unfold State.strapInvalid
  rfl

theorem State.inSetup_drives (s : State) : s.inSetup.drives = false := by
  simp [State.drives, State.inSetup]

theorem State.stageControl_ctl_setup {s : State} (e : EffectiveSet) (h : s.ctl.state = .setup) :
    (s.stageControl e).ctl = s.ctl := by
  have hq : s.reloadQuiet = s := if_neg (by rw [h]; decide)
  unfold State.stageControl
  split
  · rename_i h' _; rw [h] at h'; cases h'
  · rename_i h' _; rw [h] at h'; cases h'
  · rw [hq, ite_self]

theorem State.settle_ctl_setup {s : State} (b : State) (x : Bool) (h : s.ctl.state = .setup) :
    (s.settle b x).ctl = s.ctl := by
  rw [State.settle_ctl, State.stageControl_ctl_setup _ (by rw [State.beforeControl_ctl, h]), State.beforeControl_ctl]

/-- A STATUS composed in Setup requests nothing (R28). -/
theorem State.statusContent_setup {s : State} (h : s.ctl.state = .setup) : s.statusContent.requests = 0 ∧
    s.statusContent.fanStep = 0 ∧ s.statusContent.dimmer = 63 ∧ s.statusContent.station = .setup := by
  simp [State.statusContent, h, StationState.carried]

/-- The orders stand as SETUP ENTER finds them, so the holds that go off stay off (R138, R182). -/
theorem State.inSetup_holds {s v : State} (hs : s.SupplyOk) (hr : s.ResolverOk) (hu : s.up = true)
    (hi : s.res.ign = false) (hv : v.supply = s.supply) (hres : v.res = s.res) (hp : v.peers = s.peers)
    (hcfg : v.cfg = s.cfg) (hsw : v.sw = s.sw) (b : State) (x : Bool) :
    (v.inSetup.settle b x).supply.holds = ⟨⟨false, none⟩, ⟨false, none⟩, ⟨false, none⟩⟩ := by
  obtain ⟨_, _, e⟩ := State.settle_supply v.inSetup b x
  rw [e]
  refine State.stageSupply_holds (u := v.inSetup) ?_ ?_ ?_ ?_ ?_
  · exact (congrArg Resolver.ign hres).trans hi
  · show ignOf v.cfg.ignFromLine v.ignInput v.peers = false
    unfold State.ignInput
    rw [hcfg, hsw, hp]
    exact (hr.ign_eq hu).trans hi
  · show max (max v.supply.a v.supply.b) (max v.supply.c v.supply.d) = v.supply.localLevel
    rw [hv]; exact (hs.localLevel hu).symm
  · show effectiveShed v.supply.localLevel v.peers = v.supply.effective
    rw [hv, hp]; exact hs.effective_eq hu
  · show v.supply.orders = _
    rw [hv]; exact (hs.orders_eq hu).trans (by rw [← hv]; rfl)

theorem State.maySetup_iff (s : State) : s.maySetup = true ↔
    s.ctl.state = .standby ∧ s.res.ign = false ∧ ∀ k, k < 14 → s.res.eff.byCode k = false := by
  unfold State.maySetup
  rw [Bool.and_eq_true, Bool.and_eq_true, EffectiveSet.quiet_iff, decide_eq_true_iff, Bool.not_eq_true', and_assoc]

theorem execSetupEnter_next {s : State} {n : Fin 16} (h : s.Serves n false) {args : List Byte} (ha : args.length ≤ 7) :
    exec (.setupEnter n args) s = .next (s.atSlotEnd.serveSetupEnter args) :=
  congrArg Host.Outcome.next (State.service_eq h ha fun t => t.serveSetupEnter args)

/-- Settles O55: the result by the station's state, and the entry to Setup with hand-ons that drive nothing. -/
theorem setupEntered : Obligations.SetupEntered := by
  intro s n h
  have hu : s.up = true := State.up_of_receives h.receives
  refine ⟨fun hsup hres hst hi hf => ?_, fun hst => ?_, fun hst => ?_, fun args hne hlen => ?_⟩
  · have hnext : exec (.setupEnter n []) s = .next ((s.atSlotEnd.answered [0x06]).inSetup.settle
        (s.atSlotEnd.answered [0x06]) false) := by
      rw [execSetupEnter_next h (by decide)]
      unfold State.serveSetupEnter
      rw [if_neg (by simp), if_neg (by rw [State.atSlotEnd_state, hst]; decide), if_pos]
      · exact congrArg Host.Outcome.next (State.enterSetup_eq _)
      · rw [State.maySetup_iff, State.atSlotEnd_state]; exact ⟨hst, hi, hf⟩
    have hon := State.settle_handedOn (s.atSlotEnd.answered [0x06]).inSetup (s.atSlotEnd.answered [0x06]) false
    have hctl := State.settle_ctl_setup (s := (s.atSlotEnd.answered [0x06]).inSetup) (s.atSlotEnd.answered [0x06]) false rfl
    obtain ⟨hfan, hstall, hflash, hch⟩ := State.settle_still (State.inSetup_drives (s.atSlotEnd.answered [0x06]))
      (s.atSlotEnd.answered [0x06]) false
    have hhold := State.inSetup_holds (v := s.atSlotEnd.answered [0x06]) hsup hres hu hi rfl rfl rfl rfl rfl
      (s.atSlotEnd.answered [0x06]) false
    have hper := (State.settle_follows (s.atSlotEnd.answered [0x06]).inSetup (s.atSlotEnd.answered [0x06]) false).2.2
      (by rintro ⟨k, -⟩; cases k) (by rintro ⟨k, -⟩; cases k)
    have hrep := State.settle_reported (s.atSlotEnd.answered [0x06]).inSetup (s.atSlotEnd.answered [0x06]) false
    refine ⟨_, hnext, ?_⟩
    generalize (s.atSlotEnd.answered [0x06]).inSetup.settle (s.atSlotEnd.answered [0x06]) false = t at *
    have hstate : t.ctl.state = .setup := by rw [hctl]; rfl
    obtain ⟨c1, c2, c3, c4⟩ := State.statusContent_setup hstate
    refine ⟨?_, hon.line.reply, ?_, fun hm => hrep ?_ ?_, c1, c2, c3, c4, fun i => ?_, hfan, hstall rfl, fun i => ?_, ?_,
      ?_, ?_, hhold, hon.svc, hon.cfg, hon.store, hon.peers, hon.faults⟩
    · rw [hctl]
      show Control.mk _ _ _ _ _ _ _ _ = _
      simp [State.answered, State.atSlotEnd, hst]
    · rw [hper.2]
      exact if_neg fun k => h.number (of_decide_eq_true k)
    · rw [hon.line.sub]; exact hm
    · intro k
      have : t.ctl.state = (s.atSlotEnd.answered [0x06]).ctl.state := by
        simp only [State.watched, Prod.mk.injEq] at k
        exact k.2.2.2.2.2.2
      rw [hstate] at this
      have h2 : (s.atSlotEnd.answered [0x06]).ctl.state = .standby := (State.atSlotEnd_state s).trans hst
      rw [h2] at this
      cases this
    · have hc := hch i
      have hu : (s.atSlotEnd.answered [0x06]).inSetup.out.channels[i] = s.out.channels[i].stand := by
        simp [State.inSetup, State.answered, State.atSlotEnd]
      rw [hu] at hc
      exact ⟨hc.state, hc.duty, hc.retry rfl, (hon.channels i).openFlag.trans (by rw [hu]; rfl)⟩
    · rw [hon.gauges]
      simp [State.inSetup, State.answered, State.atSlotEnd, Gauge.atRest]
    · rw [hon.gauges]; rfl
    · rw [hflash]; rfl
    · rw [hflash]; rfl
  · rw [execSetupEnter_next h (by decide)]
    unfold State.serveSetupEnter
    rw [if_neg (by simp), if_pos (by rw [State.atSlotEnd_state, hst])]
    rfl
  · rw [execSetupEnter_next h (by decide)]
    unfold State.serveSetupEnter
    rw [if_neg (by simp), if_neg, if_neg]
    · rfl
    · rw [State.maySetup_iff, State.atSlotEnd_state]
      rintro ⟨k, ki, kf⟩
      rcases hst with h' | h' | ⟨-, h' | ⟨j, hj, h'⟩⟩
      · rw [h'] at k; cases k
      · rw [h'] at k; cases k
      · exact absurd (ki.symm.trans h') (by decide)
      · exact absurd ((kf j hj).symm.trans h') (by decide)
    · rw [State.atSlotEnd_state]
      rcases hst with h' | h' | ⟨h', -⟩ <;> rw [h'] <;> decide
  · rw [execSetupEnter_next h hlen]
    unfold State.serveSetupEnter
    rw [if_pos (by simpa using hne)]
    rfl

end Sys2Proof.Machine
end

section
/-! PROOFS. The bytes of the REPLY data (section 11.5): the packed fields against their bit layout. -/

namespace Sys2Proof.Machine

/-! ## Fields as bytes -/

theorem putWord_eq_bytes16 (n : Nat) : putWord n = bytes16 (BitVec.ofNat 16 n) := by
  unfold putWord putByte bytes16
  congr 1
  · apply BitVec.eq_of_toNat_eq
    simp only [BitVec.extractLsb'_toNat, BitVec.toNat_ofNat, Nat.shiftRight_eq_div_pow]
    omega
  · congr 1
    apply BitVec.eq_of_toNat_eq
    simp only [BitVec.extractLsb'_toNat, BitVec.toNat_ofNat, Nat.shiftRight_eq_div_pow]
    omega

theorem putWord_eq_be16 (n : Nat) : putWord n = be16 n := putWord_eq_bytes16 n

theorem putSigned_eq_be16 (x : Int) : putSigned x = be16 x := by
  unfold putSigned
  rw [putWord_eq_bytes16, be16]
  congr 1
  apply BitVec.eq_of_toNat_eq
  rw [BitVec.toNat_ofNat, BitVec.toNat_ofInt]
  omega

theorem putWord_toNat (w : Word16) : putWord w.toNat = bytes16 w := by
  rw [putWord_eq_bytes16, BitVec.ofNat_toNat, BitVec.setWidth_eq]

theorem putQuad_eq_be16 (n : Nat) : putQuad n = be16 (n / 65536 : Nat) ++ be16 n := by
  unfold putQuad
  rw [← putWord_eq_be16, ← putWord_eq_be16, putWord_eq_bytes16 (n % 65536), putWord_eq_bytes16 n]
  congr 2
  apply BitVec.eq_of_toNat_eq
  simp only [BitVec.toNat_ofNat]
  omega

theorem putUid_eq (u : BitVec 64) : putUid u = bytes16 (u.extractLsb' 48 16) ++ bytes16 (u.extractLsb' 32 16)
    ++ bytes16 (u.extractLsb' 16 16) ++ bytes16 (u.extractLsb' 0 16) := by
  have hword : ∀ n k : Nat, n % 65536 = u.toNat / 2 ^ k % 65536 → putWord n = bytes16 (u.extractLsb' k 16) := by
    intro n k h
    rw [putWord_eq_bytes16]
    congr 1
    apply BitVec.eq_of_toNat_eq
    rw [BitVec.extractLsb'_toNat, BitVec.toNat_ofNat, Nat.shiftRight_eq_div_pow]
    exact h
  unfold putUid putQuad
  rw [hword _ 48 (by omega), hword _ 32 (by omega), hword _ 16 (by omega), hword _ 0 (by omega), List.append_assoc,
    List.append_assoc]
  simp only [List.append_assoc]

theorem ofBool_eq_ofNat (b : Bool) : BitVec.ofBool b = BitVec.ofNat 1 (flagBit b) := by cases b <;> rfl

theorem toNat_append_eq {k w : Nat} (x : BitVec k) (y : BitVec w) : (x ++ y).toNat = 2 ^ w * x.toNat + y.toNat := by
  rw [BitVec.toNat_append, ← Nat.shiftLeft_add_eq_or_of_lt y.isLt, Nat.shiftLeft_eq, Nat.mul_comm]

/-- Packing from bit 0 upward is appending from the top down. -/
theorem ofNat_pack_cons (k v w : Nat) (t : List (Nat × Nat)) :
    BitVec.ofNat (k + w) (pack ((v, w) :: t)) = BitVec.ofNat k (pack t) ++ BitVec.ofNat w v := by
  apply BitVec.eq_of_toNat_eq
  have hlt := Nat.mod_lt v (Nat.two_pow_pos w)
  rw [toNat_append_eq, BitVec.toNat_ofNat, BitVec.toNat_ofNat, BitVec.toNat_ofNat, pack, Nat.add_comm k, pow_add,
    Nat.mod_mul, Nat.add_mul_mod_self_left, Nat.mod_mod, Nat.add_mul_div_left _ _ (Nat.two_pow_pos w),
    Nat.div_eq_of_lt hlt, Nat.zero_add, Nat.add_comm]

theorem ofNat_pack_last (v w : Nat) : BitVec.ofNat w (pack [(v, w)]) = BitVec.ofNat w v := by
  apply BitVec.eq_of_toNat_eq
  rw [BitVec.toNat_ofNat, BitVec.toNat_ofNat, pack, pack, Nat.mul_zero, Nat.add_zero, Nat.mod_mod]

/-- A byte of flags, its upper bits free. -/
theorem flagsByte_one (a : Bool) : flagsByte [a] = 0#7 ++ BitVec.ofBool a := by
  show BitVec.ofNat (7 + 1) (pack [_]) = _
  rw [ofNat_pack_cons, ofBool_eq_ofNat]; rfl

theorem flagsByte_two (a b : Bool) : flagsByte [a, b] = 0#6 ++ BitVec.ofBool b ++ BitVec.ofBool a := by
  show BitVec.ofNat (6 + 1 + 1) (pack [_, _]) = _
  rw [ofNat_pack_cons, ofNat_pack_cons, ofBool_eq_ofNat, ofBool_eq_ofNat]; rfl

theorem putPosition_eq (p : Nat × Nat) :
    putPosition p = bytes16 (BitVec.ofNat 2 p.1 ++ (0#4 ++ BitVec.ofNat 10 p.2)) := by
  unfold putPosition
  rw [putWord_eq_bytes16]
  congr 1
  apply BitVec.eq_of_toNat_eq
  rw [toNat_append_eq, toNat_append_eq, BitVec.toNat_ofNat, BitVec.toNat_ofNat, BitVec.toNat_ofNat, BitVec.toNat_ofNat]
  omega

theorem positionBytes_eq (x : Option (Nat × Nat)) : positionBytes (x.map putPosition) = slotOrAbsent x := by
  cases x with
  | none => rfl
  | some p => exact putPosition_eq p

end Sys2Proof.Machine
end

section
namespace Sys2Proof.Machine

/-! ## The items, class by class -/

theorem measurementBytes_eq (latest avg : Int) (valid beyond isOpen isShort : Bool) (mark : Mark)
    (position : Option (List Byte)) : measurementBytes latest avg valid beyond isOpen isShort mark position =
      be16 latest ++ be16 avg ++ [0#2 ++ BitVec.ofNat 2 ([Mark.none, .armed, .restarted].idxOf mark)
        ++ BitVec.ofBool isShort ++ BitVec.ofBool isOpen ++ BitVec.ofBool beyond ++ BitVec.ofBool valid]
        ++ position.getD [0xFF, 0xFF] := by
  have hcode : mark.code = [Mark.none, .armed, .restarted].idxOf mark := by cases mark <;> rfl
  have hflags : putByte (pack [(flagBit valid, 1), (flagBit beyond, 1), (flagBit isOpen, 1), (flagBit isShort, 1),
      (mark.code, 2)]) = 0#2 ++ BitVec.ofNat 2 ([Mark.none, .armed, .restarted].idxOf mark)
        ++ BitVec.ofBool isShort ++ BitVec.ofBool isOpen ++ BitVec.ofBool beyond ++ BitVec.ofBool valid := by
    show BitVec.ofNat (2 + 2 + 1 + 1 + 1 + 1) _ = _
    rw [ofNat_pack_cons, ofNat_pack_cons, ofNat_pack_cons, ofNat_pack_cons, ofNat_pack_cons, hcode]
    simp only [ofBool_eq_ofNat]
    rfl
  unfold measurementBytes positionBytes
  rw [hflags, putSigned_eq_be16, putSigned_eq_be16]

theorem State.readMeasurement_bytes (s : State) {i : Nat} (h : i ≤ 15) :
    s.MeasurementBytes i (s.readMeasurement i) := by
  have hplain : ∀ r : Record, r.bytes = be16 r.latest ++ be16 r.avg ++ [0#2 ++ BitVec.ofNat 2 0 ++ BitVec.ofBool false
      ++ BitVec.ofBool false ++ BitVec.ofBool r.overRange ++ BitVec.ofBool r.valid] ++ [0xFF, 0xFF] := fun r =>
    measurementBytes_eq _ _ _ _ _ _ _ _
  rcases (by omega : i = 0 ∨ i = 1 ∨ i = 2 ∨ (3 ≤ i ∧ i ≤ 10) ∨ (11 ≤ i ∧ i ≤ 14) ∨ i = 15) with
    rfl | rfl | rfl | ⟨h3, h10⟩ | ⟨h11, h14⟩ | rfl
  · exact ⟨s.meas.supply, false, false, 0, _, .inl ⟨rfl, rfl, rfl, rfl, rfl, rfl⟩, hplain _⟩
  · exact ⟨s.meas.die, false, false, 0, _, .inr (.inl ⟨rfl, rfl, rfl, rfl, rfl, rfl⟩), hplain _⟩
  · exact ⟨s.meas.battery, false, false, 0, _, .inr (.inr (.inl ⟨rfl, rfl, rfl, rfl, rfl, rfl⟩)), hplain _⟩
  · refine ⟨s.meas.channels[Fin.ofNat 8 (i - 3)].base, false, false, _, _, .inr (.inr (.inr (.inl
      ⟨Fin.ofNat 8 (i - 3), ?_, rfl, rfl, rfl, rfl, rfl⟩))), ?_⟩
    · simp only [Fin.val_ofNat]; omega
    · unfold State.readMeasurement
      dsimp only
      rw [if_neg (by omega), if_neg (by omega), if_neg (by omega), if_pos h10]
      exact measurementBytes_eq _ _ _ _ _ _ _ _
  · refine ⟨s.meas.senders[Fin.ofNat 4 (i - 11)].base, _, _, 0, _, .inr (.inr (.inr (.inr (.inl
      ⟨Fin.ofNat 4 (i - 11), ?_, rfl, rfl, rfl, rfl, rfl⟩)))), ?_⟩
    · simp only [Fin.val_ofNat]; omega
    · unfold State.readMeasurement
      dsimp only
      rw [if_neg (by omega), if_neg (by omega), if_neg (by omega), if_neg (by omega), if_pos h14, measurementBytes_eq]
      congr 1
      unfold State.senderPosition
      split
      · exact putWord_eq_be16 _
      · rfl
  · refine ⟨_, false, false, 0, _, .inr (.inr (.inr (.inr (.inr ⟨rfl, rfl, rfl, rfl, rfl, rfl⟩)))), ?_⟩
    exact measurementBytes_eq _ _ _ _ _ _ _ _

/-- The command and level bytes of a channel: what is not stated of them is free. -/
theorem State.commandBytes_eq (s : State) (i : Fin 8) : ∃ (command : Byte) (level : List Byte),
    s.commandBytes i = command :: level ∧ level.length = 2 ∧
      (s.cfg.channels[i].kind ≠ .off → s.cfg.channels[i].kind ≠ .motor →
        (s.out.channels[i].command = .off → command = 0) ∧
        (∀ l, s.out.channels[i].command = .steady l → command = 1 ∧ level = be16 l) ∧
        (s.out.channels[i].command = .flashOn → command = 2) ∧ (s.out.channels[i].command = .flashOff → command = 3)) := by
  unfold State.commandBytes
  dsimp only
  split
  · rename_i h; exact ⟨_, _, rfl, rfl, fun k => absurd h k⟩
  · rename_i h; exact ⟨_, _, rfl, rfl, fun _ k => absurd h k⟩
  all_goals
    cases s.out.channels[i].command with
    | off => exact ⟨_, _, rfl, rfl, fun _ _ => ⟨fun _ => rfl, nofun, nofun, nofun⟩⟩
    | steady l =>
      refine ⟨_, _, rfl, rfl, fun _ _ => ⟨nofun, fun m hm => ⟨rfl, ?_⟩, nofun, nofun⟩⟩
      obtain rfl : l = m := by injection hm
      exact putWord_eq_be16 _
    | flashOn => exact ⟨_, _, rfl, rfl, fun _ _ => ⟨nofun, nofun, fun _ => rfl, nofun⟩⟩
    | flashOff => exact ⟨_, _, rfl, rfl, fun _ _ => ⟨nofun, nofun, nofun, fun _ => rfl⟩⟩

theorem State.readChannel_bytes (s : State) (i : Fin 8) : s.ChannelBytes i.val 0 (s.readChannel i) := by
  have hf : s.fan.state.code = [FanState.off, .ramping, .running, .suspended, .stalled, .tripped, .locked,
      .test].idxOf s.fan.state := by cases s.fan.state <;> rfl
  have hc : s.out.channels[i].state.code = [ChannelState.off, .inrush, .on, .dark, .shed, .tripped, .locked,
      .test].idxOf s.out.channels[i].state := by cases s.out.channels[i].state <;> rfl
  have ht : s.out.channels[i].testResult.code = [TestResult.none, .completed, .tripped].idxOf
      s.out.channels[i].testResult := by cases s.out.channels[i].testResult <;> rfl
  have hflags : putByte (pack [(flagBit s.out.channels[i].openFlag, 1), (s.out.channels[i].testResult.code, 2)]) =
      0#5 ++ BitVec.ofNat 2 ([TestResult.none, .completed, .tripped].idxOf s.out.channels[i].testResult)
        ++ BitVec.ofBool s.out.channels[i].openFlag := by
    show BitVec.ofNat (5 + 2 + 1) _ = _
    rw [ofNat_pack_cons, ofNat_pack_cons, ht, ofBool_eq_ofNat]
    rfl
  obtain ⟨command, level, hb, hl, hcmd⟩ := s.commandBytes_eq i
  refine ⟨i, rfl, .inl ⟨rfl, _, command, level, hl, rfl, hcmd, ?_⟩⟩
  unfold State.readChannel
  dsimp only
  rw [hb, hf, hc, hflags, putWord_eq_be16]
  unfold State.isMotor
  simp only [decide_eq_true_eq]
  rfl

theorem State.readMotor_bytes (s : State) {i : Fin 8} (h : s.isMotor i = true) :
    s.ChannelBytes i.val 1 s.readMotor := by
  refine ⟨i, rfl, .inr ⟨rfl, by simpa [State.isMotor] using h, ?_⟩⟩
  unfold State.readMotor
  dsimp only
  rw [putWord_eq_be16, flagsByte_one]
  rfl

theorem State.readPeerStatus_bytes {s : State} {r : PeerRecord} {n : Nat} (h : s.peers.find n = some r) :
    s.PeerBytes n 0 (s.readPeerStatus r) := by
  have hs : r.state.code = [PeerState.absent, .present, .stale, .lost].idxOf r.state := by cases r.state <;> rfl
  have hst : r.station.code = [PeerStation.awake, .standby, .setup].idxOf r.station := by cases r.station <;> rfl
  have hfan : putByte (pack [(r.dimmer, 6), (r.fanStep, 2)]) = BitVec.ofNat 2 r.fanStep ++ BitVec.ofNat 6 r.dimmer := by
    show BitVec.ofNat (2 + 6) _ = _
    rw [ofNat_pack_cons, ofNat_pack_last]
  have hstate : putByte (stateByte r.shed r.station r.ign r.battery.isSome r.posA.isSome r.posB.isSome) =
      BitVec.ofNat 2 r.shed ++ BitVec.ofNat 2 ([PeerStation.awake, .standby, .setup].idxOf r.station)
        ++ BitVec.ofBool r.ign ++ BitVec.ofBool r.battery.isSome ++ BitVec.ofBool r.posA.isSome
        ++ BitVec.ofBool r.posB.isSome := by
    show BitVec.ofNat (2 + 2 + 1 + 1 + 1 + 1) (pack _) = _
    rw [ofNat_pack_cons, ofNat_pack_cons, ofNat_pack_cons, ofNat_pack_cons, ofNat_pack_cons, ofNat_pack_last, hst]
    simp only [ofBool_eq_ofNat]
  have hsummary : putByte (summaryByte r.faults r.bulbLeft r.bulbRight) =
      BitVec.ofBool r.faults.output ++ BitVec.ofBool r.faults.load ++ BitVec.ofBool r.faults.sender
        ++ BitVec.ofBool r.faults.thermal ++ BitVec.ofBool r.faults.line ++ BitVec.ofBool r.faults.station
        ++ BitVec.ofBool r.bulbLeft ++ BitVec.ofBool r.bulbRight := by
    show BitVec.ofNat (1 + 1 + 1 + 1 + 1 + 1 + 1 + 1) (pack _) = _
    rw [ofNat_pack_cons, ofNat_pack_cons, ofNat_pack_cons, ofNat_pack_cons, ofNat_pack_cons, ofNat_pack_cons,
      ofNat_pack_cons, ofNat_pack_last]
    simp only [ofBool_eq_ofNat]
  refine ⟨r, h, .inl ⟨rfl, (r.battery.map putSigned).getD [s.freeAt 0, s.freeAt 1], ?_, fun i hi => ?_, ?_⟩⟩
  · cases r.battery <;> rfl
  · rw [hi]; exact putSigned_eq_be16 i
  · unfold State.readPeerStatus
    rw [hs, hfan, hstate, hsummary, putWord_toNat, putWord_eq_be16, flagsByte_two]
    rfl

theorem State.readPeerIdentity_bytes {s : State} {r : PeerRecord} {n : Nat} (h : s.peers.find n = some r) :
    s.PeerBytes n 1 (s.readPeerIdentity r) := by
  have hroles : ∀ x : Roles, flagsByte [x.shunt, x.gauges, x.publishes.1, x.publishes.2] = 0#4 ++
      BitVec.ofBool x.publishes.2 ++ BitVec.ofBool x.publishes.1 ++ BitVec.ofBool x.gauges ++ BitVec.ofBool x.shunt := by
    intro x
    show BitVec.ofNat (4 + 1 + 1 + 1 + 1) (pack [_, _, _, _]) = _
    rw [ofNat_pack_cons, ofNat_pack_cons, ofNat_pack_cons, ofNat_pack_cons]
    simp only [ofBool_eq_ofNat]
    rfl
  have hpresent : flagsByte [r.uid.isSome, r.checksum.isSome, r.roles.isSome, r.battery.isSome, r.posA.isSome,
      r.posB.isSome] = 0#2 ++ BitVec.ofBool r.posB.isSome ++ BitVec.ofBool r.posA.isSome
        ++ BitVec.ofBool r.battery.isSome ++ BitVec.ofBool r.roles.isSome ++ BitVec.ofBool r.checksum.isSome
        ++ BitVec.ofBool r.uid.isSome := by
    show BitVec.ofNat (2 + 1 + 1 + 1 + 1 + 1 + 1) (pack [_, _, _, _, _, _]) = _
    rw [ofNat_pack_cons, ofNat_pack_cons, ofNat_pack_cons, ofNat_pack_cons, ofNat_pack_cons, ofNat_pack_cons]
    simp only [ofBool_eq_ofNat]
    rfl
  refine ⟨r, h, .inr (.inl ⟨rfl, (r.uid.map putUid).getD (s.freeBytes 8),
    (r.checksum.map fun c => putWord c.toNat).getD (s.freeBytes 2),
    (r.roles.map fun x => flagsByte [x.shunt, x.gauges, x.publishes.1, x.publishes.2]).getD (s.freeAt 0),
    ?_, ?_, fun u hu => ?_, fun c hc => ?_, fun x hx => ?_, ?_⟩)⟩
  · cases r.uid <;> rfl
  · cases r.checksum <;> rfl
  · rw [hu]; exact putUid_eq u
  · rw [hc]; exact putWord_toNat c
  · rw [hx]; exact hroles x
  · unfold State.readPeerIdentity
    rw [hpresent]

theorem State.readPeerPositions_bytes {s : State} {r : PeerRecord} {n : Nat} (h : s.peers.find n = some r) :
    s.PeerBytes n 2 (s.readPeerPositions r) := by
  refine ⟨r, h, .inr (.inr ⟨rfl, ?_⟩)⟩
  unfold State.readPeerPositions
  rw [positionBytes_eq, positionBytes_eq, putWord_eq_be16, putWord_eq_be16]

theorem State.readGauge_bytes (s : State) (i : Fin 4) : s.GaugeBytes i.val (s.readGauge i) := by
  have hk : ∀ x : GaugeKind, x.code = [GaugeKind.off, .thermal, .coilEnd, .coilCentre].idxOf x := fun x => by
    cases x <;> rfl
  have hs : ∀ x : SourceStatus, x.code = [SourceStatus.waiting, .normal, .held, .estimated, .lost].idxOf x := fun x => by
    cases x <;> rfl
  have hd : ∀ x : Direction, x.code = [Direction.none, .pinA, .pinB].idxOf x := fun x => by cases x <;> rfl
  have hflags : ∀ (x : Direction) (b : Bool), putByte (pack [(x.code, 2), (flagBit b, 1)]) =
      0#5 ++ BitVec.ofBool b ++ BitVec.ofNat 2 ([Direction.none, .pinA, .pinB].idxOf x) := by
    intro x b
    show BitVec.ofNat (5 + 1 + 2) _ = _
    rw [ofNat_pack_cons, ofNat_pack_cons, hd, ofBool_eq_ofNat]
    rfl
  refine ⟨i, rfl, ?_⟩
  unfold State.readGauge
  dsimp only
  rw [hk, hs, hflags, putSigned_eq_be16, putSigned_eq_be16, putSigned_eq_be16, putWord_eq_be16]
  rfl

theorem State.readLine_bytes (s : State) {page : Nat} (h : page ≤ 1) : s.LineBytes page (s.readLine page) := by
  have hsub : ∀ x : SubState, x.code = [SubState.joined, .muted, .isolated].idxOf x := fun x => by cases x <;> rfl
  rcases (by omega : page = 0 ∨ page = 1) with rfl | rfl
  · refine .inl ⟨rfl, ?_⟩
    simp only [State.readLine, if_true, putWord_eq_be16, hsub]
    rfl
  · refine .inr ⟨rfl, ?_⟩
    simp only [State.readLine, one_ne_zero, if_false, putWord_eq_be16]

theorem State.readShed_bytes (s : State) : s.ShedBytes s.readShed := by
  have ho : ∀ x : Order, x.code = [Order.normal, .limited, .shed].idxOf x := fun x => by cases x <;> rfl
  have hp : ∀ x : FlashPhase, x.code = [FlashPhase.idle, .on, .off].idxOf x := fun x => by cases x <;> rfl
  have hs : ∀ x : Option SideSet, sideSetCode x = [none, some SideSet.left, some .right, some .both].idxOf x := by
    rintro (_ | _ | _ | _) <;> rfl
  have hlevels : BitVec.ofNat 16 (pack [(s.supply.a, 2), (s.supply.b, 2), (s.supply.c, 2), (s.supply.d, 1)]) =
      0#9 ++ BitVec.ofNat 1 s.supply.d ++ BitVec.ofNat 2 s.supply.c ++ BitVec.ofNat 2 s.supply.b
        ++ BitVec.ofNat 2 s.supply.a := by
    show BitVec.ofNat (9 + 1 + 2 + 2 + 2) _ = _
    rw [ofNat_pack_cons, ofNat_pack_cons, ofNat_pack_cons, ofNat_pack_cons]
    rfl
  have hshed : putByte (pack [(s.supply.localLevel, 2), (s.supply.effective, 2)]) =
      0#4 ++ BitVec.ofNat 2 s.supply.effective ++ BitVec.ofNat 2 s.supply.localLevel := by
    show BitVec.ofNat (4 + 2 + 2) _ = _
    rw [ofNat_pack_cons, ofNat_pack_cons]
    rfl
  have horders : BitVec.ofNat 16 (pack [(s.supply.orders.one.code, 2), (s.supply.orders.two.code, 2),
      (s.supply.orders.three.code, 2), (flagBit s.supply.holds.one.on, 1), (flagBit s.supply.holds.two.on, 1),
      (flagBit s.supply.holds.three.on, 1)]) =
      0#7 ++ BitVec.ofBool s.supply.holds.three.on ++ BitVec.ofBool s.supply.holds.two.on
        ++ BitVec.ofBool s.supply.holds.one.on
        ++ BitVec.ofNat 2 ([Order.normal, .limited, .shed].idxOf s.supply.orders.three)
        ++ BitVec.ofNat 2 ([Order.normal, .limited, .shed].idxOf s.supply.orders.two)
        ++ BitVec.ofNat 2 ([Order.normal, .limited, .shed].idxOf s.supply.orders.one) := by
    show BitVec.ofNat (7 + 1 + 1 + 1 + 2 + 2 + 2) _ = _
    rw [ofNat_pack_cons, ofNat_pack_cons, ofNat_pack_cons, ofNat_pack_cons, ofNat_pack_cons, ofNat_pack_cons, ho, ho, ho]
    simp only [ofBool_eq_ofNat]
    rfl
  have hflash : putByte (pack [(s.flash.phase.code, 2), (sideSetCode s.flash.sides, 2), (flagBit s.flash.fast, 1),
      (flagBit (s.flash.ownBulb .right), 1), (flagBit (s.flash.ownBulb .left), 1)]) =
      0#1 ++ BitVec.ofBool (s.flash.memory.current.ownLeft || s.flash.memory.before.ownLeft)
        ++ BitVec.ofBool (s.flash.memory.current.ownRight || s.flash.memory.before.ownRight)
        ++ BitVec.ofBool s.flash.fast
        ++ BitVec.ofNat 2 ([none, some SideSet.left, some .right, some .both].idxOf s.flash.sides)
        ++ BitVec.ofNat 2 ([FlashPhase.idle, .on, .off].idxOf s.flash.phase) := by
    show BitVec.ofNat (1 + 1 + 1 + 1 + 2 + 2) _ = _
    rw [ofNat_pack_cons, ofNat_pack_cons, ofNat_pack_cons, ofNat_pack_cons, ofNat_pack_cons, hp, hs]
    simp only [ofBool_eq_ofNat]
    rfl
  unfold State.ShedBytes State.readShed
  dsimp only
  rw [putWord_eq_bytes16 (pack _), putWord_eq_bytes16 (pack _), hlevels, hshed, horders, hflash, flagsByte_two,
    flagsByte_one, putWord_eq_be16, putQuad_eq_be16]
  simp only [List.append_assoc]

theorem State.readStation_bytes (s : State) : s.StationBytes s.readStation := by
  have hc : s.ctl.cause.code = [ResumeCause.powerOn, .service, .line, .input, .ign].idxOf s.ctl.cause := by
    cases s.ctl.cause <;> rfl
  have hst : s.ctl.state.code = [StationState.starting, .awake, .standby, .asleep, .setup].idxOf s.ctl.state := by
    cases s.ctl.state <;> rfl
  have hstraps : putByte (pack [(s.straps.number, 4), (flagBit s.straps.sixVolt, 1)]) =
      0#3 ++ BitVec.ofBool s.straps.sixVolt ++ BitVec.ofNat 4 s.straps.number := by
    show BitVec.ofNat (3 + 1 + 4) _ = _
    rw [ofNat_pack_cons, ofNat_pack_cons, ofBool_eq_ofNat]
    rfl
  have hfaults : putByte (pack [(s.faults.entries.length, 4), (flagBit s.faults.overflow, 1)]) =
      0#3 ++ BitVec.ofBool s.faults.overflow ++ BitVec.ofNat 4 s.faults.entries.length := by
    show BitVec.ofNat (3 + 1 + 4) _ = _
    rw [ofNat_pack_cons, ofNat_pack_cons, ofBool_eq_ofNat]
    rfl
  refine ⟨s.quietByte, fun ms h => ?_, ?_⟩
  · unfold State.quietByte; rw [h]; rfl
  · unfold State.readStation
    rw [hc, hst, hstraps, hfaults, flagsByte_one, flagsByte_one, putWord_eq_be16, putWord_eq_be16]
    rfl

theorem FaultEntry.bytes_sent (e : FaultEntry) : e.Sent e.bytes := by
  have hk : e.kind.code = 1 + [FaultKind.trip, .openLoad, .bulbOut, .fanLocked, .senderFault, .thermal, .duplicate,
      .lineIsolated, .configDefault, .drainShed].idxOf e.kind := by cases e.kind <;> rfl
  unfold FaultEntry.Sent FaultEntry.bytes
  rw [hk, putWord_eq_be16, flagsByte_one]
  rfl

end Sys2Proof.Machine
end

section
namespace Sys2Proof.Machine

/-! ## IDENTIFY and READ (R184 to R186) -/

theorem State.announceContent_bytes {s : State} {gauges publishesA publishesB : Bool}
    (hg : gauges = true ↔ ∃ i : Fin 4, s.cfg.gauges[i].kind ≠ .off)
    (ha : publishesA = true ↔ ∃ n : Fin 4, s.cfg.senders[n].publish = 1)
    (hb : publishesB = true ↔ ∃ n : Fin 4, s.cfg.senders[n].publish = 2) :
    s.announceContent = bytes16 (s.uid.extractLsb' 48 16) ++ bytes16 (s.uid.extractLsb' 32 16)
      ++ bytes16 (s.uid.extractLsb' 16 16) ++ bytes16 (s.uid.extractLsb' 0 16) ++ bytes16 s.cfg.checksum
      ++ [0#4 ++ BitVec.ofBool s.cfg.shunt ++ BitVec.ofBool gauges ++ BitVec.ofBool publishesA
        ++ BitVec.ofBool publishesB] := by
  have hpub : ∀ (slot : Nat) (b : Bool), (b = true ↔ ∃ n : Fin 4, s.cfg.senders[n].publish = slot) →
      s.publishes slot = b := by
    intro slot b h
    rw [Bool.eq_iff_iff, h]
    simp [State.publishes, allSenders, Fin.exists_fin_succ]
  have hroles : s.roles = ⟨s.cfg.shunt, gauges, (publishesA, publishesB)⟩ := by
    unfold State.roles
    rw [hpub 1 _ ha, hpub 2 _ hb]
    congr 1
    rw [Bool.eq_iff_iff, hg]
    simp only [List.any_eq_true, Vector.mem_toList_iff, decide_eq_true_eq, Vector.mem_iff_getElem]
    constructor
    · rintro ⟨g, ⟨i, hi, rfl⟩, h⟩; exact ⟨⟨i, hi⟩, h⟩
    · rintro ⟨i, h⟩; exact ⟨_, ⟨i.val, i.isLt, rfl⟩, h⟩
  have hbyte : putByte (rolesByte ⟨s.cfg.shunt, gauges, (publishesA, publishesB)⟩) =
      0#4 ++ BitVec.ofBool s.cfg.shunt ++ BitVec.ofBool gauges ++ BitVec.ofBool publishesA
        ++ BitVec.ofBool publishesB := by
    show BitVec.ofNat (4 + 1 + 1 + 1 + 1) (pack _) = _
    rw [ofNat_pack_cons, ofNat_pack_cons, ofNat_pack_cons, ofNat_pack_cons]
    simp only [ofBool_eq_ofNat]
    rfl
  unfold State.announceContent announcePayload
  rw [putUid_eq, putWord_toNat, hroles, hbyte]

theorem State.requestAnnounce_muted {s : State} (h : s.line.sub = .muted) : s.requestAnnounce = s := if_pos h

theorem State.requestAnnounce_empty {s : State} (h : s.line.sub ≠ .muted) (hq : s.line.queue.announce = none) :
    s.requestAnnounce = { s with line := { s.line with queue := { s.line.queue with
      announce := some ⟨s.announceContent, s.line.queue.nextAge, 0, false⟩
      nextAge := s.line.queue.nextAge + 1 } } } := by
  unfold State.requestAnnounce Line.putAnnounce
  rw [if_neg h, hq]
  rfl

theorem State.requestAnnounce_queued {s : State} {e : Entry} (h : s.line.sub ≠ .muted)
    (hq : s.line.queue.announce = some e) (hf : s.line.inFlight = none) :
    s.requestAnnounce = { s with line := { s.line with queue := { s.line.queue with
      announce := some { e with content := s.announceContent } } } } := by
  unfold State.requestAnnounce Line.putAnnounce Line.markReplaced
  rw [if_neg h, hq]
  dsimp only
  rw [hf]
  rfl

theorem State.inFlight_of_receives {s : State} (h : s.receives = true) : s.line.inFlight = none := by
  simp only [State.receives, Bool.and_eq_true, Option.isNone_iff_eq_none] at h
  exact h.1.2

theorem execIdentify_next {s : State} {n : Fin 16} (h : s.Serves n true) {args : List Byte} (ha : args.length ≤ 7) :
    exec (.identify n args) s = .next (s.atSlotEnd.serveIdentify args) :=
  congrArg Host.Outcome.next (State.service_eq h ha fun t => t.serveIdentify args)

theorem execRead_next {s : State} {n : Fin 16} (h : s.Serves n false) {args : List Byte} (ha : args.length ≤ 7) :
    exec (.read n args) s = .next (s.atSlotEnd.serveRead args) :=
  congrArg Host.Outcome.next (State.service_eq h ha fun t => t.serveRead args)

theorem State.serveIdentify_nil (s : State) : s.atSlotEnd.serveIdentify [] =
    (s.atSlotEnd.answered (0x01 :: s.announceContent ++ [putByte s.ctl.state.code])).requestAnnounce := by
  have h : s.atSlotEnd.serveIdentify [] = (s.atSlotEnd.answered (0x01 :: s.announceContent ++
      [putByte s.atSlotEnd.ctl.state.code])).requestAnnounce := rfl
  rw [h, State.atSlotEnd_state]

theorem State.serveRead_of_length {s : State} {args : List Byte} (h : args.length ≠ 3) :
    s.serveRead args = s.answered [0x32] := by
  unfold State.serveRead
  split
  · exact absurd rfl h
  · rfl

/-- A READ's item is laid out by its class. -/
theorem State.readItem_bytes {s : State} {cls index page : Nat} {data : List Byte}
    (h : s.readItem cls index page = some data) : s.ItemBytes cls index page data := by
  unfold State.readItem at h
  split at h
  · split at h
    · rename_i hc; cases h; exact .inl ⟨rfl, s.readMeasurement_bytes hc.1⟩
    · cases h
  · split at h
    · rename_i hi
      have hval : (Fin.ofNat 8 index).val = index := by rw [Fin.val_ofNat]; omega
      split at h
      · rename_i hp; cases h; subst hp
        have hb := s.readChannel_bytes (Fin.ofNat 8 index)
        rw [hval] at hb
        exact .inr (.inl ⟨rfl, hb⟩)
      · split at h
        · rename_i hp; cases h; obtain ⟨rfl, hm⟩ := hp
          have hb := s.readMotor_bytes hm
          rw [hval] at hb
          exact .inr (.inl ⟨rfl, hb⟩)
        · cases h
    · cases h
  · split at h
    · rename_i hf; cases h; exact .inr (.inr (.inl ⟨rfl, State.readPeerStatus_bytes hf⟩))
    · rename_i hf; cases h; exact .inr (.inr (.inl ⟨rfl, State.readPeerIdentity_bytes hf⟩))
    · rename_i hf; cases h; exact .inr (.inr (.inl ⟨rfl, State.readPeerPositions_bytes hf⟩))
    · cases h
  · split at h
    · rename_i hc; cases h
      have hval : (Fin.ofNat 4 index).val = index := by rw [Fin.val_ofNat]; omega
      have hb := s.readGauge_bytes (Fin.ofNat 4 index)
      rw [hval] at hb
      exact .inr (.inr (.inr (.inl ⟨rfl, hb⟩)))
    · cases h
  · split at h
    · rename_i hc; cases h
      exact .inr (.inr (.inr (.inr (.inl ⟨rfl, s.readLine_bytes hc.2⟩))))
    · cases h
  · split at h
    · cases h; exact .inr (.inr (.inr (.inr (.inr (.inl ⟨rfl, s.readShed_bytes⟩)))))
    · cases h
  · split at h
    · cases h; exact .inr (.inr (.inr (.inr (.inr (.inr (.inl ⟨rfl, s.readStation_bytes⟩))))))
    · cases h
  · split at h
    · obtain ⟨e, he, rfl⟩ := Option.map_eq_some_iff.mp h
      exact .inr (.inr (.inr (.inr (.inr (.inr (.inr ⟨rfl, e, he, e.bytes_sent⟩))))))
    · cases h
  · cases h

/-- The Peer Table's records are those of the numbers 0..14 but the station's own. -/
theorem State.PeersOk.find_isSome_iff {s : State} (h : s.PeersOk) (hn : s.straps.number ≠ 15) (m : Nat) :
    (s.peers.find m).isSome = true ↔ m ≤ 14 ∧ m ≠ s.straps.number := by
  have hmem : (s.peers.find m).isSome = true ↔ m ∈ s.peers.records.map PeerRecord.number := by
    simp [PeerTable.find, List.find?_isSome]
  rw [hmem, h, PeerTable.initRecords, if_neg hn, List.map_map]
  have hid : PeerRecord.number ∘ PeerRecord.init = id := rfl
  rw [hid, List.map_id, List.mem_filter, decide_eq_true_iff]
  refine and_congr_left fun _ => ?_
  simp only [List.mem_cons, List.not_mem_nil, or_false]
  omega

/-- The classes, indices and pages that have an item (R186). -/
theorem State.readItem_isSome (s : State) (cls index page : Nat) :
    (s.readItem cls index page).isSome = true ↔
      (cls = 0 ∧ index ≤ 15 ∧ page = 0) ∨
      (cls = 1 ∧ index ≤ 7 ∧ (page = 0 ∨ (page = 1 ∧ s.isMotor (Fin.ofNat 8 index) = true))) ∨
      (cls = 2 ∧ (s.peers.find index).isSome = true ∧ page ≤ 2) ∨
      (cls = 3 ∧ index ≤ 3 ∧ page = 0) ∨
      (cls = 4 ∧ index = 0 ∧ page ≤ 1) ∨
      ((cls = 5 ∨ cls = 6) ∧ index = 0 ∧ page = 0) ∨
      (cls = 7 ∧ index < s.faults.entries.length ∧ page = 0) := by
  rcases cls with _ | _ | _ | _ | _ | _ | _ | _ | cls
  case succ.zero =>
    by_cases hi : index ≤ 7 <;> by_cases h0 : page = 0 <;> simp [State.readItem, hi, h0]
  case succ.succ.zero =>
    cases hf : s.peers.find index with
    | none => simp [State.readItem, hf]
    | some r => rcases page with _ | _ | _ | page <;> simp [State.readItem, hf]
  case succ.succ.succ.succ.succ.succ.succ.zero =>
    by_cases h0 : page = 0 <;> simp [State.readItem, h0]
  all_goals simp [State.readItem]

theorem State.readItem_isSome_iff {s : State} (h : s.PeersOk) (hn : s.straps.number ≠ 15) (cls index page : Byte) :
    (s.atSlotEnd.readItem cls.toNat index.toNat page.toNat).isSome = true ↔
      (cls = 0 ∧ index.toNat ≤ 15 ∧ page = 0) ∨
      (cls = 1 ∧ ∃ i : Fin 8, index.toNat = i.val ∧ (page = 0 ∨ (page = 1 ∧ s.cfg.channels[i].kind = .motor))) ∨
      (cls = 2 ∧ index.toNat ≤ 14 ∧ index.toNat ≠ s.straps.number ∧ page.toNat ≤ 2) ∨
      (cls = 3 ∧ index.toNat ≤ 3 ∧ page = 0) ∨
      (cls = 4 ∧ index = 0 ∧ page.toNat ≤ 1) ∨
      ((cls = 5 ∨ cls = 6) ∧ index = 0 ∧ page = 0) ∨
      (cls = 7 ∧ index.toNat < s.faults.entries.length ∧ page = 0) := by
  have hchannel : (index.toNat ≤ 7 ∧ (page.toNat = 0 ∨ (page.toNat = 1 ∧ s.isMotor (Fin.ofNat 8 index.toNat) = true))) ↔
      ∃ i : Fin 8, index.toNat = i.val ∧ (page.toNat = 0 ∨ (page.toNat = 1 ∧ s.cfg.channels[i].kind = .motor)) := by
    constructor
    · rintro ⟨hi, hp⟩
      exact ⟨Fin.ofNat 8 index.toNat, by rw [Fin.val_ofNat]; omega, by simpa [State.isMotor] using hp⟩
    · rintro ⟨i, hi, hp⟩
      have hi' : Fin.ofNat 8 index.toNat = i := by apply Fin.ext; rw [Fin.val_ofNat, hi]; omega
      exact ⟨by omega, by rw [hi']; simpa [State.isMotor] using hp⟩
  have hpeer := h.find_isSome_iff hn index.toNat
  rw [State.readItem_isSome]
  show ((_ ∧ _ ∧ _) ∨ (_ ∧ index.toNat ≤ 7 ∧ (_ ∨ _ ∧ s.isMotor _ = true)) ∨
    (_ ∧ (s.peers.find index.toNat).isSome = true ∧ _) ∨ _ ∨ _ ∨ _ ∨ (_ ∧ index.toNat < s.faults.entries.length ∧ _)) ↔ _
  rw [hchannel, hpeer]
  simp only [← BitVec.toNat_inj, and_assoc]
  exact Iff.rfl

/-- Settles O52: the command is served at the end of its slot, and the reply's bytes are laid out class by class. -/
theorem identifyAndReadReply : Obligations.IdentifyAndReadReply := by
  refine ⟨fun s gauges a b hg ha hb => State.announceContent_bytes hg ha hb, fun s n u h hu => ?_,
    fun s n args h h1 h7 => ?_, fun s n args h h3 h7 => ?_, fun s cls index page data h => State.readItem_bytes h,
    fun s n cls index page h hp => ⟨fun data hd => ?_, fun hd => ?_, State.readItem_isSome_iff hp h.number cls index page⟩⟩
  · subst hu
    have hnext := execIdentify_next h (args := []) (by decide)
    rw [State.serveIdentify_nil] at hnext
    have hf := State.inFlight_of_receives h.receives
    refine ⟨fun hm => ?_, fun hm hq => ?_, fun e hm hq => ?_⟩
    · rw [hnext, State.requestAnnounce_muted]; exact hm
    · rw [hnext, State.requestAnnounce_empty]
      · rfl
      · exact hm
      · exact hq
    · rw [hnext, State.requestAnnounce_queued (e := e)]
      · rfl
      · exact hm
      · exact hq
      · exact hf
  · rw [execIdentify_next h h7]
    exact congrArg Host.Outcome.next (if_neg (by omega))
  · rw [execRead_next h h7, State.serveRead_of_length h3]
  · rw [execRead_next h (by simp)]
    unfold State.serveRead
    dsimp only
    rw [hd]
    rfl
  · rw [execRead_next h (by simp)]
    unfold State.serveRead
    dsimp only
    rw [hd]
    rfl

end Sys2Proof.Machine
end

section
/-! PROOFS. The hand-ons of a station whose blocks hold the values of a reset or a wake (section 10.2): what every later
proof about entry to Starting needs of them. -/

namespace Sys2Proof.Machine

/-! ## A Peer Table in which nothing counts -/

theorem foldl_uncounted {α : Type} {l : List PeerRecord} (h : ∀ r ∈ l, r.state = .absent) (f : α → PeerRecord → α) (a : α) :
    l.foldl (fun a r => if r.counts then f a r else a) a = a := by
  induction l with
  | nil => rfl
  | cons r l ih =>
    have hr : r.counts = false := by simp [PeerRecord.counts, h r]
    rw [List.foldl_cons, hr]
    exact ih fun x hx => h x (List.mem_cons_of_mem _ hx)

theorem PeerTable.initRecords_absent (own : Nat) : ∀ r ∈ PeerTable.initRecords own, r.state = .absent := by
  intro r hr
  unfold PeerTable.initRecords at hr
  split at hr
  · cases hr
  · obtain ⟨n, -, rfl⟩ := List.mem_map.mp hr; rfl

theorem ignOf_absent {t : PeerTable} (h : ∀ r ∈ t.records, r.state = .absent) (b i : Bool) : ignOf b i t = i := by
  have : (t.records.any fun r => r.isPresent && r.ign) = false := by
    rw [List.any_eq_false]
    intro r hr
    simp [PeerRecord.isPresent, h r hr]
  rw [ignOf, this, Bool.and_false, Bool.or_false]

/-! ## The values of a reset or a wake -/

/-- The blocks as entry to Starting finds them after a reset or a wake: what a wake keeps of the Supply Manager is
contributor (c) with the accumulator. -/
structure State.Fresh (s : State) : Prop where
  state    : s.ctl.state = .starting
  peers    : ∀ r ∈ s.peers.records, r.state = .absent
  requests : s.sw.requests = 0
  fanStep  : s.sw.fanStep = 0
  dimmer   : s.sw.dimmer = 63
  ignition : s.sw.ignAccepted = .undetermined
  res      : s.res = Resolver.init
  meas     : ∀ i : Fin 8, s.meas.channels[i] = ⟨Record.init, .none⟩
  out      : s.out = ⟨Vector.replicate 8 Channel.init, 0⟩
  flash    : s.flash = Flasher.init
  fan      : s.fan = { Fan.init with ramp := s.fan.ramp }
  supply   : s.supply = { Supply.init with
    c := s.supply.c, drain := s.supply.drain, drainOver := s.supply.drainOver, drainTick := s.supply.drainTick
    holds := ⟨⟨true, none⟩, ⟨true, none⟩, ⟨true, none⟩⟩ }

/-- The Supply Manager of a fresh station once contributor (c) has been judged (R124, R125, R133). -/
def State.freshSupply (s : State) : Supply :=
  { s.supply with
    localLevel := s.supply.c, effective := s.supply.c
    orders := ⟨orderOf s.supply.c false false 1, orderOf s.supply.c false false 2, orderOf s.supply.c false false 3⟩ }

/-- The Effective Function Set of a fresh station: TELL_SHED alone, where contributor (c) stands (R59). -/
def freshEffective (c : Nat) : EffectiveSet := { EffectiveSet.empty with tellShed := decide (1 ≤ c) }

/-- A fresh station whose Supply Manager and Function Resolver have been recomputed. -/
def State.freshLoads (s : State) : State :=
  { s with supply := s.freshSupply, res := { Resolver.init with eff := freshEffective s.supply.c } }

theorem State.Fresh.stageUnion {s : State} (h : s.Fresh) : s.stageUnion = s := by
  have hi : s.ignInput = false := by unfold State.ignInput; rw [h.ignition]; rfl
  have hu : unionOf 0 s.peers = 0 := foldl_uncounted h.peers _ _
  have hf : fanStepOf 0 s.peers = 0 := foldl_uncounted h.peers _ _
  have hd : dimmerOf 63 s.peers = 63 := foldl_uncounted h.peers _ _
  have hp : panelLevel 63 = 1000 := by decide
  have hres : s.stageUnion.res = s.res := by
    show Resolver.mk _ _ _ _ _ _ = _
    rw [h.requests, h.fanStep, h.dimmer, hi, hu, hf, hd, hp, ignOf_absent h.peers, h.res]
    rfl
  exact congrArg (fun r => { s with res := r }) hres

theorem Hold.ordered_starting (delay : Nat) (old new : Order) :
    (⟨true, none⟩ : Hold).ordered true delay old new = ⟨true, none⟩ := by
  unfold Hold.ordered
  split
  · rfl
  · split <;> rfl

theorem State.Fresh.stageSupply {s : State} (h : s.Fresh) :
    s.stageSupply false = { s with supply := s.freshSupply } := by
  have hi : s.res.ign = false := by rw [h.res]; rfl
  have hb : s.supply.a = 0 ∧ s.supply.b = 0 ∧ s.supply.d = 0 ∧ s.supply.crank = false ∧ s.supply.thermal = false ∧
      s.supply.holds = ⟨⟨true, none⟩, ⟨true, none⟩, ⟨true, none⟩⟩ := by
    rw [h.supply]; exact ⟨rfl, rfl, rfl, rfl, rfl, rfl⟩
  obtain ⟨ha, hb, hd, hcr, hth, hho⟩ := hb
  have he : effectiveShed s.supply.c s.peers = s.supply.c := foldl_uncounted h.peers _ _
  have hlevel : max (max s.supply.a s.supply.b) (max s.supply.c s.supply.d) = s.supply.c := by
    rw [ha, hb, hd]; omega
  rw [State.stageSupply_ignOff hi, hlevel, he]
  unfold Supply.judgeCrank
  rw [if_neg (by decide), if_neg (by simp [hcr])]
  unfold State.stageOrders State.freshSupply
  simp only [State.withSupply, hcr, hth, hho, h.state, decide_true, Hold.ordered_starting]

theorem State.Fresh.stageEffective {s : State} (h : s.Fresh) :
    ({ s with supply := s.freshSupply } : State).stageEffective = s.freshLoads := by
  refine congrArg (fun r => ({ s with supply := s.freshSupply, res := r } : State)) ?_
  change ({ s.res with eff := effectiveSet _ _ _ _ _ } : Resolver) = _
  rw [h.res, h.flash]
  simp [effectiveSet, State.freshSupply, freshEffective, Resolver.init, Flasher.init, EffectiveSet.empty,
    effSide, effMain, effDip, effFlashL, effFlashR, hasFn]
  rfl

/-- The state of a fresh station that Station Control finds in the hand-ons: the loads have followed. -/
theorem State.Fresh.beforeControl {s : State} (h : s.Fresh) :
    s.beforeControl false = ((s.freshLoads.stageChannels false).stageFan).stageLoad := by
  have hi : s.res.ign = false := by rw [h.res]; rfl
  have hfl : ({ s with supply := s.freshSupply } : State).stageFlasher = ({ s with supply := s.freshSupply }, false) := by
    refine if_pos (.inr ?_)
    show sideSetFrom (effFlashL s.res.union s.res.ign) (effFlashR s.res.union s.res.ign) = s.flash.sides
    rw [h.res, h.flash]; rfl
  unfold State.beforeControl
  rw [h.stageUnion, hi, h.stageSupply, hfl]
  exact congrArg (fun u : State => ((u.stageChannels false).stageFan).stageLoad) h.stageEffective

end Sys2Proof.Machine
end

section
/-! PROOFS. The channels and the fan of a station that enters Starting: every channel stands in Off or Shed but a lit
one of TELL_SHED, and the fan stands. -/

namespace Sys2Proof.Machine

/-! ## The commands (R59, R83 to R85) -/

theorem freshEffective_byCode (c n : Nat) : (freshEffective c).byCode n = true ↔ n = 18 ∧ 1 ≤ c := by
  unfold EffectiveSet.byCode
  split <;> simp_all [freshEffective, EffectiveSet.empty]

/-- The channel entry is a Lamp or Plain one of TELL_SHED, and contributor (c) stands (R59). -/
def State.Tells (s : State) (e : ChannelEntry) : Prop :=
  (e.kind = .lamp ∨ e.kind = .plain) ∧ e.function = 18 ∧ 1 ≤ s.supply.c

theorem State.Tells.commandFor {s : State} {e : ChannelEntry} (h : s.Tells e) :
    ∃ level, s.freshLoads.commandFor e = .steady level := by
  obtain ⟨hk, hn, hc⟩ := h
  have hb : s.freshLoads.res.eff.byCode e.function = true := (freshEffective_byCode _ _).mpr ⟨hn, hc⟩
  unfold State.commandFor
  rcases hk with hk | hk <;> rw [hk] <;> exact ⟨_, if_pos hb⟩

theorem State.commandFor_untold {s : State} {e : ChannelEntry} (h : ¬s.Tells e) : s.freshLoads.commandFor e = .off := by
  have hb : e.kind = .lamp ∨ e.kind = .plain → ¬s.freshLoads.res.eff.byCode e.function = true :=
    fun hk k => h ⟨hk, (freshEffective_byCode _ _).mp k⟩
  unfold State.commandFor
  cases hk : e.kind with
  | lamp => exact if_neg (hb (.inl hk))
  | plain => exact if_neg (hb (.inr hk))
  | flashLamp => cases e.side <;> rfl
  | stopTurn => cases e.side <;> rfl
  | off => rfl
  | motor => rfl

/-! ## The orders and holds (R133, R139) -/

theorem State.freshSupply_order (s : State) (cls : Nat) (h : s.supply.c = 0) : s.freshSupply.order cls = .normal := by
  unfold Supply.order State.freshSupply
  rw [h]
  split <;> rfl

theorem State.freshSupply_order_unclassed (s : State) {cls : Nat} (h : cls ∉ [1, 2, 3]) : s.freshSupply.order cls = .normal := by
  unfold Supply.order
  split <;> simp_all

theorem State.Fresh.held {s : State} (h : s.Fresh) (cls : Nat) : s.freshSupply.held cls = true ↔ cls ∈ [1, 2, 3] := by
  have hh : s.freshSupply.holds = ⟨⟨true, none⟩, ⟨true, none⟩, ⟨true, none⟩⟩ := by
    show s.supply.holds = _
    rw [h.supply]
  unfold Supply.held
  rw [hh]
  split <;> simp_all

/-! ## The channels (R88, R89, R139) -/

theorem State.Fresh.channel {s : State} (h : s.Fresh) (i : Fin 8) : s.freshLoads.out.channels[i] = Channel.init := by
  show s.out.channels[i] = _
  rw [h.out]
  simp

theorem Channel.follow_init_off (e : ChannelEntry) (order : Order) (hold fresh : Bool) :
    Channel.init.follow e order hold fresh .off =
      (if order = .shed then { Channel.init with state := .shed } else Channel.init, false) := by
  cases order <;> cases hold <;> rfl

theorem Channel.follow_init_steady (e : ChannelEntry) (order : Order) (hold fresh : Bool) (level : Nat) :
    (Channel.init.follow e order hold fresh (.steady level)).1.state =
      if order = .shed then .shed else if hold then .off else if e.inrush = 0 then .on else .inrush := by
  have he : ∀ c : Channel, (c.energize e).state = if e.inrush = 0 then .on else .inrush := fun c => by
    unfold Channel.energize; split <;> rfl
  show (ite (order = .shed) _ (ite (hold = true) _ (ite (Command.steady level = .off) _ _)) : Channel × Bool).1.state = _
  rw [if_neg (show Command.steady level ≠ .off by nofun)]
  split
  · rfl
  · split
    · rfl
    · exact he _

theorem State.Fresh.followChannel_idle {s : State} (h : s.Fresh) {i : Fin 8}
    (k : s.cfg.channels[i].kind.follows = false) (x : Bool) :
    (s.freshLoads.followChannel x i).1 = Channel.init := by
  unfold State.followChannel
  dsimp only
  rw [show s.freshLoads.cfg = s.cfg from rfl, if_pos k]
  exact h.channel i

theorem State.Fresh.followChannel_normal {s : State} (h : s.Fresh) (hc : s.supply.c = 0) (x : Bool) (i : Fin 8) :
    (s.freshLoads.followChannel x i).1 = Channel.init := by
  have ho : s.freshLoads.supply.order s.freshLoads.cfg.channels[i].cls = .normal := s.freshSupply_order _ hc
  have hcmd : s.freshLoads.commandFor s.freshLoads.cfg.channels[i] = .off :=
    State.commandFor_untold fun k => by have := k.2.2; omega
  unfold State.followChannel
  dsimp only
  rw [h.channel i, ho, hcmd, Channel.follow_init_off]
  split
  · rfl
  · split <;> rfl

/-- The channel is energized at entry to Starting: one of TELL_SHED that no order or hold of its class keeps back. -/
def State.LitAtStart (s : State) (e : ChannelEntry) : Prop :=
  s.Tells e ∧ e.cls ∉ [1, 2, 3] ∧ s.straps.number ≠ 15

theorem State.Fresh.drives {s : State} (h : s.Fresh) : s.drives = true ↔ s.straps.number ≠ 15 := by
  unfold State.drives State.strapInvalid
  rw [h.state]
  simp

theorem State.Fresh.followChannel_state {s : State} (h : s.Fresh) (x : Bool) (i : Fin 8) :
    (s.LitAtStart s.cfg.channels[i] → (s.freshLoads.followChannel x i).1.state =
      if s.cfg.channels[i].inrush = 0 then .on else .inrush) ∧
    (¬s.LitAtStart s.cfg.channels[i] → (s.freshLoads.followChannel x i).1.state = .off ∨
      (s.freshLoads.followChannel x i).1.state = .shed) := by
  have hd : s.freshLoads.drives = s.drives := rfl
  have hcfg : s.freshLoads.cfg = s.cfg := rfl
  by_cases hk : s.cfg.channels[i].kind.follows = false
  · rw [h.followChannel_idle hk]
    refine ⟨fun k => ?_, fun _ => .inl rfl⟩
    obtain ⟨⟨k | k, -, -⟩, -, -⟩ := k <;> rw [k] at hk <;> cases hk
  by_cases hn : s.straps.number = 15
  · refine ⟨fun k => absurd hn k.2.2, fun _ => .inl ?_⟩
    unfold State.followChannel
    dsimp only
    rw [hcfg, if_neg hk, if_neg (by rw [hd, h.drives]; exact fun k => k hn), h.channel i]
    rfl
  have hf : (s.freshLoads.followChannel x i) = Channel.init.follow s.cfg.channels[i]
      (s.freshSupply.order s.cfg.channels[i].cls) (s.freshSupply.held s.cfg.channels[i].cls) x
      (s.freshLoads.commandFor s.cfg.channels[i]) := by
    unfold State.followChannel
    dsimp only
    rw [hcfg, if_neg hk, if_pos (by rw [hd, h.drives]; exact hn), h.channel i]
    rfl
  rw [hf]
  by_cases ht : s.Tells s.cfg.channels[i]
  · obtain ⟨level, hl⟩ := ht.commandFor
    rw [hl, Channel.follow_init_steady]
    by_cases hc : s.cfg.channels[i].cls ∈ [1, 2, 3]
    · refine ⟨fun k => absurd hc k.2.1, fun _ => ?_⟩
      rw [if_pos ((h.held _).mpr hc)]
      split
      · exact .inr rfl
      · exact .inl rfl
    · refine ⟨fun _ => ?_, fun k => absurd ⟨ht, hc, hn⟩ k⟩
      rw [s.freshSupply_order_unclassed hc, if_neg (by decide), if_neg fun k => hc ((h.held _).mp k)]
  · refine ⟨fun k => absurd k.1 ht, fun _ => ?_⟩
    rw [State.commandFor_untold ht, Channel.follow_init_off]
    dsimp only
    split
    · exact .inr rfl
    · exact .inl rfl

/-! ## What the channels' hand-on leaves -/

theorem State.redrive_state (s : State) (i : Fin 8) (c : Channel) : (s.redrive i c).state = c.state := by
  unfold State.redrive; split <;> rfl

theorem State.openGate_state (s : State) (i : Fin 8) : (s.openGate i).state = s.out.channels[i].state := by
  unfold State.openGate; split <;> rfl

theorem State.stageChannels_state (s : State) (x : Bool) (i : Fin 8) :
    (s.stageChannels x).out.channels[i].state = (s.followChannel x i).1.state := by
  unfold State.stageChannels
  simp only [State.withOut_out, Vector.getElem_ofFn, Fin.getElem_fin]
  rw [State.openGate_state]
  simp only [State.withOut_out, Vector.getElem_ofFn, Fin.getElem_fin]
  rw [State.redrive_state]

theorem State.redrive_init (s : State) (i : Fin 8) : s.redrive i Channel.init = Channel.init := by
  unfold State.redrive; split <;> rfl

theorem State.openGate_init {s : State} {i : Fin 8} (h : s.out.channels[i] = Channel.init) :
    s.openGate i = Channel.init := by
  unfold State.openGate; rw [h]; split <;> rfl

theorem State.stageChannels_init {s : State} {x : Bool} {i : Fin 8} (h : (s.followChannel x i).1 = Channel.init) :
    (s.stageChannels x).out.channels[i] = Channel.init := by
  unfold State.stageChannels
  simp only [State.withOut_out, Vector.getElem_ofFn, Fin.getElem_fin]
  refine State.openGate_init ?_
  simp only [State.withOut_out, Vector.getElem_ofFn, Fin.getElem_fin]
  rw [h, State.redrive_init]

/-- Where no channel is armed the current blocks are not restarted (R75). -/
theorem State.stageChannels_meas_unarmed {s : State} (h : ∀ i : Fin 8, s.meas.channels[i].mark = .none) (x : Bool) :
    (s.stageChannels x).meas = s.meas := by
  have hr : ∀ (b : Bool) (i : Fin 8), s.restartIfArmed b i = s.meas.channels[i] := fun b i => by
    unfold State.restartIfArmed
    dsimp only
    rw [if_neg]
    rintro ⟨-, -, k⟩
    rw [h i] at k
    cases k
  have hv : (Vector.ofFn fun i : Fin 8 => s.meas.channels[i]) = s.meas.channels := by
    ext i hi; simp
  unfold State.stageChannels
  dsimp only
  rw [State.withOut_meas, State.withOut_meas, State.withMeas_meas]
  simp only [hr, hv]

/-! ## The loads after the channels' hand-on -/

theorem State.Fresh.stageChannels_meas {s : State} (h : s.Fresh) : (s.freshLoads.stageChannels false).meas = s.meas :=
  State.stageChannels_meas_unarmed (s := s.freshLoads) (fun i => by
    show s.meas.channels[i].mark = _
    rw [h.meas i]) false

theorem State.setChannel_self (s : State) (m : Fin 8) {c : Channel} (h : s.out.channels[m] = c) : s.setChannel m c = s := by
  subst h
  unfold State.setChannel State.withOut
  simp

theorem Fan.act_still {f : Fan} (hs : f.state = .off) (ht : f.target = 0) (before : Nat) (shed crank hold : Bool) :
    f.act before shed crank hold = f := by
  unfold Fan.act
  rw [hs, ht]
  exact if_neg fun k => absurd k.1 (lt_irrefl 0)

theorem Fan.capNow_off {f : Fan} (hs : f.state = .off) (resolved : Nat) (order : Order) (crank : Bool) :
    f.capNow resolved order crank = decide (order = .limited) := by
  unfold Fan.capNow Fan.defers
  rw [hs]
  rfl

theorem State.driveMotor_standing {s : State} {m : Fin 8} (hc : s.out.channels[m] = Channel.init)
    (hs : s.fan.state = .off) : s.driveMotor m false = s := by
  unfold State.driveMotor
  rw [hc, hs]
  refine State.setChannel_self s m (hc.trans ?_)
  split <;> rfl

/-- The fan of a fresh station stands: its target is 0, and the limited cap alone may stand (R145). -/
theorem State.Fresh.stageFan {s : State} (h : s.Fresh) : ∃ capped : Bool, (s.supply.c = 0 → capped = false) ∧
    (s.freshLoads.stageChannels false).stageFan =
      { s.freshLoads.stageChannels false with fan := { s.fan with capped := capped } } := by
  generalize hw : s.freshLoads.stageChannels false = w
  have hfan : w.fan = s.fan := by rw [← hw, State.stageChannels_fan]; rfl
  have hres : w.res.fanStep = 0 := by rw [← hw, State.stageChannels_res]; rfl
  have hsup : w.supply = s.freshSupply := by rw [← hw, State.stageChannels_supply]; rfl
  have hcfg : w.cfg = s.cfg := by rw [← hw, State.stageChannels_cfg]; rfl
  unfold State.stageFan
  split
  · refine ⟨s.fan.capped, fun _ => by rw [h.fan]; rfl, ?_⟩
    rw [hfan, hres, h.fan]
    rfl
  · rename_i m hm
    have hk : s.cfg.channels[m].kind = .motor := by
      have := List.find?_some hm
      rw [hcfg] at this
      exact of_decide_eq_true this
    have hc : w.out.channels[m] = Channel.init := by
      rw [← hw]
      exact State.stageChannels_init (h.followChannel_idle (by rw [hk]; rfl) false)
    refine ⟨decide (w.supply.order w.cfg.channels[m].cls = .limited), fun hc0 => ?_, ?_⟩
    · rw [hsup, s.freshSupply_order _ hc0]; rfl
    · have hoff : w.fan.state = .off := by rw [hfan, h.fan]; rfl
      have htarget : w.fan.target = 0 := by rw [hfan, h.fan]; rfl
      have hstep : ∀ b : Bool, fanTarget 0 b = 0 := fun b => by cases b <;> rfl
      dsimp only
      rw [hres, Fan.capNow_off hoff, hstep, htarget, Fan.act_still (by exact hoff) rfl, ite_self]
      refine (State.driveMotor_standing (by exact hc) (by exact hoff)).trans ?_
      rw [hfan, h.fan]
      rfl

/-- The demand and harness load of a fresh station are 0: no record is valid and no peer counts (R104, R129). -/
theorem State.stageLoad_idle {s : State} (hm : ∀ i : Fin 8, s.meas.channels[i].base.valid = false)
    (hp : ∀ r ∈ s.peers.records, r.state = .absent) (hi : s.res.ign = false) (hd : s.out.demand = 0)
    (hh : s.supply.harness = 0) : s.stageLoad = s := by
  have hz : ∀ i : Fin 8, s.channelDemand i = 0 := fun i => if_neg (by rw [hm i]; simp)
  have hn : s.demandNow = 0 := by
    unfold State.demandNow
    rw [funext hz]
    rfl
  have hl : harnessOf 0 s.peers = 0 := by
    unfold harnessOf
    rw [foldl_uncounted hp]; rfl
  have ho : ({ s.out with demand := s.demandNow } : Outputs) = s.out := by rw [hn, ← hd]
  have hs : ({ s.supply with harness := harnessOf s.out.demand s.peers } : Supply) = s.supply := by rw [hd, hl, ← hh]
  unfold State.stageLoad
  dsimp only
  rw [ho]
  simp only [State.withOut, hi]
  exact congrArg s.withSupply hs

end Sys2Proof.Machine
end

section
/-! PROOFS. A reset enters Starting with every block at its value of section 10.2: with contributor (c) at 0 the hand-ons
of entry to Starting change nothing. -/

namespace Sys2Proof.Machine

/-! ## The hand-ons of a fresh station -/

theorem State.Fresh.beforeControl_eq {s : State} (h : s.Fresh) : ∃ capped : Bool, (s.supply.c = 0 → capped = false) ∧
    s.beforeControl false =
      { s.freshLoads.stageChannels false with fan := { s.fan with capped := capped } } := by
  obtain ⟨capped, hc, hf⟩ := h.stageFan
  refine ⟨capped, hc, ?_⟩
  rw [h.beforeControl, hf]
  refine State.stageLoad_idle (fun i => ?_) ?_ ?_ ?_ ?_
  · show (s.freshLoads.stageChannels false).meas.channels[i].base.valid = false
    rw [h.stageChannels_meas, h.meas i]; rfl
  · show ∀ r ∈ (s.freshLoads.stageChannels false).peers.records, _
    rw [State.stageChannels_peers]
    exact h.peers
  · show (s.freshLoads.stageChannels false).res.ign = false
    rw [State.stageChannels_res]; rfl
  · show s.out.demand = 0
    rw [h.out]
  · show (s.freshLoads.stageChannels false).supply.harness = 0
    rw [State.stageChannels_supply]
    show s.supply.harness = 0
    rw [h.supply]; rfl

theorem State.Fresh.freshSupply_reset {s : State} (h : s.Fresh) (hc : s.supply.c = 0) : s.freshSupply = s.supply := by
  unfold State.freshSupply
  rw [h.supply, hc]
  rfl

theorem State.Fresh.freshLoads_reset {s : State} (h : s.Fresh) (hc : s.supply.c = 0) : s.freshLoads = s := by
  have hr : ({ Resolver.init with eff := freshEffective s.supply.c } : Resolver) = s.res := by rw [hc, h.res]; rfl
  unfold State.freshLoads
  rw [h.freshSupply_reset hc, hr]

theorem State.Fresh.stageChannels_reset {s : State} (h : s.Fresh) (hc : s.supply.c = 0) :
    s.freshLoads.stageChannels false = s := by
  have hm := h.stageChannels_meas
  have ho : (s.freshLoads.stageChannels false).out = s.out := by
    have hch : (s.freshLoads.stageChannels false).out.channels = s.out.channels := by
      ext i hi
      have := State.stageChannels_init (h.followChannel_normal hc false ⟨i, hi⟩)
      have h0 := h.channel ⟨i, hi⟩
      exact this.trans h0.symm
    exact congrArg (fun c => (⟨c, s.out.demand⟩ : Outputs)) hch
  obtain ⟨m, o, hs⟩ := State.stageChannels_frame s.freshLoads false
  rw [hs] at hm ho ⊢
  obtain rfl : m = s.meas := hm
  obtain rfl : o = s.out := ho
  exact h.freshLoads_reset hc

theorem State.Fresh.settle_reset {s : State} (h : s.Fresh) (hc : s.supply.c = 0) : s.settle s false = s := by
  obtain ⟨capped, hcap, hb⟩ := h.beforeControl_eq
  have hfan : ({ s.fan with capped := capped } : Fan) = s.fan := by rw [hcap hc, h.fan]; rfl
  rw [h.stageChannels_reset hc, hfan] at hb
  have hcontrol : s.stageControl s.res.eff = s := by
    unfold State.stageControl
    rw [h.state]
    exact if_pos rfl
  rw [State.settle_eq, hb, hcontrol]
  exact if_neg (by simp [State.statusChanged])

/-! ## What a reset and a wake leave for entry to Starting -/

theorem State.atStart_fresh {s : State} (hp : ∀ r ∈ s.peers.records, r.state = .absent) (hw : s.sw = SwitchInputs.init)
    (hr : s.res = Resolver.init) (hm : s.meas = Measurement.init) (ho : s.out = ⟨Vector.replicate 8 Channel.init, 0⟩)
    (hf : s.flash = Flasher.init) (hfan : s.fan = Fan.init)
    (hs : s.supply = { Supply.init with c := s.supply.c, drain := s.supply.drain, drainOver := s.supply.drainOver }) :
    s.atStart.Fresh where
  state := rfl
  peers := hp
  requests := by show s.sw.requests = 0; rw [hw]; rfl
  fanStep := by show s.sw.fanStep = 0; rw [hw]; rfl
  dimmer := by show s.sw.dimmer = 63; rw [hw]; rfl
  ignition := by show s.sw.ignAccepted = _; rw [hw]; rfl
  res := hr
  meas i := by
    show s.meas.channels[i] = _
    rw [hm]; simp [Measurement.init]
  out := ho
  flash := hf
  fan := by show ({ s.fan with ramp := some 100 } : Fan) = _; rw [hfan]; rfl
  supply := by
    show ({ s.supply with
      drainTick := some 1000, holds := ⟨⟨true, none⟩, ⟨true, none⟩, ⟨true, none⟩⟩ } : Supply) = _
    rw [hs]; rfl

theorem State.loadConfig_frame (s : State) : s.loadConfig = { s with
    cfg := loadedConfig s.store s.straps.sixVolt
    faults := if (loadedConfig s.store s.straps.sixVolt).isDefault then s.faults.add .configDefault none s.ctl.clock
      else s.faults } := by
  unfold State.loadConfig
  dsimp only
  split <;> rfl

/-- The state that a reset hands to entry to Starting (R24, R42, R54, R62, R79, R105, R123, R142, R156, R171, R183,
R191). -/
def State.atReset (s : State) (p : StrapPins) (supply : Supply) (cause : ResumeCause) : State :=
  { s with
    straps := latchStraps p
    peers := ⟨PeerTable.initRecords (latchStraps p).number, 0, 0⟩
    sw := SwitchInputs.init
    res := Resolver.init
    meas := Measurement.init
    out := ⟨Vector.replicate 8 Channel.init, 0⟩
    flash := Flasher.init
    fan := Fan.init
    gauges := ⟨Vector.replicate 4 Gauge.init, none⟩
    line := Line.init
    supply := supply
    svc := ⟨0, none, false, false⟩
    cfg := loadedConfig s.store (latchStraps p).sixVolt
    faults := ⟨if (loadedConfig s.store (latchStraps p).sixVolt).isDefault then [⟨.configDefault, none, 0, 1, false⟩]
      else [], false⟩
    ctl := ⟨true, .starting, none, none, .none, cause, none, 0⟩ }

theorem State.takeReset_eq (s : State) (p : StrapPins) (supply : Supply) (cause : ResumeCause) :
    s.takeReset p supply cause = (s.atReset p supply cause).enterStarting true := by
  unfold State.takeReset
  dsimp only
  rw [State.loadConfig_frame]
  refine congrArg (State.enterStarting · true) ?_
  unfold State.atReset
  congr 1
  show (if (loadedConfig s.store (latchStraps p).sixVolt).isDefault = true then _ else _ : FaultList) = _
  cases (loadedConfig s.store (latchStraps p).sixVolt).isDefault <;> rfl

/-- A state with its Transmit Queue replaced. -/
def State.queued (s : State) (q : Queue) : State := { s with line := { s.line with queue := q } }

theorem State.takeReset_entered (s : State) (p : StrapPins) (cause : ResumeCause) {supply : Supply}
    (h : supply = { Supply.init with drain := supply.drain, drainOver := supply.drainOver }) :
    ∃ status announce : Entry, s.takeReset p supply cause =
      (s.atReset p supply cause).atStart.queued ⟨some status, some announce, [], [], 2⟩ := by
  have hc : supply.c = 0 := by rw [h]; rfl
  have hf : (s.atReset p supply cause).atStart.Fresh :=
    State.atStart_fresh (PeerTable.initRecords_absent _) rfl rfl rfl rfl rfl rfl (by
      show supply = { Supply.init with c := supply.c, drain := supply.drain, drainOver := supply.drainOver }
      rw [hc]; exact h)
  rw [State.takeReset_eq, State.enterStarting_eq, if_pos rfl, hf.settle_reset hc,
    State.requestStatus_empty (by nofun) rfl, State.requestAnnounce_empty (by nofun) rfl]
  exact ⟨_, _, rfl⟩

theorem State.atStart_periodic (s : State) :
    s.atStart.line.periodic = if s.straps.number = 15 then none else some 100 := by
  unfold State.atStart State.strapInvalid
  simp

theorem State.atStart_gauges (s : State) :
    s.atStart.gauges = { s.gauges with update := if s.straps.number = 15 then none else some 100 } := by
  unfold State.atStart State.strapInvalid
  simp

theorem exec_powerOnReset (p : StrapPins) (s : State) :
    exec (.powerOnReset p) s = .next (s.powerDown.takeReset p Supply.init .powerOn) := rfl

theorem exec_serviceRestart {p : StrapPins} {s : State} (hp : s.ctl.powered = true) (ho : s.svc.restartOrdered = true) :
    exec (.serviceRestart p) s = .next
      (s.takeReset p { Supply.init with drain := s.supply.drain, drainOver := s.supply.drainOver } .service) :=
  congrArg Host.Outcome.next (if_pos ⟨hp, ho⟩)

/-- Settles O48: the hand-ons of entry to Starting find nothing that asks for anything, so every block keeps the value
the reset gave it, and the STATUS and ANNOUNCE are queued into empty slots. -/
theorem resetsEnterStarting : Obligations.ResetsEnterStarting := by
  refine ⟨fun s h => congrArg Host.Outcome.next (if_pos h), fun s p c cause h => ?_⟩
  obtain ⟨w, supply, hsup, hx, hpins, huid, hpending⟩ : ∃ (w : State) (supply : Supply),
      supply = { Supply.init with drain := supply.drain, drainOver := supply.drainOver } ∧
      exec c s = .next (w.takeReset p supply cause) ∧
      w.pins = s.pins ∧ w.uid = s.uid ∧ w.pending = s.pending := by
    rcases h with ⟨rfl, rfl⟩ | ⟨rfl, rfl, hp, ho⟩
    · exact ⟨s.powerDown, _, rfl, exec_powerOnReset p s, rfl, rfl, rfl⟩
    · exact ⟨s, _, rfl, exec_serviceRestart hp ho, rfl, rfl, rfl⟩
  obtain ⟨status, announce, ht⟩ := w.takeReset_entered p cause hsup
  rw [hx, ht]
  refine ⟨_, rfl, rfl, rfl, rfl, rfl, rfl, rfl, rfl, rfl, rfl, rfl, rfl, rfl, rfl, rfl, ?_, rfl, rfl, rfl, rfl, rfl, rfl, rfl,
    ?_, hpins, huid, hpending⟩
  · exact State.atStart_periodic _
  · exact State.atStart_gauges _

end Sys2Proof.Machine
end

section
/-! PROOFS. The wakes: the local ones write the cause and begin the pulse; entry to Starting leaves every block at its
value of a wake, the Supply Manager and the lit channels of TELL_SHED apart. -/

namespace Sys2Proof.Machine

/-! ## Entry to Starting from the values of a wake -/

theorem State.stageControl_starting {s : State} (h : s.ctl.state = .starting) (e : EffectiveSet) : s.stageControl e = s := by
  have hq : s.reloadQuiet = s := if_neg (by rw [h]; decide)
  unfold State.stageControl
  rw [h, hq]
  exact ite_self s

/-- What queuing a STATUS leaves of the Line Interface. -/
structure StatusPut (l m : Line) : Prop where
  kept     : LineKept l m
  flash    : m.queue.flash = l.queue.flash
  counters : m.counters = l.counters

theorem StatusPut.trans {a b c : Line} (h : StatusPut a b) (k : StatusPut b c) : StatusPut a c :=
  ⟨h.kept.trans k.kept, k.flash.trans h.flash, k.counters.trans h.counters⟩

theorem Line.putStatus_put (l : Line) (content : List Byte) : StatusPut l (l.putStatus content) where
  kept := Line.putStatus_kept l content
  flash := Line.putStatus_flash l content
  counters := by unfold Line.putStatus; split <;> rfl

theorem StatusPut.refl (l : Line) : StatusPut l l := ⟨LineKept.refl l, rfl, rfl⟩

theorem State.requestStatus_put (s : State) : StatusPut s.line s.requestStatus.line := by
  unfold State.requestStatus
  split
  · exact StatusPut.refl _
  · exact Line.putStatus_put _ _

theorem State.stageStatus_put (s b : State) : StatusPut s.line (s.stageStatus b).line := by
  unfold State.stageStatus
  split
  · exact State.requestStatus_put s
  · exact StatusPut.refl _

theorem State.requestStatus_isSome {s : State} (h : s.line.sub ≠ .muted) :
    s.requestStatus.line.queue.status.isSome = true := by
  unfold State.requestStatus
  rw [if_neg h, State.withLine_line, Line.putStatus_status]
  rfl

theorem StatusPut.inFlight {l m : Line} (h : StatusPut l m) (hl : l.inFlight = none) : m.inFlight = none := by
  have := h.kept.flying
  rw [hl] at this
  exact Option.map_eq_none_iff.mp this

/-- Entry to Starting changes of a fresh station the Supply Manager, the Effective Function Set, the channels' states, the
fan's cap and the queued STATUS. -/
theorem State.Fresh.entered {s : State} (h : s.Fresh) : ∃ (capped : Bool) (out : Outputs) (line : Line),
    (s.settle s false).requestStatus =
      { s.freshLoads with out := out, line := line, fan := { s.fan with capped := capped } } ∧
    (∀ i : Fin 8, out.channels[i].state = (s.freshLoads.followChannel false i).1.state) ∧
    StatusPut s.line line ∧ (s.line.sub ≠ .muted → line.queue.status.isSome = true) := by
  obtain ⟨capped, -, hb⟩ := h.beforeControl_eq
  have hstart : (s.beforeControl false).ctl.state = .starting := by rw [State.beforeControl_ctl, h.state]
  have hset : s.settle s false = (s.beforeControl false).stageStatus s := by
    rw [State.settle_eq, State.stageControl_starting hstart]
  have hline : (s.beforeControl false).line = s.line := by
    rw [hb]
    show (s.freshLoads.stageChannels false).line = s.line
    rw [State.stageChannels_line]
    rfl
  obtain ⟨l, hl⟩ := State.stageStatus_frame (s.beforeControl false) s
  obtain ⟨l', hl'⟩ := State.requestStatus_frame (s.settle s false)
  have hput : StatusPut s.line (s.settle s false).line := by
    rw [hset, ← hline]; exact State.stageStatus_put _ _
  refine ⟨capped, (s.freshLoads.stageChannels false).out, (s.settle s false).requestStatus.line, ?_, fun i => ?_, ?_, fun hm => ?_⟩
  · obtain ⟨m, o, hc⟩ := State.stageChannels_frame s.freshLoads false
    have hmeas := h.stageChannels_meas
    rw [hc] at hmeas
    obtain rfl : m = s.meas := hmeas
    have heq : (s.settle s false).requestStatus =
        { s.beforeControl false with line := (s.settle s false).requestStatus.line } := by
      rw [hl', hset, hl]
    rw [heq, hb, hc]
    rfl
  · exact State.stageChannels_state _ _ _
  · exact hput.trans (State.requestStatus_put _)
  · exact State.requestStatus_isSome (by rw [hput.kept.sub]; exact hm)

/-! ## The state of a wake -/

/-- The state that a wake hands to entry to Starting (R24, R42, R54, R62, R79, R105, R123, R142, R156, R171, R181). -/
def State.atWake (s : State) (cause : ResumeCause) (index : Option Nat) : State :=
  { s with
    peers := { s.peers with records := PeerTable.initRecords s.straps.number }
    sw := SwitchInputs.init
    res := Resolver.init
    meas := Measurement.init
    out := ⟨Vector.replicate 8 Channel.init, 0⟩
    flash := Flasher.init
    fan := Fan.init
    gauges := ⟨Vector.replicate 4 Gauge.init, none⟩
    line := { s.line with
      view := .busy
      queue := s.line.queue.emptied
      inFlight := none
      spacing := none
      run := 0
      probing := false
      isoWait := if s.line.sub = .isolated then some 1000 else none }
    supply := { Supply.init with c := s.supply.c, drain := s.supply.drain, drainOver := s.supply.drainOver }
    ctl := { s.ctl with cause := cause, inputIndex := index } }

theorem State.wakeUp_eq (s : State) (cause : ResumeCause) (index : Option Nat) :
    s.wakeUp cause index = (s.atWake cause index).enterStarting false := rfl

theorem State.atWake_fresh (s : State) (cause : ResumeCause) (index : Option Nat) : (s.atWake cause index).atStart.Fresh :=
  State.atStart_fresh (PeerTable.initRecords_absent _) rfl rfl rfl rfl rfl rfl rfl

theorem State.inputWakes_iff {s : State} {i : Fin 8} (he : s.cfg.switches[i].enabled = true)
    (hw : s.cfg.switches[i].wakeEnable = true) :
    s.inputWakes i = true ↔ (s.raw i = .closed ↔ s.sw.inputs[i].sleepRef ≠ .closed) := by
  have hraw : s.raw i = .opened ∨ s.raw i = .closed := by
    unfold State.raw rawContact
    split
    · exact .inr rfl
    · exact .inr rfl
    · exact .inl rfl
    · exact .inl rfl
    · exact .inl rfl
  unfold State.inputWakes
  rw [he, hw]
  rcases hraw with hr | hr <;> cases hs : s.sw.inputs[i].sleepRef <;> simp [hr, Contact.settled]

theorem exec_lineWake {s : State} (hl : s.live = true) (ha : s.ctl.state = .asleep) (hw : s.ctl.wake = .none) :
    exec .lineWake s = .next (s.wakeUp .line none) :=
  congrArg Host.Outcome.next (if_pos (by simp [State.sleeping, hl, ha, hw]))

theorem exec_wakeWaitExpiry {s : State} (hl : s.live = true) (ha : s.ctl.state = .asleep) (hw : s.ctl.wake = .wait) :
    exec .wakeWaitExpiry s = .next (s.wakeUp s.ctl.cause s.ctl.inputIndex) :=
  congrArg Host.Outcome.next (if_pos ⟨hl, ha, hw⟩)

/-- Settles O51: the wakes by the commands' own conditions; what entry to Starting leaves by `State.Fresh.entered`. -/
theorem stationWakes : Obligations.StationWakes := by
  refine ⟨fun s i hs he hw hi => congrArg Host.Outcome.next (if_pos ⟨hs, (State.inputWakes_iff he hw).mpr hi⟩),
    fun s hs hp => congrArg Host.Outcome.next (if_pos ⟨hs, hp⟩),
    fun s hl ha hw => congrArg Host.Outcome.next (if_pos ⟨hl, ha, hw⟩), fun s c cause index hl ha h => ?_⟩
  have hx : exec c s = .next (s.wakeUp cause index) := by
    rcases h with ⟨rfl, hw, rfl, rfl⟩ | ⟨rfl, hw, rfl, rfl⟩
    · exact exec_lineWake hl ha hw
    · exact exec_wakeWaitExpiry hl ha hw
  have hfresh := s.atWake_fresh cause index
  obtain ⟨capped, out, line, ht, hout, hput, hstatus⟩ := hfresh.entered
  rw [hx, State.wakeUp_eq, State.enterStarting_eq, if_neg (by decide), ht]
  refine ⟨_, rfl, rfl, rfl, rfl, rfl, rfl, rfl, hput.kept.sub, hput.counters, hput.kept.view, hput.kept.run, hput.kept.isoWait,
    hput.inFlight rfl, hput.kept.announce, hput.flash, hput.kept.reply, hstatus, rfl, rfl, rfl, ?_, rfl, rfl, ?_, rfl⟩
  · intro i e lit he hlit
    obtain ⟨hon, hoff⟩ := hfresh.followChannel_state false i
    have hl : lit = true ↔ (s.atWake cause index).atStart.LitAtStart e := by
      rw [hlit]
      exact ⟨fun ⟨hk, hc, hf, hs, hn⟩ => ⟨⟨hk, hf, hs⟩, hc, hn⟩, fun ⟨⟨hk, hf, hs⟩, hc, hn⟩ => ⟨hk, hc, hf, hs, hn⟩⟩
    subst he
    exact ⟨fun k => (hout i).trans (hon (hl.mp k)),
      fun k => (hoff fun n => by rw [hl.mpr n] at k; cases k).imp (hout i).trans (hout i).trans⟩
  · exact State.atStart_gauges _

end Sys2Proof.Machine
end

section
/-! PROOFS. The numbers of the Peer Table's records: no command changes them or the straps but a reset and a wake, which
lay the table out afresh (R25, R42). -/

namespace Sys2Proof.Machine

/-- What R25 speaks of: the station's own number and the numbers of its records. -/
def State.numbering (s : State) : Nat × List Nat := (s.straps.number, s.peers.records.map PeerRecord.number)

theorem State.peersOk_iff (s : State) :
    s.PeersOk ↔ s.numbering.2 = (PeerTable.initRecords s.numbering.1).map PeerRecord.number := Iff.rfl

theorem State.PeersOk.of_numbering {s t : State} (h : s.PeersOk) (e : t.numbering = s.numbering) : t.PeersOk := by
  rw [State.peersOk_iff] at *
  rwa [e]

/-! ## What keeps the numbers -/

theorem State.numbering_ite {p : Prop} [Decidable p] {a b : State} {n : Nat × List Nat} (ha : a.numbering = n := by rfl)
    (hb : b.numbering = n := by rfl) : (if p then a else b).numbering = n := by
  split
  · exact ha
  · exact hb

theorem State.settle_numbering (s b : State) (x : Bool) : (s.settle b x).numbering = s.numbering := by
  simp [State.numbering]

theorem State.requestStatus_numbering (s : State) : s.requestStatus.numbering = s.numbering := by
  simp [State.numbering]

theorem State.requestAnnounce_numbering (s : State) : s.requestAnnounce.numbering = s.numbering := by
  simp [State.numbering]

theorem State.reloadQuiet_numbering (s : State) : s.reloadQuiet.numbering = s.numbering := State.numbering_ite

/-- A change of records that leaves each its number. -/
theorem State.records_numbering (s : State) {t : PeerTable} (f : PeerRecord → PeerRecord)
    (ht : t.records = s.peers.records.map f) (hf : ∀ r, (f r).number = r.number) :
    (s.withPeers t).numbering = s.numbering := by
  have hn : PeerRecord.number ∘ f = PeerRecord.number := funext hf
  simp [State.numbering, ht, hn]

theorem State.modify_numbering (s : State) (n : Nat) {t : PeerTable} {f : PeerRecord → PeerRecord}
    (ht : t.records = (s.peers.modify n f).records) (hf : ∀ r, (f r).number = r.number) :
    (s.withPeers t).numbering = s.numbering :=
  s.records_numbering _ ht fun r => by split <;> simp [hf]

/-! ## The line and received frames -/

theorem State.raiseObjection_numbering (s : State) : s.raiseObjection.numbering = s.numbering := State.numbering_ite

theorem State.findDuplicate_numbering (s : State) : s.findDuplicate.numbering = s.numbering := by
  obtain ⟨_, _, h⟩ := State.findDuplicate_frame s
  rw [h]; rfl

theorem State.duplicateCheck_numbering (s : State) (n : Fin 16) : (s.duplicateCheck n).numbering = s.numbering :=
  State.numbering_ite s.findDuplicate_numbering

theorem State.attemptFailed_numbering (s : State) (f : InFlight) : (s.attemptFailed f).numbering = s.numbering := by
  obtain ⟨_, _, _, _, h⟩ := State.attemptFailed_frame s f
  rw [h]; rfl

theorem State.orderIfLeft_numbering (s : State) (q : Queue) : (s.orderIfLeft q).numbering = s.numbering :=
  State.numbering_ite

theorem State.takeLine_numbering (s : State) : s.takeLine.numbering = s.numbering := by
  rcases State.takeLine_cases s with h | ⟨_, _, _, _, _, _, h⟩ <;> rw [h]; rfl

theorem State.heard_numbering (s : State) (n : Fin 16) : (s.heard n).numbering = s.numbering :=
  State.numbering_ite s.reloadQuiet_numbering

theorem State.enterFlashOn_numbering (s : State) (x : SideSet) (k : OnEntry) :
    (s.enterFlashOn x k).numbering = s.numbering := by
  simp [State.numbering]

theorem State.alignTo_numbering (s : State) (c : FlashContent) : (s.alignTo c).1.numbering = s.numbering := by
  obtain ⟨_, _, h⟩ := State.alignTo_frame s c
  rw [h]; rfl

theorem State.flashHanded_numbering (s b : State) (c : FlashContent) : (s.flashHanded b c).numbering = s.numbering :=
  State.numbering_ite ((State.settle_numbering _ _ _).trans (s.alignTo_numbering c))

theorem State.takeStatus_numbering (s b : State) (n : Nat) (p : List Byte) :
    (s.takeStatus b n p).numbering = s.numbering := by
  refine State.numbering_ite ?_
  split
  · exact (State.settle_numbering _ _ _).trans (s.modify_numbering n rfl fun _ => rfl)
  · rfl

theorem PeerRecord.takeAnnounce_number (r : PeerRecord) (uid : BitVec 64) (checksum : Word16) (roles : Roles) :
    (r.takeAnnounce uid checksum roles).number = r.number := by
  unfold PeerRecord.takeAnnounce; dsimp only; split <;> rfl

theorem State.takeAnnounce_numbering (s b : State) (n : Nat) (p : List Byte) :
    (s.takeAnnounce b n p).numbering = s.numbering := by
  unfold State.takeAnnounce
  split
  · rfl
  · refine (State.settle_numbering _ _ _).trans (s.modify_numbering n (f := fun r => r.takeAnnounce (uidAt p 0)
      (BitVec.ofNat 16 (wordAt p 8)) (rolesOf (p.getD 10 0))) ?_ fun r => r.takeAnnounce_number _ _ _)
    split <;> rfl

theorem State.takeFlash_numbering (s b : State) (n : Nat) (byte : Byte) : (s.takeFlash b n byte).numbering = s.numbering := by
  rw [State.takeFlash_eq, State.settle_numbering]
  obtain ⟨_, _, h⟩ := State.flashTaken_frame s n byte
  rw [h]
  exact s.modify_numbering n (f := fun r => r.takeFlash (decodeFlash byte)) rfl fun _ => rfl

theorem PeerRecord.age_number (r : PeerRecord) : r.age.number = r.number := by
  unfold PeerRecord.age; split <;> rfl

theorem State.receive_numbering (s : State) (n : Fin 16) (format : Bool) {hand : State → State}
    (h : ∀ t : State, (hand t).numbering = t.numbering) : (s.receive n format hand).numbering = s.numbering := by
  rcases State.receive_cases s n format hand with ⟨-, e⟩ | ⟨-, -, e⟩ | ⟨-, -, e⟩ <;> rw [e]
  · exact State.raiseObjection_numbering _
  · exact (h _).trans (State.duplicateCheck_numbering _ n)

/-! ## SERVICE commands -/

theorem State.service_numbering (s : State) (n : Fin 16) (broadcast : Bool) (args : List Byte) {serve : State → State}
    (h : ∀ t : State, (serve t).numbering = t.numbering) :
    (s.service n broadcast args fun t => t.withSlot serve).numbering = s.numbering := by
  have hheard : ((s.setView .busy).heard n).numbering = s.numbering := State.heard_numbering _ n
  rcases State.service_cases s n broadcast args (fun t => t.withSlot serve) with
    ⟨-, e⟩ | ⟨-, -, e⟩ | ⟨-, -, -, e⟩ | ⟨-, -, -, e⟩ <;> rw [e]
  · exact State.raiseObjection_numbering _
  · exact hheard
  · refine Eq.trans ?_ hheard
    exact State.numbering_ite rfl (h _)

theorem State.serveIdentify_numbering (s : State) (args : List Byte) : (s.serveIdentify args).numbering = s.numbering :=
  State.numbering_ite (State.requestAnnounce_numbering _)

theorem State.serveRead_numbering (s : State) (args : List Byte) : (s.serveRead args).numbering = s.numbering := by
  unfold State.serveRead
  split
  · split <;> rfl
  · rfl

theorem State.serveFaultCall_numbering (s : State) (n : Fin 16) (args : List Byte) :
    (s.serveFaultCall n args).numbering = s.numbering := by
  refine State.numbering_ite ?_
  split
  · rfl
  · exact State.numbering_ite

theorem State.serveFaultAck_numbering (s : State) (args : List Byte) : (s.serveFaultAck args).numbering = s.numbering := by
  unfold State.serveFaultAck
  split
  · exact State.numbering_ite
  · rfl

theorem State.enterSetup_numbering (s : State) : s.enterSetup.numbering = s.numbering := by
  rw [State.enterSetup_eq, State.settle_numbering]; rfl

theorem State.serveSetupEnter_numbering (s : State) (args : List Byte) :
    (s.serveSetupEnter args).numbering = s.numbering :=
  State.numbering_ite rfl (State.numbering_ite rfl (State.numbering_ite (State.enterSetup_numbering _)))

theorem State.serveStoreWrite_numbering (s : State) (c base : Nat) (args : List Byte) :
    (s.serveStoreWrite c base args).numbering = s.numbering := by
  refine State.numbering_ite rfl (State.numbering_ite rfl ?_)
  split <;> rfl

theorem State.serveStoreCommit_numbering (s : State) (args : List Byte) :
    (s.serveStoreCommit args).numbering = s.numbering := by
  refine State.numbering_ite rfl (State.numbering_ite rfl (State.numbering_ite rfl ?_))
  split <;> rfl

theorem State.enterTest_numbering (s : State) (i : Fin 8) (d m : Nat) : (s.enterTest i d m).numbering = s.numbering :=
  State.numbering_ite rfl State.numbering_ite

theorem State.serveTestOutput_numbering (s b : State) (args : List Byte) :
    (s.serveTestOutput b args).numbering = s.numbering :=
  State.numbering_ite rfl (State.numbering_ite ((State.settle_numbering _ _ _).trans (State.enterTest_numbering _ _ _ _)))

theorem State.replyRestart_numbering (s : State) (c : Nat) : (s.replyRestart c).numbering = s.numbering :=
  State.numbering_ite

theorem State.serveSetupExit_numbering (s : State) (args : List Byte) :
    (s.serveSetupExit args).numbering = s.numbering :=
  State.numbering_ite rfl (State.numbering_ite rfl (State.replyRestart_numbering s _))

theorem State.serveRestart_numbering (s : State) (args : List Byte) : (s.serveRestart args).numbering = s.numbering :=
  State.numbering_ite rfl (State.replyRestart_numbering s _)

/-! ## Samples, channels and drain -/

theorem State.trip_numbering (s : State) (i : Fin 8) : (s.trip i).numbering = s.numbering :=
  State.numbering_ite State.numbering_ite State.numbering_ite

theorem State.bulbOut_numbering (s : State) (x : Side) : (s.bulbOut x).numbering = s.numbering := by
  cases x <;> exact State.numbering_ite

theorem State.checkBulb_numbering (s : State) (i : Fin 8) : (s.checkBulb i).numbering = s.numbering :=
  State.numbering_ite (State.numbering_ite (State.bulbOut_numbering _ _))

theorem State.currentCompleted_numbering (s : State) (i : Fin 8) : (s.currentCompleted i).numbering = s.numbering :=
  (State.checkBulb_numbering _ i).trans State.numbering_ite

theorem State.senderCompleted_numbering (s : State) (n : Fin 4) : (s.senderCompleted n).numbering = s.numbering :=
  State.numbering_ite ((State.reloadQuiet_numbering _).trans State.numbering_ite) State.numbering_ite

theorem State.judgeThermal_numbering (s : State) : s.judgeThermal.numbering = s.numbering :=
  State.numbering_ite State.numbering_ite State.numbering_ite

theorem State.drainStep_numbering (s : State) : s.drainStep.numbering = s.numbering := by
  unfold State.drainStep
  split
  · rfl
  · exact State.numbering_ite State.numbering_ite

theorem State.sampleInput_numbering (s : State) (input : SlotInput) (x : Int) (beyond : Bool) :
    (s.sampleInput input x beyond).numbering = s.numbering := by
  cases input with
  | supply => exact State.numbering_ite (State.settle_numbering _ _ _)
  | die => exact State.numbering_ite ((State.settle_numbering _ _ _).trans (State.judgeThermal_numbering _))
  | battery => exact State.numbering_ite (State.numbering_ite (State.settle_numbering _ _ _))
  | channel i =>
    have hdone : ∀ (t : State) (trips done : Bool), (if done then (if trips then t.trip i else t).currentCompleted i
        else if trips then t.trip i else t).numbering = t.numbering := fun t trips done =>
      have htrip : (if trips then t.trip i else t).numbering = t.numbering := State.numbering_ite (t.trip_numbering i)
      State.numbering_ite ((State.currentCompleted_numbering _ i).trans htrip) htrip
    exact State.numbering_ite ((State.settle_numbering _ _ _).trans (hdone _ _ _)) (hdone _ _ _)
  | sender n => exact State.numbering_ite ((State.settle_numbering _ _ _).trans (State.senderCompleted_numbering _ n))

/-! ## Sleep, resets and wakes -/

theorem State.enterAsleep_numbering (s : State) : s.enterAsleep.numbering = s.numbering := by
  rw [State.enterAsleep_eq, State.orderIfLeft_numbering]
  exact s.records_numbering (t := s.asleep.peers) (fun r => { r with ageing := none }) rfl fun _ => rfl

theorem State.enterStarting_numbering (s : State) (announce : Bool) :
    (s.enterStarting announce).numbering = s.numbering := by
  have hset : (s.atStart.settle s.atStart false).requestStatus.numbering = s.numbering :=
    (State.requestStatus_numbering _).trans (State.settle_numbering _ _ _)
  rw [State.enterStarting_eq]
  exact State.numbering_ite ((State.requestAnnounce_numbering _).trans hset) hset

theorem State.takeReset_peersOk (s : State) (p : StrapPins) (u : Supply) (c : ResumeCause) : (s.takeReset p u c).PeersOk := by
  have h : (s.atReset p u c).PeersOk := rfl
  rw [State.takeReset_eq]
  exact h.of_numbering (State.enterStarting_numbering _ _)

theorem State.wakeUp_peersOk (s : State) (c : ResumeCause) (i : Option Nat) : (s.wakeUp c i).PeersOk := by
  have h : (s.atWake c i).PeersOk := rfl
  rw [State.wakeUp_eq]
  exact h.of_numbering (State.enterStarting_numbering _ _)

end Sys2Proof.Machine
end

section
namespace Sys2Proof.Machine

/-! ## Every command -/

/-- What a command does to the Peer Table's numbers: it keeps them and the straps, or its state meets R25 whatever was
before. -/
def PeersFollow (s t : State) : Prop := t.numbering = s.numbering ∨ t.PeersOk

theorem PeersFollow.ite {s a : State} {p : Prop} [Decidable p] (h : PeersFollow s a) :
    PeersFollow s (if p then a else s) := by
  split
  · exact h
  · exact .inl rfl

theorem PeersFollow.aside {s t : State} (h : t.numbering = s.numbering := by rfl) : PeersFollow s t := .inl h

/-- Hand-ons over a change that keeps the numbers. -/
theorem PeersFollow.settle {s u b : State} {x : Bool} (h : u.numbering = s.numbering := by rfl) :
    PeersFollow s (u.settle b x) := .inl ((u.settle_numbering b x).trans h)

theorem PeersFollow.service {s : State} {n : Fin 16} {broadcast : Bool} {args : List Byte} {serve : State → State}
    (h : ∀ t : State, (serve t).numbering = t.numbering) :
    PeersFollow s (s.service n broadcast args fun t => t.withSlot serve) := .inl (s.service_numbering n broadcast args h)

theorem PeersFollow.attempt {s : State} {o : Option InFlight} {p : Prop} [Decidable p] {g : InFlight → State}
    (h : ∀ f, (g f).numbering = s.numbering) :
    PeersFollow s (match o with | some f => if p then g f else s | none => s) := by
  cases o with
  | none => exact .aside
  | some f => exact .ite (.inl (h f))

/-- Every command follows R25. -/
theorem exec_peersFollow (c : Instr) (s : State) : ∃ t, exec c s = .next t ∧ PeersFollow s t := by
  cases c with
  | lineBreak | truncatedFrame | statusSpacingEnd | lineIdle | passTimer | runTimerExpiry | spinUpGraceExpiry | gaugeUpdate
  | powerFail | inputWake | ignWake | wakePulseEnd | stationClockTick => exact ⟨_, rfl, .ite .aside⟩
  | holdTimerExpiry | ignDebounceExpiry | retryWaitExpiry | persistenceTimerExpiry | crankReleaseExpiry | holdTimerEnd
  | rampUpdate | stallWaitExpiry | fanRetryWaitExpiry | deferralEnd => exact ⟨_, rfl, .ite .settle⟩
  | inrushWindowExpiry | testDurationExpiry | stallTimerExpiry => exact ⟨_, rfl, .ite (.settle State.numbering_ite)⟩
  | joinWindowExpiry => exact ⟨_, rfl, .ite (.settle (State.numbering_ite (n := s.numbering)))⟩
  | openLoadTimerExpiry => exact ⟨_, rfl, .ite (.aside State.numbering_ite)⟩
  | fanRunTimerExpiry =>
    refine ⟨_, rfl, .ite (.aside ?_)⟩
    dsimp only
    split <;> rfl
  | switchRawChange | ignPinChange => exact ⟨_, rfl, .aside State.numbering_ite⟩
  | joinStartBit => exact ⟨_, rfl, .aside (State.numbering_ite rfl s.takeLine_numbering)⟩
  | frameOffer => exact ⟨_, rfl, .aside s.takeLine_numbering⟩
  | arbitrationLoss => exact ⟨_, rfl, .attempt fun _ => rfl⟩
  | collision =>
    have hf (f : InFlight) : ((s.withLine s.line.countCollision).attemptFailed f).numbering = s.numbering :=
      State.attemptFailed_numbering _ f
    exact ⟨_, rfl, .attempt fun f => State.numbering_ite ((State.findDuplicate_numbering _).trans (hf f)) (hf f)⟩
  | attemptObjected => exact ⟨_, rfl, .attempt fun f => State.attemptFailed_numbering _ f⟩
  | attemptSuccess =>
    have hs (f : InFlight) : ((s.withLine (s.line.succeed f)).orderIfLeft s.line.queue).numbering = s.numbering :=
      State.orderIfLeft_numbering _ _
    exact ⟨_, rfl, .attempt fun f => State.numbering_ite ((State.flashHanded_numbering _ _ _).trans (hs f)) (hs f)⟩
  | objectedFrame =>
    refine ⟨_, rfl, .ite (.aside ?_)⟩
    have hobj : ∀ b : Bool, (if b then (s.setView .busy).raiseObjection else s.setView .busy).numbering = s.numbering :=
      fun _ => State.numbering_ite (State.raiseObjection_numbering _)
    exact State.numbering_ite (hobj _) (hobj _)
  | statusFrame n p => exact ⟨_, rfl, .aside (s.receive_numbering n _ fun t => t.takeStatus_numbering s _ p)⟩
  | announceFrame n p => exact ⟨_, rfl, .aside (s.receive_numbering n _ fun t => t.takeAnnounce_numbering s _ p)⟩
  | flashFrame n p => exact ⟨_, rfl, .aside (s.receive_numbering n _ fun t => t.takeFlash_numbering s _ _)⟩
  | replyFrame n => exact ⟨_, rfl, .aside (s.receive_numbering n _ fun _ => rfl)⟩
  | stuckLine =>
    refine ⟨_, rfl, .ite (.aside ?_)⟩
    dsimp only
    split <;> rfl
  | isolationWaitExpiry | periodicStatusTimer => exact ⟨_, rfl, .ite (.aside (State.requestStatus_numbering _))⟩
  | ageingTimerExpiry n =>
    refine ⟨_, rfl, ?_⟩
    split
    · exact .ite (.settle (s.modify_numbering n rfl PeerRecord.age_number))
    · exact .aside
  | debounceExpiry =>
    refine ⟨_, rfl, .ite (.settle ?_)⟩
    exact State.numbering_ite (State.reloadQuiet_numbering _)
  | sample =>
    refine ⟨_, rfl, ?_⟩
    split
    · exact .ite (.aside (State.sampleInput_numbering _ _ _ _))
    · exact .aside
  | overTimerExpiry i => exact ⟨_, rfl, .ite (.settle (s.trip_numbering i))⟩
  | halfTimerExpiry =>
    refine ⟨_, rfl, .ite ?_⟩
    split
    · exact .settle
    · exact .settle (State.enterFlashOn_numbering s _ _)
    · exact .aside
    · exact .aside
  | drainTick => exact ⟨_, rfl, .ite (.settle s.drainStep_numbering)⟩
  | powerOnReset => exact ⟨_, rfl, .inr (State.takeReset_peersOk _ _ _ _)⟩
  | serviceRestart => exact ⟨_, rfl, .ite (.inr (State.takeReset_peersOk _ _ _ _))⟩
  | quietTimerExpiry => exact ⟨_, rfl, .ite (.aside (State.numbering_ite s.enterAsleep_numbering s.reloadQuiet_numbering))⟩
  | lineWake | wakeWaitExpiry => exact ⟨_, rfl, .ite (.inr (State.wakeUp_peersOk _ _ _))⟩
  | identify => exact ⟨_, rfl, .service fun t => t.serveIdentify_numbering _⟩
  | read => exact ⟨_, rfl, .service fun t => t.serveRead_numbering _⟩
  | faultCall => exact ⟨_, rfl, .service fun t => t.serveFaultCall_numbering _ _⟩
  | faultAck => exact ⟨_, rfl, .service fun t => t.serveFaultAck_numbering _⟩
  | faultClear => exact ⟨_, rfl, .service fun _ => State.numbering_ite⟩
  | setupEnter => exact ⟨_, rfl, .service fun t => t.serveSetupEnter_numbering _⟩
  | storeWriteLowHalf | storeWriteHighHalf => exact ⟨_, rfl, .service fun t => t.serveStoreWrite_numbering _ _ _⟩
  | storeCommit => exact ⟨_, rfl, .service fun t => t.serveStoreCommit_numbering _⟩
  | programmingEnd => exact ⟨_, rfl, .ite (.aside State.numbering_ite)⟩
  | testOutput => exact ⟨_, rfl, .service fun t => t.serveTestOutput_numbering s _⟩
  | setupExit => exact ⟨_, rfl, .service fun t => t.serveSetupExit_numbering _⟩
  | restart => exact ⟨_, rfl, .service fun t => t.serveRestart_numbering _⟩
  | unknownCommand => exact ⟨_, rfl, .aside (State.numbering_ite rfl (State.service_numbering _ _ _ _ fun _ => rfl))⟩

/-- Settles O5: every command keeps the numbers, or lays the table out by the latched straps. -/
theorem stepKeepsPeers : Obligations.StepKeepsPeers := by
  intro s t h hs
  rcases step_cases s with ⟨-, e⟩ | ⟨c, rest, -, e⟩
  · cases e.symm.trans hs
    exact h
  · obtain ⟨u, hu, hf⟩ := exec_peersFollow c (s.withPending rest)
    cases (e.trans hu).symm.trans hs
    exact hf.elim (fun k => h.of_numbering k) id

end Sys2Proof.Machine
end

section
/-! PROOFS. A STATUS, an ANNOUNCE and an ageing timer's expiry: one record changes, and the hand-ons follow (R31 to R34,
R37, R38). -/

namespace Sys2Proof.Machine

/-! ## One record changed and handed on -/

/-- A table whose records are another's with the one of number `n` changed. -/
theorem PeerTable.find_of_modified {t u : PeerTable} {n : Nat} {f : PeerRecord → PeerRecord} {r : PeerRecord}
    (hu : u.records = (t.modify n f).records) (hf : ∀ r, (f r).number = r.number) (hr : t.find n = some r) :
    u.find n = some (f r) ∧ ∀ m : Nat, m ≠ n → u.find m = t.find m := by
  have hfind : ∀ m, u.find m = (t.modify n f).find m := fun m => by unfold PeerTable.find; rw [hu]
  refine ⟨?_, fun m hm => ?_⟩
  · rw [hfind, PeerTable.find_modify_same _ _ hf, hr]; rfl
  · rw [hfind, PeerTable.find_modify_other _ hm hf]

/-- The hand-ons after a change of the Peer Table leave the table as the change left it. -/
theorem State.settle_withPeers {s b t : State} {u : PeerTable} (ht : t = (s.withPeers u).settle b false) :
    t.peers = u ∧ HandedOn { s with peers := t.peers } t := by
  have hpeers : t.peers = u := by rw [ht, State.settle_peers, State.withPeers_peers]
  refine ⟨hpeers, ?_⟩
  rw [hpeers, ht]
  exact State.settle_handedOn _ _ _

/-! ## Ageing (R33, R34) -/

theorem expectedInterval_eq (x : PeerStation) : some (expectedInterval x) = if x = .awake then some 100 else some 500 := by
  cases x <;> rfl

theorem PeerRecord.age_lost {r : PeerRecord} (h : 10 ≤ r.missed + 1) :
    r.age = { r with missed := 10, state := .lost, ageing := none } := if_pos h

theorem PeerRecord.age_running {r : PeerRecord} (h : r.missed + 1 < 10) : r.age = { r with
    missed := r.missed + 1
    state := if r.state = .present ∧ 3 ≤ r.missed + 1 then .stale else r.state
    ageing := if r.station = .awake then some 100 else some 500 } := by
  unfold PeerRecord.age
  rw [if_neg (by omega), expectedInterval_eq]
  simp only [and_comm]

theorem execAgeingTimerExpiry_next {s : State} {n : Fin 15} {r : PeerRecord} (hu : s.up = true)
    (hr : s.peers.find n.val = some r) (ha : r.ageing.isSome = true) : exec (.ageingTimerExpiry n) s =
      .next ((s.withPeers (s.peers.modify n.val PeerRecord.age)).settle s false) := by
  show execAgeingTimerExpiry n s = _
  unfold execAgeingTimerExpiry
  rw [hr]
  exact congrArg Host.Outcome.next (if_pos ⟨hu, ha⟩)

/-- Settles O29: the record ages by its missed count, and the hand-ons leave the table. -/
theorem recordAges : Obligations.RecordAges := by
  intro s n r hu hr ha
  refine ⟨_, execAgeingTimerExpiry_next hu hr ha, ?_⟩
  obtain ⟨hpeers, hon⟩ := State.settle_withPeers (s := s) (u := s.peers.modify n.val PeerRecord.age) (b := s) rfl
  obtain ⟨hrec, hother⟩ := PeerTable.find_of_modified (u := s.peers.modify n.val PeerRecord.age) rfl PeerRecord.age_number hr
  refine ⟨hon, fun h => ?_, fun h => ?_, fun m hm => ?_, ?_⟩
  · rw [hpeers, hrec, PeerRecord.age_lost h]
  · rw [hpeers, hrec, PeerRecord.age_running h]
  · rw [hpeers, hother m hm]
  · rw [hpeers]; exact ⟨rfl, rfl⟩

/-! ## ANNOUNCE (R37, R38) -/

/-- The Peer Table with an ANNOUNCE taken into the record `r` of number `n`. -/
def PeerTable.announced (t : PeerTable) (n : Nat) (r : PeerRecord) (p : List Byte) : PeerTable :=
  let u := t.modify n fun x => x.takeAnnounce (uidAt p 0) (BitVec.ofNat 16 (wordAt p 8)) (rolesOf (p.getD 10 0))
  if r.replacedBy (uidAt p 0) then { u with changed := satInc 65535 u.changed } else u

theorem execAnnounceFrame_next {s : State} {n : Fin 16} {p : List Byte} {r : PeerRecord} (h : s.Hears n)
    (hp : p.length = 11) (hr : s.peers.find n.val = some r) : exec (.announceFrame n p) s =
      .next (((s.setView .busy).withPeers (s.peers.announced n.val r p)).settle s false) := by
  refine congrArg Host.Outcome.next ((State.receive_other h (by simp [h.numberOk, hp])).trans ?_)
  unfold State.takeAnnounce
  rw [State.setView_peers, hr]
  rfl

theorem PeerRecord.replacedBy_iff (r : PeerRecord) (uid : BitVec 64) :
    r.replacedBy uid = true ↔ ¬(r.state = .absent ∨ r.uid = none ∨ r.uid = some uid) := by
  simp only [PeerRecord.replacedBy, Bool.and_eq_true, decide_eq_true_eq, Option.isSome_iff_ne_none]
  tauto

theorem PeerTable.announced_cases (t : PeerTable) (n : Nat) (r : PeerRecord) (p : List Byte) :
    (t.announced n r p).records = (t.modify n fun x =>
        x.takeAnnounce (uidAt p 0) (BitVec.ofNat 16 (wordAt p 8)) (rolesOf (p.getD 10 0))).records ∧
      (t.announced n r p).inconsistent = t.inconsistent ∧
      (t.announced n r p).changed = if r.replacedBy (uidAt p 0) then satInc 65535 t.changed else t.changed := by
  unfold PeerTable.announced
  dsimp only
  split <;> exact ⟨rfl, rfl, rfl⟩

/-- Settles O26: the record takes the identity, and a replaced peer is counted and loses its optional fields. -/
theorem announceTakenIn : Obligations.AnnounceTakenIn := by
  intro s n p r r' hh hp hr hr'
  refine ⟨_, execAnnounceFrame_next hh hp hr, ?_⟩
  obtain ⟨hpeers, hon⟩ :=
    State.settle_withPeers (s := s.setView .busy) (u := s.peers.announced n.val r p) (b := s) rfl
  obtain ⟨hrecords, hi, hc⟩ := s.peers.announced_cases n.val r p
  obtain ⟨hrec, hother⟩ := PeerTable.find_of_modified hrecords (fun x => x.takeAnnounce_number _ _ _) hr
  have huid : r'.uid = some (uidAt p 0) := by rw [hr']; rfl
  refine ⟨hon, fun m hm => ?_, ?_, fun hk => ?_, fun hk => ?_⟩
  · rw [hpeers, hother m hm]
  · rw [hpeers, hi]
  · rw [huid] at hk
    have hrep := mt (r.replacedBy_iff (uidAt p 0)).mp (not_not.mpr hk)
    rw [hpeers, hrec, hc, if_neg hrep, hr']
    exact ⟨congrArg some (if_neg hrep), rfl⟩
  · rw [huid] at hk
    have hrep := (r.replacedBy_iff (uidAt p 0)).mpr hk
    rw [hpeers, hrec, hc, if_pos hrep, hr']
    exact ⟨congrArg some (if_pos hrep), rfl⟩

/-! ## STATUS (R31, R32) -/

theorem flagBit_eq_toNat (b : Bool) : flagBit b = b.toNat := by cases b <;> rfl

theorem clampInt_eq_max_min {lo hi : Int} (h : lo ≤ hi) (x : Int) : clampInt lo hi x = max lo (min hi x) := by
  unfold clampInt
  split
  · omega
  · split <;> omega

theorem stationOf_eq_some_iff (n : Nat) (x : PeerStation) :
    stationOf n = some x ↔ (n = 0 ∧ x = .awake) ∨ (n = 1 ∧ x = .standby) ∨ (n = 2 ∧ x = .setup) := by
  rcases n with _ | _ | _ | n <;> simp [stationOf, eq_comm]

theorem stationOf_eq_none_iff (n : Nat) : stationOf n = none ↔ 3 ≤ n := by
  rcases n with _ | _ | _ | n <;> simp [stationOf]

/-- A STATUS whose presence flags agree with its length (R31, R32). -/
theorem decodeStatus_of_agrees {p : List Byte} {station : PeerStation} {battery posA posB : Bool}
    (hb : battery = (p.getD 6 0).getLsbD 2) (hA : posA = (p.getD 6 0).getLsbD 1) (hB : posB = (p.getD 6 0).getLsbD 0)
    (hl : p.length = 8 + 2 * battery.toNat + 2 * posA.toNat + 2 * posB.toNat)
    (hs : stationOf (byteAt p 6 / 16 % 4) = some station) : decodeStatus p = some {
      requests := BitVec.ofNat 16 (wordAt p 0)
      fanStep := byteAt p 2 / 64
      dimmer := byteAt p 2 % 64
      demand := min (wordAt p 3) 4095
      supply := min (byteAt p 5) 200
      shed := byteAt p 6 / 64
      station := station
      ign := (p.getD 6 0).getLsbD 3
      faults := ⟨(p.getD 7 0).getLsbD 7, (p.getD 7 0).getLsbD 6, (p.getD 7 0).getLsbD 5, (p.getD 7 0).getLsbD 4,
        (p.getD 7 0).getLsbD 3, (p.getD 7 0).getLsbD 2⟩
      bulbLeft := (p.getD 7 0).getLsbD 1
      bulbRight := (p.getD 7 0).getLsbD 0
      battery := if battery then some (max (-600) (min 600 (signed16 (wordAt p 8)))) else none
      posA := if posA then some (positionAt p (8 + 2 * battery.toNat)) else none
      posB := if posB then some (positionAt p (8 + 2 * battery.toNat + 2 * posA.toNat)) else none } := by
  unfold decodeStatus
  dsimp only
  rw [← hb, ← hA, ← hB, hs, flagBit_eq_toNat, flagBit_eq_toNat, flagBit_eq_toNat, if_pos (by omega),
    clampInt_eq_max_min (by decide), Nat.mul_add, Nat.add_assoc]

theorem decodeStatus_eq_none {p : List Byte} (h : p.length ≠ 8 + 2 * ((p.getD 6 0).getLsbD 2).toNat
      + 2 * ((p.getD 6 0).getLsbD 1).toNat + 2 * ((p.getD 6 0).getLsbD 0).toNat ∨ byteAt p 6 / 16 % 4 = 3) :
    decodeStatus p = none := by
  unfold decodeStatus
  dsimp only
  split
  · rename_i hl
    simp only [flagBit_eq_toNat] at hl
    rw [(stationOf_eq_none_iff _).mpr (by omega)]
  · rfl

theorem execStatusFrame_next {s : State} {n : Fin 16} {p : List Byte} (h : s.Hears n)
    (hp : statusLengthOk p.length = true) : exec (.statusFrame n p) s = .next ((s.setView .busy).takeStatus s n.val p) :=
  congrArg Host.Outcome.next (State.receive_other h (by simp [h.numberOk, hp]))

theorem execStatusFrame_decoded {s : State} {n : Fin 16} {p : List Byte} {r : PeerRecord} {c : StatusContent}
    (h : s.Hears n) (hp : statusLengthOk p.length = true) (hr : s.peers.find n.val = some r) (hc : decodeStatus p = some c) :
    exec (.statusFrame n p) s =
      .next (((s.setView .busy).withPeers (s.peers.modify n.val fun r => r.takeStatus c)).settle s false) := by
  rw [execStatusFrame_next h hp, State.takeStatus, State.setView_peers, hr, hc]; rfl

theorem execStatusFrame_inconsistent {s : State} {n : Fin 16} {p : List Byte} {r : PeerRecord} (h : s.Hears n)
    (hp : statusLengthOk p.length = true) (hr : s.peers.find n.val = some r) (hc : decodeStatus p = none) :
    exec (.statusFrame n p) s = .next ((s.setView .busy).withPeers
      { s.peers with inconsistent := satInc 65535 s.peers.inconsistent }) := by
  rw [execStatusFrame_next h hp, State.takeStatus, State.setView_peers, hr, hc]; rfl

/-- Settles O25: a consistent STATUS decodes to the fields it gives the record, an inconsistent one to none. -/
theorem statusTakenIn : Obligations.StatusTakenIn := by
  refine ⟨fun s n p r station battery posA posB hh hr hb hA hB hl hs => ?_, fun s n p r hh hr hl hbad => ?_⟩
  · have hlen : statusLengthOk p.length = true := by
      cases battery <;> cases posA <;> cases posB <;> simp [statusLengthOk, hl]
    have hdec := decodeStatus_of_agrees hb hA hB hl ((stationOf_eq_some_iff _ _).mpr hs)
    generalize hc : StatusContent.mk .. = c at hdec
    refine ⟨_, execStatusFrame_decoded hh hlen hr hdec, ?_⟩
    obtain ⟨hpeers, hon⟩ := State.settle_withPeers (s := s.setView .busy)
      (u := s.peers.modify n.val fun r => r.takeStatus c) (b := s) rfl
    obtain ⟨hrec, hother⟩ := PeerTable.find_of_modified (u := s.peers.modify n.val fun r => r.takeStatus c) rfl
      (fun _ => rfl) hr
    refine ⟨hon, ?_, fun m hm => ?_, ?_⟩
    · rw [hpeers, hrec, ← hc, PeerRecord.takeStatus, expectedInterval_eq]
      rfl
    · rw [hpeers, hother m hm]
    · rw [hpeers]; exact ⟨rfl, rfl⟩
  · have hlen : statusLengthOk p.length = true := by simpa [statusLengthOk, or_assoc] using hl
    exact execStatusFrame_inconsistent hh hlen hr (decodeStatus_eq_none hbad)

end Sys2Proof.Machine
end

section
/-! PROOFS. The STATUS payload: its fixed bytes and its optional fields, taken apart again (R28 to R30, Formats), and the
content a station composes. -/

namespace Sys2Proof.Machine

/-! ## Packed fields and two-byte fields -/

theorem pack_cons_mod (v w : Nat) (t : List (Nat × Nat)) : pack ((v, w) :: t) % 2 ^ w = v % 2 ^ w := by
  rw [pack, Nat.add_mul_mod_self_left, Nat.mod_mod]

theorem testBit_pack_flag_zero (b : Bool) (t : List (Nat × Nat)) : (pack ((flagBit b, 1) :: t)).testBit 0 = b := by
  rw [Nat.testBit_zero, ← Nat.pow_one 2, pack_cons_mod]
  cases b <;> rfl

theorem testBit_pack_flag_succ (b : Bool) (t : List (Nat × Nat)) (i : Nat) :
    (pack ((flagBit b, 1) :: t)).testBit (i + 1) = (pack t).testBit i := by
  have hdiv : pack ((flagBit b, 1) :: t) / 2 = pack t := by rw [pack]; omega
  rw [Nat.testBit_succ, hdiv]

theorem putByte_getLsbD (n : Nat) {i : Nat} (h : i < 8) : (putByte n).getLsbD i = n.testBit i := by
  rw [putByte, BitVec.getLsbD_ofNat]
  simp [h]

/-- A two-byte field behind `l`. -/
theorem wordAt_putWord (l r : List Byte) (n : Nat) : wordAt (l ++ (putWord n ++ r)) l.length = n % 65536 := by
  have h0 : byteAt (l ++ (putWord n ++ r)) l.length = n / 256 % 256 := by simp [byteAt, putWord, putByte]
  have h1 : byteAt (l ++ (putWord n ++ r)) (l.length + 1) = n % 256 := by
    simp [byteAt, putWord, putByte]
  rw [wordAt, h0, h1]
  omega

theorem signed16_putSigned {x : Int} (h : -600 ≤ x ∧ x ≤ 600) : signed16 ((x % 65536).toNat % 65536) = x := by
  unfold signed16
  split <;> omega

/-! ## The payload (R28, R30) -/

/-- The eight bytes every STATUS has. -/
def StatusContent.fixed (c : StatusContent) : List Byte :=
  putWord c.requests.toNat
    ++ [putByte (pack [(c.dimmer, 6), (c.fanStep, 2)])]
    ++ putWord c.demand
    ++ [putByte c.supply,
        putByte (stateByte c.shed c.station c.ign c.battery.isSome c.posA.isSome c.posB.isSome),
        putByte (summaryByte c.faults c.bulbLeft c.bulbRight)]

/-- An optional two-byte field: nothing while absent. -/
def optWord {α : Type} (f : α → List Byte) (x : Option α) : List Byte := (x.map f).getD []

theorem optWord_length {α : Type} {f : α → List Byte} (hf : ∀ a, (f a).length = 2) (x : Option α) :
    (optWord f x).length = 2 * x.isSome.toNat := by
  cases x with
  | none => rfl
  | some a => exact hf a

theorem StatusContent.payload_eq (c : StatusContent) : c.payload =
    c.fixed ++ (optWord putSigned c.battery ++ (optWord putPosition c.posA ++ optWord putPosition c.posB)) := by
  simp only [StatusContent.payload, StatusContent.fixed, optWord, List.append_assoc]

theorem StatusContent.payload_length (c : StatusContent) :
    c.payload.length = 8 + 2 * c.battery.isSome.toNat + 2 * c.posA.isSome.toNat + 2 * c.posB.isSome.toNat := by
  rw [c.payload_eq, List.length_append, List.length_append, List.length_append, optWord_length fun _ => rfl,
    optWord_length fun _ => rfl, optWord_length fun _ => rfl, ← Nat.add_assoc, ← Nat.add_assoc]
  rfl

theorem StatusContent.payload_state (c : StatusContent) : c.payload.getD 6 0 =
    putByte (stateByte c.shed c.station c.ign c.battery.isSome c.posA.isSome c.posB.isSome) := rfl

theorem StatusContent.payload_summary (c : StatusContent) :
    c.payload.getD 7 0 = putByte (summaryByte c.faults c.bulbLeft c.bulbRight) := rfl

theorem putBytes_word (n : Nat) : (putByte (n / 256)).toNat * 256 + (putByte n).toNat = n % 65536 := by
  rw [putByte_toNat, putByte_toNat]
  omega

theorem StatusContent.payload_requests (c : StatusContent) : wordAt c.payload 0 = c.requests.toNat % 65536 :=
  putBytes_word _

theorem StatusContent.payload_demand (c : StatusContent) : wordAt c.payload 3 = c.demand % 65536 :=
  putBytes_word _

theorem StatusContent.payload_supply (c : StatusContent) : byteAt c.payload 5 = c.supply % 256 :=
  putByte_toNat _

theorem stateByte_flags (shed : Nat) (station : PeerStation) (ign battery posA posB : Bool) :
    let b := putByte (stateByte shed station ign battery posA posB)
    b.getLsbD 0 = posB ∧ b.getLsbD 1 = posA ∧ b.getLsbD 2 = battery ∧ b.getLsbD 3 = ign := by
  simp (disch := decide) only [putByte_getLsbD, stateByte, testBit_pack_flag_zero, testBit_pack_flag_succ, and_self]

theorem stateByte_fields {shed : Nat} (h : shed ≤ 3) (station : PeerStation) (ign battery posA posB : Bool) :
    let n := (putByte (stateByte shed station ign battery posA posB)).toNat
    n / 16 % 4 = station.code ∧ n / 64 = shed := by
  have hcode : station.code < 4 := by cases station <;> decide
  simp only [putByte, BitVec.toNat_ofNat, stateByte, pack]
  omega

theorem summaryByte_flags (f : FaultGroups) (bulbLeft bulbRight : Bool) :
    let b := putByte (summaryByte f bulbLeft bulbRight)
    (⟨b.getLsbD 7, b.getLsbD 6, b.getLsbD 5, b.getLsbD 4, b.getLsbD 3, b.getLsbD 2⟩ : FaultGroups) = f ∧
      b.getLsbD 1 = bulbLeft ∧ b.getLsbD 0 = bulbRight := by
  simp (disch := decide) only [putByte_getLsbD, summaryByte, testBit_pack_flag_zero, testBit_pack_flag_succ, and_self]

theorem stationOf_code (x : PeerStation) : stationOf x.code = some x := by cases x <;> rfl

/-- The byte of fan step and dimmer value. -/
theorem lampByte_fields {fanStep dimmer : Nat} (hf : fanStep ≤ 3) (hd : dimmer ≤ 63) :
    let n := (putByte (pack [(dimmer, 6), (fanStep, 2)])).toNat
    n / 64 = fanStep ∧ n % 64 = dimmer := by
  simp only [putByte, BitVec.toNat_ofNat, pack]
  omega

theorem positionAt_putPosition {p : Nat × Nat} (h : p.1 ≤ 3 ∧ p.2 ≤ 1000) (l r : List Byte) :
    positionAt (l ++ (putPosition p ++ r)) l.length = p := by
  obtain ⟨i, x⟩ := p
  obtain ⟨hi, hx⟩ := h
  rw [positionAt, putPosition, wordAt_putWord]
  dsimp only at hi hx ⊢
  rw [Prod.mk.injEq]
  omega

theorem StatusContent.payload_battery (c : StatusContent) (h : ∀ i, c.battery = some i → -600 ≤ i ∧ i ≤ 600) :
    (if c.battery.isSome then some (max (-600) (min 600 (signed16 (wordAt c.payload 8)))) else none) = c.battery := by
  cases hb : c.battery with
  | none => rfl
  | some i =>
    have hw : wordAt c.payload 8 = (i % 65536).toNat % 65536 := by
      rw [c.payload_eq, hb]
      exact wordAt_putWord c.fixed _ _
    have hi := h i hb
    rw [hw, signed16_putSigned hi, Option.isSome_some, if_pos rfl]
    congr 1
    omega

theorem StatusContent.payload_posA (c : StatusContent) (h : ∀ p, c.posA = some p → p.1 ≤ 3 ∧ p.2 ≤ 1000) :
    (if c.posA.isSome then some (positionAt c.payload (8 + 2 * c.battery.isSome.toNat)) else none) = c.posA := by
  cases hA : c.posA with
  | none => rfl
  | some p =>
    have hl : (c.fixed ++ optWord putSigned c.battery).length = 8 + 2 * c.battery.isSome.toNat := by
      rw [List.length_append, optWord_length fun _ => rfl]; rfl
    rw [c.payload_eq, hA, ← List.append_assoc, ← hl]
    exact congrArg some (positionAt_putPosition (h p hA) _ _)

theorem StatusContent.payload_posB (c : StatusContent) (h : ∀ p, c.posB = some p → p.1 ≤ 3 ∧ p.2 ≤ 1000) :
    (if c.posB.isSome then some (positionAt c.payload (8 + 2 * c.battery.isSome.toNat + 2 * c.posA.isSome.toNat)) else none) =
      c.posB := by
  cases hB : c.posB with
  | none => rfl
  | some p =>
    have hl : (c.fixed ++ optWord putSigned c.battery ++ optWord putPosition c.posA).length =
        8 + 2 * c.battery.isSome.toNat + 2 * c.posA.isSome.toNat := by
      rw [List.length_append, List.length_append, optWord_length fun _ => rfl, optWord_length fun _ => rfl]; rfl
    have hpos := positionAt_putPosition (h p hB) (c.fixed ++ optWord putSigned c.battery ++ optWord putPosition c.posA) []
    rw [List.append_nil, List.append_assoc, List.append_assoc, hl] at hpos
    rw [c.payload_eq, hB]
    exact congrArg some hpos

/-- A content within R28's and R30's ranges comes back from its payload: no clamp of R31 changes it. -/
theorem decodeStatus_payload {c : StatusContent} (hf : c.fanStep ≤ 3) (hd : c.dimmer ≤ 63) (hm : c.demand ≤ 4095)
    (hu : c.supply ≤ 200) (hs : c.shed ≤ 3) (hb : ∀ i, c.battery = some i → -600 ≤ i ∧ i ≤ 600)
    (hA : ∀ p, c.posA = some p → p.1 ≤ 3 ∧ p.2 ≤ 1000) (hB : ∀ p, c.posB = some p → p.1 ≤ 3 ∧ p.2 ≤ 1000) :
    decodeStatus c.payload = some c := by
  obtain ⟨f0, f1, f2, f3⟩ := stateByte_flags c.shed c.station c.ign c.battery.isSome c.posA.isSome c.posB.isSome
  obtain ⟨hcode, hshed⟩ := stateByte_fields hs c.station c.ign c.battery.isSome c.posA.isSome c.posB.isSome
  obtain ⟨hfaults, hleft, hright⟩ := summaryByte_flags c.faults c.bulbLeft c.bulbRight
  obtain ⟨hfan, hdim⟩ := lampByte_fields hf hd
  rw [← c.payload_state] at f0 f1 f2 f3 hcode hshed
  rw [← c.payload_summary] at hfaults hleft hright
  have hreq : BitVec.ofNat 16 (wordAt c.payload 0) = c.requests := by
    rw [c.payload_requests, Nat.mod_eq_of_lt c.requests.isLt]
    exact BitVec.ofNat_toNat _ _
  have hdem : min (wordAt c.payload 3) 4095 = c.demand := by
    rw [c.payload_demand]
    omega
  have hsup : min (byteAt c.payload 5) 200 = c.supply := by
    rw [c.payload_supply]
    omega
  rw [decodeStatus_of_agrees f2.symm f1.symm f0.symm c.payload_length
    ((congrArg stationOf hcode).trans (stationOf_code c.station)), hreq, hdem, hsup, hfaults, hleft, hright, f3,
    c.payload_battery hb, c.payload_posA hA, c.payload_posB hB]
  have hshed : byteAt c.payload 6 / 64 = c.shed := hshed
  have hfan : byteAt c.payload 2 / 64 = c.fanStep := hfan
  have hdim : byteAt c.payload 2 % 64 = c.dimmer := hdim
  rw [hshed, hfan, hdim]

/-! ## The content composed (R28 to R30) -/

theorem FaultList.open?_iff (l : FaultList) (k : FaultKind) :
    l.open? k = true ↔ ∃ e ∈ l.entries, e.acked = false ∧ e.kind = k := by
  simp [FaultList.open?, and_comm]

theorem FaultList.open?_or_iff (l : FaultList) (j k : FaultKind) :
    (l.open? j || l.open? k) = true ↔ ∃ e ∈ l.entries, e.acked = false ∧ (e.kind = j ∨ e.kind = k) := by
  simp only [Bool.or_eq_true, FaultList.open?_iff, ← exists_or, ← and_or_left]

theorem allSenders_find?_iff (p : Fin 4 → Bool) (n : Fin 4) :
    allSenders.find? p = some n ↔ p n = true ∧ ∀ k : Fin 4, k < n → p k = false := by
  have hget : ∀ (i : Nat) (h : i < allSenders.length), (allSenders[i]).val = i := by
    rw [show allSenders = List.finRange 4 from rfl]
    simp
  have hlen : ∀ k : Fin 4, k.val < allSenders.length := Fin.isLt
  simp only [List.find?_eq_some_iff_getElem, Bool.not_eq_true']
  refine and_congr_right fun _ => ⟨?_, fun h => ⟨n.val, hlen n, Fin.ext (hget _ _), fun j hj => h _ ?_⟩⟩
  · rintro ⟨i, hi, rfl, h⟩ k hk
    rw [← Fin.ext (hget k.val (hlen k))]
    exact h k.val (lt_of_lt_of_eq hk (hget i hi))
  · rw [Fin.lt_def, hget]
    exact hj

theorem State.published_iff (s : State) (slot : Nat) (p : Nat × Nat) : s.published slot = some p ↔
    ∃ n : Fin 4, s.cfg.senders[n].publish = slot ∧ (∀ k : Fin 4, k < n → s.cfg.senders[k].publish ≠ slot) ∧
      s.cfg.senders[n].mode = .resistive ∧ s.meas.senders[n].base.valid = true ∧
      p = (n.val, (linearize s.cfg.senders[n].points s.meas.senders[n].base.avg).toNat) := by
  unfold State.published State.senderPosition
  simp only [Option.bind_eq_some_iff, allSenders_find?_iff, Option.map_eq_some_iff, Option.ite_none_right_eq_some,
    decide_eq_true_eq, decide_eq_false_iff_not, Option.some.injEq]
  refine exists_congr fun n => ?_
  constructor
  · rintro ⟨⟨hs, hlow⟩, x, ⟨⟨hm, hv⟩, rfl⟩, rfl⟩
    exact ⟨hs, hlow, hm, hv, rfl⟩
  · rintro ⟨hs, hlow, hm, hv, rfl⟩
    exact ⟨⟨hs, hlow⟩, _, ⟨⟨hm, hv⟩, rfl⟩, rfl⟩

/-- Settles O16: the payload taken apart field by field, and the content composed by its definition. -/
theorem statusRoundTrip : Obligations.StatusRoundTrip := by
  refine ⟨fun c hf hd hm hu hs hb hA hB => decodeStatus_payload hf hd hm hu hs hb hA hB, ?_⟩
  rintro s c rfl
  refine ⟨?_, ?_, ?_, rfl, rfl, fun hv ha => ?_, fun hv => ?_, ?_, ?_, decide_eq_true_iff, s.faults.open?_or_iff _ _,
    s.faults.open?_or_iff _ _, s.faults.open?_iff _, s.faults.open?_iff _, s.faults.open?_or_iff _ _,
    s.faults.open?_or_iff _ _, rfl, rfl, fun i => ?_, ?_⟩
  · simp only [State.statusContent, decide_eq_true_eq]
  · simp only [State.statusContent, decide_eq_true_eq]
  · simp only [State.statusContent, decide_eq_true_eq]
  · show ((if s.meas.supply.valid then (roundDiv s.meas.supply.avg 10).toNat else 0 : Nat) : Int) = _
    rw [if_pos hv, roundDiv]
    omega
  · exact if_neg (by rw [hv]; decide)
  · show s.ctl.state.carried = _ ↔ _
    cases s.ctl.state <;> decide
  · show s.ctl.state.carried = _ ↔ _
    cases s.ctl.state <;> decide
  · show (if _ then _ else _) = some i ↔ _
    rw [Option.ite_none_right_eq_some, Bool.and_eq_true, and_assoc, Option.some.injEq, eq_comm (a := i)]
  · rintro slot position (⟨rfl, rfl⟩ | ⟨rfl, rfl⟩) p
    · exact s.published_iff 1 p
    · exact s.published_iff 2 p

end Sys2Proof.Machine
end

section
/-! PROOFS. The local requests, the resolver's values, the Effective Function Set and the flash cycle as the blocks compute
them are those R45 to R62, R106 and R110 speak of; and the hand-ons compute them. -/

namespace Sys2Proof.Machine

set_option Elab.async false

/-! ## Sets, highest and lowest values over a list -/

/-- A set gathered from the entries that count holds what one of them, or the set it began with, holds. -/
theorem foldl_or_getLsbD {α : Type} (l : List α) (p : α → Prop) [DecidablePred p] (f : α → RequestSet) (u : RequestSet)
    (n : Nat) : (l.foldl (fun u x => if p x then u ||| f x else u) u).getLsbD n = true ↔
      u.getLsbD n = true ∨ ∃ x ∈ l, p x ∧ (f x).getLsbD n = true := by
  induction l generalizing u with
  | nil => simp
  | cons x l ih =>
    rw [List.foldl_cons, ih]
    by_cases hx : p x
    · simp [hx, or_assoc]
    · simp [hx]

/-- The highest value of the entries that count, and of the one begun with. -/
theorem foldl_max_spec {α : Type} (l : List α) (p : α → Prop) [DecidablePred p] (f : α → Nat) (own : Nat) {m : Nat}
    (hm : m = l.foldl (fun m x => if p x then max m (f x) else m) own) :
    own ≤ m ∧ (∀ x ∈ l, p x → f x ≤ m) ∧ (m = own ∨ ∃ x ∈ l, p x ∧ m = f x) := by
  induction l generalizing own with
  | nil => exact ⟨hm.ge, nofun, .inl hm⟩
  | cons x l ih =>
    rw [List.foldl_cons] at hm
    obtain ⟨hle, hall, hatt⟩ := ih _ hm
    by_cases hx : p x
    · rw [if_pos hx] at hle hatt
      refine ⟨(le_max_left _ _).trans hle, List.forall_mem_cons.mpr ⟨fun _ => (le_max_right _ _).trans hle, hall⟩, ?_⟩
      rcases hatt with h | ⟨y, hy, h⟩
      · rcases max_choice own (f x) with k | k
        · exact .inl (h.trans k)
        · exact .inr ⟨x, List.mem_cons_self, hx, h.trans k⟩
      · exact .inr ⟨y, List.mem_cons_of_mem _ hy, h⟩
    · rw [if_neg hx] at hle hatt
      exact ⟨hle, List.forall_mem_cons.mpr ⟨fun k => absurd k hx, hall⟩,
        hatt.imp_right fun ⟨y, hy, h⟩ => ⟨y, List.mem_cons_of_mem _ hy, h⟩⟩

/-- The lowest value of the entries that count, and of the one begun with. -/
theorem foldl_min_spec {α : Type} (l : List α) (p : α → Prop) [DecidablePred p] (f : α → Nat) (own : Nat) {m : Nat}
    (hm : m = l.foldl (fun m x => if p x then min m (f x) else m) own) :
    m ≤ own ∧ (∀ x ∈ l, p x → m ≤ f x) ∧ (m = own ∨ ∃ x ∈ l, p x ∧ m = f x) := by
  induction l generalizing own with
  | nil => exact ⟨hm.le, nofun, .inl hm⟩
  | cons x l ih =>
    rw [List.foldl_cons] at hm
    obtain ⟨hle, hall, hatt⟩ := ih _ hm
    by_cases hx : p x
    · rw [if_pos hx] at hle hatt
      refine ⟨hle.trans (min_le_left _ _), List.forall_mem_cons.mpr ⟨fun _ => hle.trans (min_le_right _ _), hall⟩, ?_⟩
      rcases hatt with h | ⟨y, hy, h⟩
      · rcases min_choice own (f x) with k | k
        · exact .inl (h.trans k)
        · exact .inr ⟨x, List.mem_cons_self, hx, h.trans k⟩
      · exact .inr ⟨y, List.mem_cons_of_mem _ hy, h⟩
    · rw [if_neg hx] at hle hatt
      exact ⟨hle, List.forall_mem_cons.mpr ⟨fun k => absurd k hx, hall⟩,
        hatt.imp_right fun ⟨y, hy, h⟩ => ⟨y, List.mem_cons_of_mem _ hy, h⟩⟩

/-! ## The local requests (R45 to R48, R51 to R53) -/

theorem oneFn_getLsbD (k : Nat) {n : Nat} (hn : n < 16) : (oneFn k).getLsbD n = true ↔ k = n := by
  unfold oneFn
  split
  · rw [BitVec.getLsbD_ofNat, Nat.testBit_two_pow]; simp [hn]
  · simp; omega

theorem switchRequests_iff (e : SwitchEntry) (x : SwitchState) : switchRequests e x = true ↔ e.enabled = true ∧
    ((e.mode = 0 ∧ x.accepted = .closed) ∨ (e.mode = 1 ∧ x.toggle = true) ∨
      (e.mode = 2 ∧ (x.accepted = .closed ∨ x.hold.isSome = true))) := by
  unfold switchRequests
  rw [Bool.and_eq_true]
  refine and_congr_right fun _ => ?_
  split <;> simp_all

theorem senderRequests_iff (e : SenderEntry) (x : SenderSwitch) :
    senderRequests e x = true ↔ e.mode = .switch ∧ x.contact = .closed := by
  simp [senderRequests]

theorem mem_allChannels (i : Fin 8) : i ∈ allChannels := by revert i; decide

theorem mem_allSenders (i : Fin 4) : i ∈ allSenders := by revert i; decide

theorem State.localRequests_getLsbD (s : State) {n : Nat} (hn : n < 16) : s.localRequests.getLsbD n = true ↔
    (∃ i : Fin 8, switchRequests s.cfg.switches[i] s.sw.inputs[i] = true ∧ s.cfg.switches[i].target = n) ∨
      ∃ i : Fin 4, senderRequests s.cfg.senders[i] s.sw.senders[i] = true ∧ s.cfg.senders[i].target = n := by
  unfold State.localRequests
  rw [foldl_or_getLsbD, foldl_or_getLsbD]
  simp [oneFn_getLsbD _ hn, mem_allChannels, mem_allSenders]

/-- Local requests as they are recomputed are those of the inputs and senders. -/
theorem State.inputsOk_of_recomputed {s : State} (hr : s.sw.requests = s.localRequests)
    (hf : s.sw.fanStep = s.localFanStep) (hd : s.sw.dimmer = s.localDimmer) : s.InputsOk where
  requests _ n hn := by
    rw [hr, s.localRequests_getLsbD hn]
    simp only [switchRequests_iff, senderRequests_iff]
    exact or_congr (exists_congr fun i => by tauto) (exists_congr fun i => by tauto)
  fanStep _ := by
    obtain ⟨-, hall, hatt⟩ := foldl_max_spec _ _ _ _ hf
    refine ⟨fun i hm ht => hall i (mem_allSenders i) ⟨hm, ht⟩, ?_⟩
    rcases hatt with h | ⟨i, -, ⟨hm, ht⟩, h⟩
    · exact .inl h
    · cases hp : s.sw.senders[i].position with
      | none => exact .inl (by rw [h, hp]; rfl)
      | some p => exact .inr ⟨i, hm, ht, by rw [h, hp]; rfl⟩
  dimmer _ := by
    obtain ⟨hle, hall, hatt⟩ := foldl_min_spec _ _ _ _ hd
    refine ⟨fun i hm ht => hall i (mem_allSenders i) ⟨hm, ht⟩, hle, ?_⟩
    exact hatt.imp_right fun ⟨i, _, ⟨hm, ht⟩, h⟩ => ⟨i, hm, ht, h.symm⟩

theorem State.recomputeLocal_inputsOk (s : State) : s.recomputeLocal.InputsOk :=
  State.inputsOk_of_recomputed rfl rfl rfl

/-! ## The resolver's values (R55 to R57, R61) -/

theorem State.resolverOk_of_recomputed {s : State} (hu : s.res.union = unionOf s.sw.requests s.peers)
    (hi : s.res.ign = ignOf s.cfg.ignFromLine s.ignInput s.peers) (hf : s.res.fanStep = fanStepOf s.sw.fanStep s.peers)
    (hd : s.res.dimmer = dimmerOf s.sw.dimmer s.peers) (hp : s.res.panel = panelLevel s.res.dimmer) : s.ResolverOk where
  union _ n := by
    rw [hu, unionOf, foldl_or_getLsbD]
    simp only [PeerRecord.counts_iff]
  ign _ := by
    rw [hi]
    simp [ignOf, State.ignInput, PeerRecord.isPresent]
  fanStep _ := by simpa only [PeerRecord.counts_iff] using foldl_max_spec _ _ _ _ hf
  dimmer _ := by simpa only [PeerRecord.counts_iff] using foldl_min_spec _ _ _ _ hd
  panel _ := by
    rw [hp, panelLevel, roundDiv]
    omega

/-! ## The Effective Function Set (R57 to R60) -/

theorem effectiveSet_beams (u : RequestSet) (ign flashOn charge shed : Bool) :
    ¬((effectiveSet u ign flashOn charge shed).main = true ∧ (effectiveSet u ign flashOn charge shed).dip = true) := by
  simp only [effectiveSet, effDip]
  cases effMain u <;> simp

theorem State.effectiveOk_of_recomputed {s : State} (h : s.res.eff = effectiveSet s.res.union s.res.ign
    (decide (s.flash.phase = .on)) s.chargeFault (decide (1 ≤ s.supply.effective))) : s.EffectiveOk where
  beams := by rw [h]; exact effectiveSet_beams _ _ _ _ _
  lighting _ := by
    rw [h]
    refine ⟨?_, ?_, ?_, Iff.rfl, ?_, ?_⟩
    · simp [effectiveSet, effSide, hasFn, fnSide, fnHead]
    · simp [effectiveSet, effMain, hasFn, fnHead, fnMainSel, fnPass]
    · simp [effectiveSet, effDip, hasFn, fnHead]
    · simp [effectiveSet, hasFn, fnFogRear]
    · simp [effectiveSet, hasFn, fnFogFront]
  flashing _ := by
    rw [h]
    simp [effectiveSet, effFlashL, effFlashR, hasFn, fnHazard, fnTurnL, fnTurnR, and_assoc]
  passed _ := by
    rw [h]
    simp [effectiveSet, hasFn, fnStop, fnReverse, fnInterior, fnHorn, fnAux]
  telltales _ := by
    rw [h]
    simp [effectiveSet, hasFn, fnOilLow]
  charge _ := by
    rw [h]
    simp only [effectiveSet, State.chargeFault]
    rw [Bool.and_eq_true]
    refine and_congr_right fun _ => ?_
    cases s.batteryReference with
    | none => exact Bool.and_eq_true_iff.trans (and_congr_right fun _ => decide_eq_true_iff)
    | some i => exact decide_eq_true_iff

end Sys2Proof.Machine
end

section
namespace Sys2Proof.Machine

set_option Elab.async false

/-! ## What the hand-ons leave of the station's state -/

/-- The hand-ons go between Awake and Standby at most (R177). -/
theorem State.settle_state (s b : State) (x : Bool) : (s.settle b x).ctl.state = s.ctl.state ∨
    (s.ctl.state = .awake ∧ (s.settle b x).ctl.state = .standby) ∨
      (s.ctl.state = .standby ∧ (s.settle b x).ctl.state = .awake) := by
  obtain ⟨hawake, hstandby, hother⟩ := State.settle_follows s b x
  by_cases ha : s.ctl.state = .awake ∧ (s.settle b x).res.ign = false
  · exact .inr (.inl ⟨ha.1, by rw [(hawake ha.1 ha.2).1]⟩)
  · by_cases hs : s.ctl.state = .standby ∧ (s.settle b x).res.ign = true
    · exact .inr (.inr ⟨hs.1, by rw [(hstandby hs.1 hs.2).1]⟩)
    · exact .inl (hother ha hs).1

@[simp] theorem State.settle_up (s b : State) (x : Bool) : (s.settle b x).up = s.up := by
  unfold State.up State.live
  rw [(State.settle_handedOn s b x).ctl.powered, State.settle_svc]
  rcases State.settle_state s b x with h | ⟨h, k⟩ | ⟨h, k⟩
  · rw [h]
  · rw [h, k]; rfl
  · rw [h, k]; rfl

@[simp] theorem State.settle_drives (s b : State) (x : Bool) : (s.settle b x).drives = s.drives := by
  unfold State.drives State.strapInvalid
  rw [State.settle_straps]
  rcases State.settle_state s b x with h | ⟨h, k⟩ | ⟨h, k⟩
  · rw [h]
  · rw [h, k]; rfl
  · rw [h, k]; rfl

/-! ## The resolver's values in the hand-ons -/

theorem State.settle_res (s b : State) (x : Bool) :
    (s.settle b x).res = (s.stageUnion.stageSupply s.res.ign).stageFlasher.1.stageEffective.res := by
  unfold State.settle State.stageLoads; simp

theorem State.settle_res_eq (s b : State) (x : Bool) :
    (s.settle b x).res = { s.stageUnion.res with eff := (s.settle b x).res.eff } := by
  have h : (s.stageUnion.stageSupply s.res.ign).stageFlasher.1.res = s.stageUnion.res := by simp
  rw [State.settle_res, ← h]
  rfl

/-- The hand-ons leave the resolver's values those of the inputs and the peers that count, whatever they start from. -/
theorem State.settle_resolverOk (s b : State) (x : Bool) : (s.settle b x).ResolverOk := by
  refine State.resolverOk_of_recomputed ?_ ?_ ?_ ?_ ?_
  · rw [State.settle_res_eq, State.settle_sw, State.settle_peers]; rfl
  · unfold State.ignInput
    rw [State.settle_res_ign, State.settle_sw, State.settle_peers, State.settle_cfg]; rfl
  · rw [State.settle_res_eq, State.settle_sw, State.settle_peers]; rfl
  · rw [State.settle_res_eq, State.settle_sw, State.settle_peers]; rfl
  · rw [State.settle_res_eq]; rfl

/-! ## The Effective Function Set in the hand-ons -/

theorem State.batteryReference_congr {s t : State} (hc : t.cfg = s.cfg)
    (hv : t.meas.battery.valid = s.meas.battery.valid) (ha : t.meas.battery.avg = s.meas.battery.avg)
    (hr : t.peers.records = s.peers.records) : t.batteryReference = s.batteryReference := by
  unfold State.batteryReference PeerTable.battery
  rw [hc, hv, ha, hr]

theorem State.chargeFault_congr {s t : State} (hc : t.cfg = s.cfg) (hs : t.straps = s.straps)
    (hp : t.peers = s.peers) (hm : MeasKept s.meas t.meas) : t.chargeFault = s.chargeFault := by
  unfold State.chargeFault State.chargeThreshold
  rw [State.batteryReference_congr hc (by rw [hm.battery]) (by rw [hm.battery]) (by rw [hp]), hm.supply, hs]

/-- The hand-ons leave the Effective Function Set the one of the values they end in, whatever they start from. -/
theorem State.settle_effectiveOk (s b : State) (x : Bool) : (s.settle b x).EffectiveOk := by
  refine State.effectiveOk_of_recomputed ?_
  have hsup : (s.settle b x).supply.effective = (s.stageUnion.stageSupply s.res.ign).stageFlasher.1.supply.effective := by
    obtain ⟨timers, harness, h⟩ := State.settle_supply s b x
    rw [h, State.stageFlasher_supply]
  have hcharge : (s.settle b x).chargeFault = (s.stageUnion.stageSupply s.res.ign).stageFlasher.1.chargeFault := by
    have hflasher := (State.stageFlasher_kept (s.stageUnion.stageSupply s.res.ign)).2
    rw [State.stageSupply_meas, State.stageUnion_meas] at hflasher
    rw [State.chargeFault_congr (s := s) (by simp) (by simp) (by simp) (State.settle_handedOn s b x).meas,
      State.chargeFault_congr (s := s) (by simp) (by simp) (by simp) hflasher]
  rw [hcharge, hsup, State.settle_flash, State.settle_res]
  rfl

/-! ## The flash cycle in the hand-ons -/

/-- A cycle that has a side set and a running half timer exactly while it is not Idle (R106, R110). -/
structure Flasher.Shaped (f : Flasher) : Prop where
  sides : f.sides = none ↔ f.phase = .idle
  half  : f.half = none ↔ f.phase = .idle

theorem State.FlashOk.shaped {s : State} (h : s.FlashOk) : s.flash.Shaped := ⟨h.sides, h.half⟩

theorem Flasher.Shaped.of_idle {f : Flasher} (hp : f.phase = .idle) (hs : f.sides = none) (hh : f.half = none) : f.Shaped :=
  ⟨by simp [hp, hs], by simp [hp, hh]⟩

/-- A running cycle keeps its shape in On and in Off. -/
theorem Flasher.Shaped.of_running {f : Flasher} {x : SideSet} {n : Nat} (hp : f.phase ≠ .idle) (hs : f.sides = some x)
    (hh : f.half = some n) : f.Shaped :=
  ⟨by simp [hp, hs], by simp [hp, hh]⟩

/-- The cycle after its entry to On with a side set. -/
theorem State.enterFlashOn_cycle (s : State) (x : SideSet) (k : OnEntry) : ∃ fast memory,
    (s.enterFlashOn x k).flash = { s.flash with
      phase := .on, sides := some x, fast := fast, half := some (halfPeriod s.cfg.flashPeriod fast), memory := memory } := by
  cases k with
  | align => exact ⟨_, _, rfl⟩
  | start => exact ⟨_, _, State.requestFlash_flash _ x⟩
  | expiry => exact ⟨_, _, State.requestFlash_flash _ x⟩
  | change => exact ⟨_, _, State.requestFlash_flash _ x⟩

theorem State.enterFlashOn_shaped (s : State) (x : SideSet) (k : OnEntry) : (s.enterFlashOn x k).flash.Shaped := by
  obtain ⟨fast, memory, h⟩ := s.enterFlashOn_cycle x k
  exact .of_running (by rw [h]; nofun) (by rw [h]) (by rw [h])

theorem State.enterFlashOn_sides (s : State) (x : SideSet) (k : OnEntry) : (s.enterFlashOn x k).flash.sides = some x := by
  obtain ⟨fast, memory, h⟩ := s.enterFlashOn_cycle x k
  rw [h]

theorem State.stageFlasher_cycle {s : State} (h : s.flash.Shaped) : s.stageFlasher.1.flash.Shaped ∧ (s.drives = true →
    s.stageFlasher.1.flash.sides = sideSetFrom (effFlashL s.res.union s.res.ign) (effFlashR s.res.union s.res.ign)) := by
  unfold State.stageFlasher
  dsimp only
  split
  · rename_i hc
    exact ⟨h, fun hd => (hc.resolve_left (by simp [hd])).symm⟩
  · split
    · rename_i hn
      exact ⟨.of_idle rfl rfl rfl, fun _ => hn.symm⟩
    · rename_i x hx
      split <;> exact ⟨State.enterFlashOn_shaped _ _ _, fun _ => (State.enterFlashOn_sides _ _ _).trans hx.symm⟩

/-- The hand-ons over a cycle of the right shape leave it on the effective side set. -/
theorem State.settle_flashOk {s : State} (h : s.flash.Shaped) (b : State) (x : Bool) : (s.settle b x).FlashOk := by
  obtain ⟨hshape, hsides⟩ := State.stageFlasher_cycle (s := s.stageUnion.stageSupply s.res.ign) (by simpa using h)
  rw [← State.settle_flash s b x] at hshape hsides
  refine ⟨hshape.sides, hshape.half, fun _ hd => ?_⟩
  rw [State.settle_drives] at hd
  refine (hsides ?_).trans ?_
  · rw [State.drives_stageSupply]; exact hd
  · rw [State.stageSupply_res, State.settle_res_eq]

end Sys2Proof.Machine
end

section
namespace Sys2Proof.Machine

set_option Elab.async false

/-! ## What the invariants read -/

/-- What a switch input's request rests on (R45 to R47). -/
def SwitchState.asked (x : SwitchState) : Contact × Bool × Timer := (x.accepted, x.toggle, x.hold)

/-- What the invariants of the local requests, the resolver, the Effective Function Set and the flash cycle read of a
state, but for whether the station runs. -/
structure FunctionView where
  cfg      : WorkingConfig
  straps   : Straps
  state    : StationState
  switches : Fin 8 → Contact × Bool × Timer
  senders  : Vector SenderSwitch 4
  requests : RequestSet
  fanStep  : Nat
  dimmer   : Nat
  ignition : Contact
  records  : List PeerRecord
  res      : Resolver
  cycle    : FlashPhase × Option SideSet × Timer
  shed     : Nat
  supply   : Bool × Int
  battery  : Bool × Int

def State.functionView (s : State) : FunctionView where
  cfg := s.cfg
  straps := s.straps
  state := s.ctl.state
  switches i := s.sw.inputs[i].asked
  senders := s.sw.senders
  requests := s.sw.requests
  fanStep := s.sw.fanStep
  dimmer := s.sw.dimmer
  ignition := s.sw.ignAccepted
  records := s.peers.records
  res := s.res
  cycle := (s.flash.phase, s.flash.sides, s.flash.half)
  shed := s.supply.effective
  supply := (s.meas.supply.valid, s.meas.supply.avg)
  battery := (s.meas.battery.valid, s.meas.battery.avg)

section
variable {s t : State} (hu : t.up = true → s.up = true)
include hu

/-- What `State.InputsOk` reads. -/
theorem State.InputsOk.of_asked (h : s.InputsOk) (hc : t.cfg = s.cfg)
    (hi : ∀ i : Fin 8, t.sw.inputs[i].asked = s.sw.inputs[i].asked) (hs : t.sw.senders = s.sw.senders)
    (hr : t.sw.requests = s.sw.requests) (hf : t.sw.fanStep = s.sw.fanStep) (hd : t.sw.dimmer = s.sw.dimmer) :
    t.InputsOk where
  requests k n hn := by
    have haccepted (i : Fin 8) : t.sw.inputs[i].accepted = s.sw.inputs[i].accepted := congrArg (·.1) (hi i)
    have htoggle (i : Fin 8) : t.sw.inputs[i].toggle = s.sw.inputs[i].toggle := congrArg (·.2.1) (hi i)
    have hhold (i : Fin 8) : t.sw.inputs[i].hold = s.sw.inputs[i].hold := congrArg (·.2.2) (hi i)
    simp only [haccepted, htoggle, hhold, hc, hs, hr]
    exact h.requests (hu k) n hn
  fanStep k := by
    rw [hc, hs, hf]
    exact h.fanStep (hu k)
  dimmer k := by
    rw [hc, hs, hd]
    exact h.dimmer (hu k)

theorem State.InputsOk.of_view (h : s.InputsOk) (hv : t.functionView = s.functionView) : t.InputsOk :=
  h.of_asked hu (congrArg (·.cfg) hv) (fun i => congrArg (·.switches i) hv) (congrArg (·.senders) hv)
    (congrArg (·.requests) hv) (congrArg (·.fanStep) hv) (congrArg (·.dimmer) hv)

theorem State.ResolverOk.of_view (h : s.ResolverOk) (hv : t.functionView = s.functionView) : t.ResolverOk := by
  have hcfg : t.cfg = s.cfg := congrArg (·.cfg) hv
  have hrequests : t.sw.requests = s.sw.requests := congrArg (·.requests) hv
  have hfan : t.sw.fanStep = s.sw.fanStep := congrArg (·.fanStep) hv
  have hdimmer : t.sw.dimmer = s.sw.dimmer := congrArg (·.dimmer) hv
  have hign : t.sw.ignAccepted = s.sw.ignAccepted := congrArg (·.ignition) hv
  have hrecords : t.peers.records = s.peers.records := congrArg (·.records) hv
  have hres : t.res = s.res := congrArg (·.res) hv
  constructor <;> intro k
  · rw [hres, hrequests, hrecords]; exact h.union (hu k)
  · rw [hres, hign, hcfg, hrecords]; exact h.ign (hu k)
  · rw [hres, hfan, hrecords]; exact h.fanStep (hu k)
  · rw [hres, hdimmer, hrecords]; exact h.dimmer (hu k)
  · rw [hres]; exact h.panel (hu k)

theorem State.EffectiveOk.of_view (h : s.EffectiveOk) (hv : t.functionView = s.functionView) : t.EffectiveOk := by
  have hres : t.res = s.res := congrArg (·.res) hv
  have hphase : t.flash.phase = s.flash.phase := congrArg (·.cycle.1) hv
  have hshed : t.supply.effective = s.supply.effective := congrArg (·.shed) hv
  have hstraps : t.straps = s.straps := congrArg (·.straps) hv
  have hvalid : t.meas.supply.valid = s.meas.supply.valid := congrArg (·.supply.1) hv
  have havg : t.meas.supply.avg = s.meas.supply.avg := congrArg (·.supply.2) hv
  have href : t.batteryReference = s.batteryReference := State.batteryReference_congr (congrArg (·.cfg) hv)
    (congrArg (·.battery.1) hv) (congrArg (·.battery.2) hv) (congrArg (·.records) hv)
  refine ⟨?_, fun k => ?_, fun k => ?_, fun k => ?_, fun k => ?_, fun k => ?_⟩
  · rw [hres]; exact h.beams
  · rw [hres]; exact h.lighting (hu k)
  · rw [hres]; exact h.flashing (hu k)
  · rw [hres]; exact h.passed (hu k)
  · rw [hres, hphase, hshed]; exact h.telltales (hu k)
  · rw [hres, href, hstraps, hvalid, havg]; exact h.charge (hu k)

theorem State.FlashOk.of_view (h : s.FlashOk) (hv : t.functionView = s.functionView) : t.FlashOk := by
  have hres : t.res = s.res := congrArg (·.res) hv
  have hphase : t.flash.phase = s.flash.phase := congrArg (·.cycle.1) hv
  have hsides : t.flash.sides = s.flash.sides := congrArg (·.cycle.2.1) hv
  have hhalf : t.flash.half = s.flash.half := congrArg (·.cycle.2.2) hv
  have hstraps : t.straps = s.straps := congrArg (·.straps) hv
  have hstate : t.ctl.state = s.ctl.state := congrArg (·.state) hv
  have hdrives : t.drives = s.drives := by
    unfold State.drives State.strapInvalid; rw [hstraps, hstate]
  refine ⟨?_, ?_, fun k hd => ?_⟩
  · rw [hsides, hphase]; exact h.sides
  · rw [hhalf, hphase]; exact h.half
  · rw [hres, hsides]; exact h.effective (hu k) (hdrives ▸ hd)

end

/-! ## What a command does to the functions -/

/-- A command keeps the local requests, the resolver's values, the Effective Function Set and the flash cycle what the
values they rest on give. -/
structure FunctionsFollow (s t : State) : Prop where
  inputs    : s.InputsOk → t.InputsOk
  resolver  : s.ResolverOk → t.ResolverOk
  effective : s.EffectiveOk → t.EffectiveOk
  flash     : s.FlashOk → t.FlashOk

theorem FunctionsFollow.trans {s t u : State} (h : FunctionsFollow s t) (k : FunctionsFollow t u) : FunctionsFollow s u :=
  ⟨k.inputs ∘ h.inputs, k.resolver ∘ h.resolver, k.effective ∘ h.effective, k.flash ∘ h.flash⟩

theorem FunctionsFollow.refl (s : State) : FunctionsFollow s s := ⟨id, id, id, id⟩

/-- A command of another block, which at most stops the station. -/
theorem FunctionsFollow.aside {s t : State} (hv : t.functionView = s.functionView := by rfl)
    (hu : t.up = true → s.up = true := by exact id) : FunctionsFollow s t :=
  ⟨(·.of_view hu hv), (·.of_view hu hv), (·.of_view hu hv), (·.of_view hu hv)⟩

/-- A station that no longer runs keeps its functions apart and its cycle in shape. -/
theorem FunctionsFollow.down {s t : State} (hd : t.up = false) (he : t.res.eff = s.res.eff)
    (hf : s.FlashOk → t.flash.Shaped) : FunctionsFollow s t := by
  have hno {p : Prop} (h : t.up = true) : p := by rw [hd] at h; cases h
  exact ⟨fun _ => ⟨hno, hno, hno⟩, fun _ => ⟨hno, hno, hno, hno, hno⟩,
    fun h => ⟨by rw [he]; exact h.beams, hno, hno, hno, hno, hno⟩, fun h => ⟨(hf h).sides, (hf h).half, hno⟩⟩

/-- Hand-ons over a state whose local requests follow its inputs and whose cycle is in shape. -/
theorem FunctionsFollow.settle {s u b : State} {x : Bool} (hi : s.InputsOk → u.InputsOk)
    (hf : s.FlashOk → u.flash.Shaped) : FunctionsFollow s (u.settle b x) where
  inputs h := (hi h).of_asked (by rw [State.settle_up]; exact id) (by simp) (by simp) (by simp) (by simp) (by simp)
    (by simp)
  resolver _ := State.settle_resolverOk u b x
  effective _ := State.settle_effectiveOk u b x
  flash h := State.settle_flashOk (hf h) b x

/-- Hand-ons over a change of the cycle. -/
theorem FunctionsFollow.settleCycle {s u b : State} {x : Bool} (hu : u.up = true → s.up = true) (hf : s.FlashOk → u.flash.Shaped)
    (hc : u.cfg = s.cfg := by rfl) (hw : u.sw = s.sw := by rfl) : FunctionsFollow s (u.settle b x) :=
  .settle (fun h => h.of_asked hu hc (by simp [hw]) (by rw [hw]) (by rw [hw]) (by rw [hw]) (by rw [hw])) hf

/-- What the hand-ons take as it is: the configuration, the inputs and what shapes the cycle. -/
def State.base (s : State) : WorkingConfig × SwitchInputs × FlashPhase × Option SideSet × Timer :=
  (s.cfg, s.sw, s.flash.phase, s.flash.sides, s.flash.half)

/-- Hand-ons over a change of other blocks, in a running station. -/
theorem FunctionsFollow.settleAside {s u b : State} {x : Bool} (hu : s.up = true) (h : u.base = s.base := by rfl) :
    FunctionsFollow s (u.settle b x) := by
  simp only [State.base, Prod.mk.injEq] at h
  obtain ⟨hcfg, hsw, hphase, hsides, hhalf⟩ := h
  refine .settleCycle (fun _ => hu) (fun k => ⟨?_, ?_⟩) hcfg hsw
  · rw [hsides, hphase]; exact k.sides
  · rw [hhalf, hphase]; exact k.half

theorem FunctionsFollow.ite {s a : State} {p : Prop} [Decidable p] (h : p → FunctionsFollow s a) :
    FunctionsFollow s (if p then a else s) := by
  split
  · exact h ‹_›
  · exact .refl s

end Sys2Proof.Machine
end

section
namespace Sys2Proof.Machine

set_option Elab.async false

/-! ## What the commands leave for the hand-ons -/

theorem State.base_ite {p : Prop} [Decidable p] {a b s : State} (ha : a.base = s.base := by rfl)
    (hb : b.base = s.base := by rfl) : (if p then a else b).base = s.base := by
  split
  · exact ha
  · exact hb

theorem State.trip_base (s : State) (i : Fin 8) : (s.trip i).base = s.base :=
  State.base_ite State.base_ite State.base_ite

theorem State.bulbOut_base (s : State) (x : Side) : (s.bulbOut x).base = s.base := by
  cases x <;> exact State.base_ite

theorem State.checkBulb_base (s : State) (i : Fin 8) : (s.checkBulb i).base = s.base :=
  State.base_ite (State.base_ite (State.bulbOut_base _ _))

theorem State.currentCompleted_base (s : State) (i : Fin 8) : (s.currentCompleted i).base = s.base :=
  (State.checkBulb_base _ i).trans State.base_ite

theorem State.judgeThermal_base (s : State) : s.judgeThermal.base = s.base :=
  State.base_ite State.base_ite State.base_ite

theorem State.drainStep_base (s : State) : s.drainStep.base = s.base := by
  unfold State.drainStep
  split
  · rfl
  · exact State.base_ite State.base_ite

theorem State.enterTest_base (s : State) (i : Fin 8) (d m : Nat) : (s.enterTest i d m).base = s.base :=
  State.base_ite rfl State.base_ite

/-! ## The line, the quiet timer and the orders of a restart -/

theorem FunctionsFollow.requestStatus (s : State) : FunctionsFollow s s.requestStatus := by
  obtain ⟨_, h⟩ := s.requestStatus_frame
  rw [h]; exact .aside

theorem FunctionsFollow.requestAnnounce (s : State) : FunctionsFollow s s.requestAnnounce := by
  obtain ⟨_, h⟩ := s.requestAnnounce_frame
  rw [h]; exact .aside

theorem FunctionsFollow.reloadQuiet (s : State) : FunctionsFollow s s.reloadQuiet := by
  unfold State.reloadQuiet
  exact .ite fun _ => .aside

theorem State.reloadQuiet_up (s : State) : s.reloadQuiet.up = s.up := by
  unfold State.reloadQuiet; split <;> rfl

theorem FunctionsFollow.heard (s : State) (n : Fin 16) : FunctionsFollow s (s.heard n) := .ite fun _ => .reloadQuiet s

theorem State.heard_up (s : State) (n : Fin 16) : (s.heard n).up = s.up := by
  unfold State.heard
  split
  · exact s.reloadQuiet_up
  · rfl

theorem FunctionsFollow.takeLine (s : State) : FunctionsFollow s s.takeLine := by
  rcases s.takeLine_cases with h | ⟨_, _, _, _, _, _, h⟩ <;> rw [h]
  · exact .refl s
  · exact .aside

theorem FunctionsFollow.raiseObjection (s : State) : FunctionsFollow s s.raiseObjection := by
  unfold State.raiseObjection
  split
  · exact .refl s
  · exact .aside

theorem FunctionsFollow.findDuplicate (s : State) : FunctionsFollow s s.findDuplicate := by
  obtain ⟨_, _, h⟩ := s.findDuplicate_frame
  rw [h]; exact .aside

/-- The order of a restart stops the station. -/
theorem State.orderRestart_up (s : State) : s.orderRestart.up = false := by
  simp [State.up, State.live, State.orderRestart]

theorem FunctionsFollow.orderRestart (s : State) : FunctionsFollow s s.orderRestart :=
  .aside rfl fun h => by rw [State.orderRestart_up] at h; cases h

theorem FunctionsFollow.orderIfLeft (s : State) (q : Queue) : FunctionsFollow s (s.orderIfLeft q) :=
  .ite fun _ => .orderRestart s

theorem FunctionsFollow.attemptFailed {s : State} (hu : s.up = true) (f : InFlight) :
    FunctionsFollow s (s.attemptFailed f) := by
  obtain ⟨_, _, _, _, h⟩ := s.attemptFailed_frame f
  rw [h]; exact .aside rfl fun _ => hu

theorem FunctionsFollow.attempt {s : State} {g : InFlight → State} (h : s.up = true → ∀ f, FunctionsFollow s (g f)) :
    FunctionsFollow s (match s.line.inFlight with | some f => if s.up then g f else s | none => s) := by
  cases s.line.inFlight with
  | none => exact .refl s
  | some f => exact .ite fun hu => h hu f

/-! ## Received frames -/

theorem State.alignTo_shaped {s : State} (h : s.flash.Shaped) (c : FlashContent) : (s.alignTo c).1.flash.Shaped := by
  unfold State.alignTo
  split
  · split
    · exact State.enterFlashOn_shaped _ _ _
    · exact h
  · exact h

theorem State.takeReceived_shaped {s : State} (h : s.flash.Shaped) (c : FlashContent) :
    (s.takeReceived c).flash.Shaped := by
  unfold State.takeReceived
  split
  · exact ⟨h.sides, h.half⟩
  · exact h

theorem FunctionsFollow.flashHanded (s b : State) (c : FlashContent) : FunctionsFollow s (s.flashHanded b c) := by
  refine .ite fun _ => .settleCycle ?_ (fun h => State.alignTo_shaped h.shaped c) ?_ ?_ <;>
    obtain ⟨_, _, h⟩ := s.alignTo_frame c <;> rw [h]
  exact id

theorem FunctionsFollow.takeFlash {s : State} (hu : s.up = true) (b : State) (n : Nat) (byte : Byte) :
    FunctionsFollow s (s.takeFlash b n byte) := by
  rw [State.takeFlash_eq]
  refine .settleCycle (fun _ => hu) (fun h => ?_) ?_ ?_
  · have hheard : (s.flashHeard n byte).flash.Shaped := h.shaped
    exact State.takeReceived_shaped (State.alignTo_shaped hheard _) _
  all_goals
    obtain ⟨_, _, h⟩ := s.flashTaken_frame n byte
    rw [h]

theorem FunctionsFollow.takeStatus {s : State} (hu : s.up = true) (b : State) (n : Nat) (p : List Byte) :
    FunctionsFollow s (s.takeStatus b n p) := by
  refine .ite fun _ => ?_
  split
  · exact .settleAside hu
  · exact .aside

theorem FunctionsFollow.takeAnnounce {s : State} (hu : s.up = true) (b : State) (n : Nat) (p : List Byte) :
    FunctionsFollow s (s.takeAnnounce b n p) := by
  unfold State.takeAnnounce
  split
  · exact .refl s
  · exact .settleAside hu

theorem FunctionsFollow.receive {s : State} {hand : State → State} (n : Fin 16) (format : Bool)
    (h : ∀ t : State, t.up = true → FunctionsFollow t (hand t)) : FunctionsFollow s (s.receive n format hand) := by
  have hbusy : FunctionsFollow s (s.setView .busy) := .aside
  rcases s.receive_cases n format hand with ⟨-, e⟩ | ⟨-, -, e⟩ | ⟨hr, -, e⟩ <;> rw [e]
  · exact .refl s
  · exact hbusy.trans (.raiseObjection _)
  · obtain ⟨_, _, hd⟩ := (s.setView .busy).duplicateCheck_frame n
    have hu : s.up = true := State.up_of_receives hr
    rw [hd]
    exact FunctionsFollow.trans .aside (h _ hu)

/-! ## SERVICE commands -/

theorem FunctionsFollow.service {s : State} {n : Fin 16} {broadcast : Bool} {args : List Byte} {serve : State → State}
    (h : ∀ t : State, t.up = true → FunctionsFollow t (serve t)) :
    FunctionsFollow s (s.service n broadcast args fun t => t.withSlot serve) := by
  have hbusy : FunctionsFollow s (s.setView .busy) := .aside
  have hheard := hbusy.trans (.heard _ n)
  rcases s.service_cases n broadcast args (fun t => t.withSlot serve) with
    ⟨-, e⟩ | ⟨-, -, e⟩ | ⟨-, -, -, e⟩ | ⟨hr, -, -, e⟩ <;> rw [e]
  · exact .refl s
  · exact hbusy.trans (.raiseObjection _)
  · exact hheard
  · refine hheard.trans ?_
    have hup : s.up = true := State.up_of_receives hr
    have hu : ((s.setView .busy).heard n).up = true := (State.heard_up _ n).trans hup
    rcases State.withSlot_cases ((s.setView .busy).heard n) serve with ⟨-, k⟩ | ⟨-, k⟩ <;> rw [k]
    · exact .aside
    · exact h _ hu

theorem FunctionsFollow.either {s a b : State} {p : Prop} [Decidable p] (ha : FunctionsFollow s a)
    (hb : FunctionsFollow s b) : FunctionsFollow s (if p then a else b) := by
  split
  · exact ha
  · exact hb

theorem FunctionsFollow.serveIdentify (s : State) (args : List Byte) : FunctionsFollow s (s.serveIdentify args) :=
  .either (FunctionsFollow.trans .aside (.requestAnnounce _)) .aside

theorem FunctionsFollow.serveRead (s : State) (args : List Byte) : FunctionsFollow s (s.serveRead args) := by
  unfold State.serveRead
  split
  · split <;> exact .aside
  · exact .aside

theorem FunctionsFollow.serveFaultCall (s : State) (n : Fin 16) (args : List Byte) :
    FunctionsFollow s (s.serveFaultCall n args) := by
  refine .either ?_ .aside
  split
  · exact .aside
  · exact .ite fun _ => .aside

theorem FunctionsFollow.serveFaultAck (s : State) (args : List Byte) : FunctionsFollow s (s.serveFaultAck args) := by
  unfold State.serveFaultAck
  split
  · exact .either .aside .aside
  · exact .aside

theorem FunctionsFollow.enterSetup {s : State} (hu : s.up = true) : FunctionsFollow s s.enterSetup := by
  rw [State.enterSetup_eq]
  exact .settleCycle (fun _ => hu) fun _ => .of_idle rfl rfl rfl

theorem FunctionsFollow.serveSetupEnter {s : State} (hu : s.up = true) (args : List Byte) :
    FunctionsFollow s (s.serveSetupEnter args) :=
  .either .aside (.either .aside (.either (FunctionsFollow.trans .aside (.enterSetup hu)) .aside))

theorem FunctionsFollow.serveStoreWrite (s : State) (c base : Nat) (args : List Byte) :
    FunctionsFollow s (s.serveStoreWrite c base args) := by
  refine .either .aside (.either .aside ?_)
  split <;> exact .aside

theorem FunctionsFollow.serveStoreCommit (s : State) (args : List Byte) :
    FunctionsFollow s (s.serveStoreCommit args) := by
  refine .either .aside (.either .aside (.either .aside ?_))
  split <;> exact .aside

theorem FunctionsFollow.serveTestOutput {s : State} (hu : s.up = true) (b : State) (args : List Byte) :
    FunctionsFollow s (s.serveTestOutput b args) :=
  .either .aside (.either (.settleAside hu (State.enterTest_base _ _ _ _)) .aside)

theorem FunctionsFollow.replyRestart (s : State) (c : Nat) : FunctionsFollow s (s.replyRestart c) :=
  .either (FunctionsFollow.trans .aside (.orderRestart _)) .aside

theorem FunctionsFollow.serveSetupExit (s : State) (args : List Byte) : FunctionsFollow s (s.serveSetupExit args) :=
  .either .aside (.either .aside (.replyRestart s _))

theorem FunctionsFollow.serveRestart (s : State) (args : List Byte) : FunctionsFollow s (s.serveRestart args) :=
  .either .aside (.replyRestart s _)

end Sys2Proof.Machine
end

section
namespace Sys2Proof.Machine

set_option Elab.async false

/-! ## Inputs and samples -/

/-- A change of an input that its request does not rest on. -/
theorem State.setInput_view (s : State) (i : Fin 8) {y : SwitchState} (h : y.asked = s.sw.inputs[i].asked) :
    (s.setInput i y).functionView = s.functionView := by
  have hswitches : (fun j : Fin 8 => (s.sw.inputs.set i y)[j].asked) = fun j : Fin 8 => s.sw.inputs[j].asked := by
    funext j
    by_cases hij : i = j
    · subst hij; simpa using h
    · have hne : i.val ≠ j.val := fun k => hij (Fin.ext k)
      simp [hne]
  exact congrArg (fun f => { s.functionView with switches := f }) hswitches

/-- A sample that leaves its block unfinished leaves the averaged value and whether it is valid (R65). -/
theorem Record.take_unfinished {r : Record} {len : Nat} {x : Int} {beyond : Bool} (h : ¬(r.take len x beyond).2 = true) :
    ((r.take len x beyond).1.valid, (r.take len x beyond).1.avg) = (r.valid, r.avg) := by
  unfold Record.take at *
  split at h
  · exact absurd rfl h
  · rename_i hlen
    rw [if_neg hlen]

theorem State.senderCompleted_inputsOk (s : State) (n : Fin 4) : (s.senderCompleted n).InputsOk :=
  State.recomputeLocal_inputsOk _

theorem State.senderCompleted_flash (s : State) (n : Fin 4) : (s.senderCompleted n).flash = s.flash := by
  have hite : ∀ {p q : Prop} [Decidable p] [Decidable q] (t u : State), t.flash = s.flash → u.flash = s.flash →
      (if p then (if q then t else u).reloadQuiet else if q then t else u).flash = s.flash := by
    intro p q _ _ t u ht hu
    split <;> split <;> simp [ht, hu]
  exact hite _ _ rfl rfl

theorem FunctionsFollow.sampleInput {s : State} (hu : s.up = true) (input : SlotInput) (x : Int) (beyond : Bool) :
    FunctionsFollow s (s.sampleInput input x beyond) := by
  cases input with
  | supply =>
    show FunctionsFollow s (s.sampleSupply x beyond)
    unfold State.sampleSupply
    dsimp only
    split
    · exact .settleAside hu
    · rename_i h
      exact .aside (congrArg (fun v => { s.functionView with supply := v }) (Record.take_unfinished h))
  | die =>
    show FunctionsFollow s (s.sampleDie x beyond)
    unfold State.sampleDie
    dsimp only
    split
    · exact .settleAside hu (State.judgeThermal_base _)
    · exact .aside
  | battery =>
    refine .ite fun _ => ?_
    dsimp only
    split
    · exact .settleAside hu
    · rename_i h
      exact .aside (congrArg (fun v => { s.functionView with battery := v }) (Record.take_unfinished h))
  | channel i =>
    have hdone (t : State) (trips done : Bool) (ht : FunctionsFollow s t) (hb : t.base = s.base) :
        FunctionsFollow s (if trips || done
          then (if done then (if trips then t.trip i else t).currentCompleted i else if trips then t.trip i else t).settle s false
          else if done then (if trips then t.trip i else t).currentCompleted i else if trips then t.trip i else t) := by
      have htrip : (if trips then t.trip i else t).base = s.base := State.base_ite ((t.trip_base i).trans hb) hb
      split
      · exact .settleAside hu (State.base_ite ((State.currentCompleted_base _ i).trans htrip) htrip)
      · rename_i h
        obtain ⟨rfl, rfl⟩ : trips = false ∧ done = false := by simpa using h
        exact ht
    exact hdone (s.withMeas _) _ _ .aside rfl
  | sender n =>
    show FunctionsFollow s (s.sampleSender n x beyond)
    unfold State.sampleSender
    dsimp only
    split
    · exact .settle (fun _ => State.senderCompleted_inputsOk _ n) fun h => by
        rw [State.senderCompleted_flash]; exact h.shaped
    · exact .aside

/-! ## The half timer and the join window -/

theorem State.enterFlashOff_shaped {s : State} (h : s.FlashOk) (hp : s.flash.phase = .on) : s.enterFlashOff.flash.Shaped where
  sides := iff_of_false (fun k => by have := h.sides.mp k; rw [hp] at this; cases this) nofun
  half := iff_of_false nofun nofun

theorem FunctionsFollow.halfTimer {s : State} (hu : s.up = true) : FunctionsFollow s
    (match s.flash.phase, s.flash.sides with
      | .on, _ => s.enterFlashOff.settle s false
      | .off, some x => (s.enterFlashOn x .expiry).settle s true
      | .off, none => s
      | .idle, _ => s) := by
  split
  · rename_i hp
    exact .settleCycle (fun _ => hu) fun h => State.enterFlashOff_shaped h hp
  · exact .settleCycle (fun _ => hu) (fun _ => State.enterFlashOn_shaped _ _ _) (by simp) (by simp)
  · exact .refl s
  · exact .refl s

/-! ## Sleep, resets and wakes -/

theorem State.asleep_up (s : State) : s.asleep.up = false := by simp [State.up, State.asleep]

theorem FunctionsFollow.asleep (s : State) : FunctionsFollow s s.asleep :=
  .down s.asleep_up rfl fun _ => .of_idle rfl rfl rfl

theorem FunctionsFollow.enterAsleep (s : State) : FunctionsFollow s s.enterAsleep := by
  rw [State.enterAsleep_eq]
  exact (FunctionsFollow.asleep s).trans (.orderIfLeft _ _)

/-- Entry to Starting from the initial values of Switch Inputs: nothing is requested (R54). -/
theorem State.atStart_inputsOk {s : State} (h : s.sw = SwitchInputs.init) : s.atStart.InputsOk where
  requests _ n _ := by simp [State.atStart, h, SwitchInputs.init, SwitchState.init, SenderSwitch.init]
  fanStep _ := by simp [State.atStart, h, SwitchInputs.init, SenderSwitch.init]
  dimmer _ := by simp [State.atStart, h, SwitchInputs.init, SenderSwitch.init]

theorem FunctionsFollow.enterStarting {s u : State} (hw : u.sw = SwitchInputs.init) (hf : u.flash = Flasher.init)
    (announce : Bool) : FunctionsFollow s (u.enterStarting announce) := by
  have hshape : u.atStart.flash.Shaped := by
    show u.flash.Shaped
    rw [hf]
    exact .of_idle rfl rfl rfl
  have hset : FunctionsFollow s (u.atStart.settle u.atStart false).requestStatus :=
    FunctionsFollow.trans (.settle (fun _ => State.atStart_inputsOk hw) fun _ => hshape) (.requestStatus _)
  rw [State.enterStarting_eq]
  exact .either (hset.trans (.requestAnnounce _)) hset

theorem FunctionsFollow.takeReset (s u : State) (p : StrapPins) (v : Supply) (c : ResumeCause) :
    FunctionsFollow s (u.takeReset p v c) := by
  rw [State.takeReset_eq]
  exact .enterStarting rfl rfl true

theorem FunctionsFollow.wakeUp (s : State) (c : ResumeCause) (i : Option Nat) : FunctionsFollow s (s.wakeUp c i) := by
  rw [State.wakeUp_eq]
  exact .enterStarting rfl rfl false

end Sys2Proof.Machine
end

section
namespace Sys2Proof.Machine

set_option Elab.async false

/-! ## Every command -/

/-- Every command keeps the functions what the values they rest on give. -/
theorem exec_functionsFollow (c : Instr) (s : State) : ∃ t, exec c s = .next t ∧ FunctionsFollow s t := by
  cases c with
  | lineBreak | truncatedFrame | statusSpacingEnd | lineIdle | passTimer | runTimerExpiry | spinUpGraceExpiry | gaugeUpdate
  | inputWake | ignWake | wakePulseEnd | stationClockTick => exact ⟨_, rfl, .ite fun _ => .aside⟩
  | retryWaitExpiry | persistenceTimerExpiry | crankReleaseExpiry | holdTimerEnd
  | rampUpdate | stallWaitExpiry | fanRetryWaitExpiry | deferralEnd => exact ⟨_, rfl, .ite fun h => .settleAside h.1⟩
  | inrushWindowExpiry | testDurationExpiry | stallTimerExpiry =>
    exact ⟨_, rfl, .ite fun h => .settleAside h.1 State.base_ite⟩
  | joinWindowExpiry => exact ⟨_, rfl, .ite fun h => .settleAside h.1 (State.base_ite (s := s))⟩
  | openLoadTimerExpiry => exact ⟨_, rfl, .ite fun _ => .either .aside .aside⟩
  | fanRunTimerExpiry =>
    refine ⟨_, rfl, .ite fun _ => ?_⟩
    dsimp only
    split <;> exact .aside
  | switchRawChange i => exact ⟨_, rfl, .either (.aside (State.setInput_view (s.withPins _) i rfl)) .aside⟩
  | ignPinChange => exact ⟨_, rfl, .either .aside .aside⟩
  | holdTimerExpiry => exact ⟨_, rfl, .ite fun _ => .settle (fun _ => State.recomputeLocal_inputsOk _) (·.shaped)⟩
  | debounceExpiry =>
    refine ⟨_, rfl, .ite fun _ => .settle (fun _ => State.recomputeLocal_inputsOk _) fun h => ?_⟩
    rw [State.recomputeLocal_flash]
    split
    · rw [State.reloadQuiet_flash]; exact h.shaped
    · exact h.shaped
  | ignDebounceExpiry =>
    exact ⟨_, rfl, .ite fun h => .settle
      (fun k => k.of_asked (fun _ => h.1) rfl (fun _ => rfl) rfl rfl rfl rfl) (·.shaped)⟩
  | joinStartBit => exact ⟨_, rfl, .either .aside (.takeLine s)⟩
  | frameOffer => exact ⟨_, rfl, .takeLine s⟩
  | arbitrationLoss => exact ⟨_, rfl, .attempt fun _ _ => .aside⟩
  | collision =>
    refine ⟨_, rfl, .attempt fun hu f => ?_⟩
    have hf : FunctionsFollow s ((s.withLine s.line.countCollision).attemptFailed f) :=
      FunctionsFollow.trans .aside (.attemptFailed (by exact hu) f)
    exact .either (hf.trans (.findDuplicate _)) hf
  | attemptObjected => 
    exact ⟨_, rfl, .attempt fun hu f => FunctionsFollow.trans .aside (.attemptFailed (by exact hu) f)⟩
  | attemptSuccess =>
    refine ⟨_, rfl, .attempt fun _ f => ?_⟩
    have hf : FunctionsFollow s ((s.withLine (s.line.succeed f)).orderIfLeft s.line.queue) :=
      FunctionsFollow.trans .aside (.orderIfLeft _ _)
    exact .either (hf.trans (.flashHanded _ _ _)) hf
  | objectedFrame =>
    refine ⟨_, rfl, .ite fun _ => ?_⟩
    have hbusy : FunctionsFollow s (s.setView .busy) := .aside
    have hobj (b : Bool) : FunctionsFollow s (if b then (s.setView .busy).raiseObjection else s.setView .busy) :=
      .either (hbusy.trans (.raiseObjection _)) hbusy
    exact .either ((hobj _).trans .aside) (hobj _)
  | statusFrame n p => exact ⟨_, rfl, .receive n _ fun _ hu => .takeStatus hu s _ p⟩
  | announceFrame n p => exact ⟨_, rfl, .receive n _ fun _ hu => .takeAnnounce hu s _ p⟩
  | flashFrame n p => exact ⟨_, rfl, .receive n _ fun _ hu => .takeFlash hu s _ _⟩
  | replyFrame n => exact ⟨_, rfl, .receive n _ fun t _ => .refl t⟩
  | stuckLine =>
    refine ⟨_, rfl, .ite fun _ => ?_⟩
    dsimp only
    split <;> exact .aside
  | isolationWaitExpiry => exact ⟨_, rfl, .ite fun _ => FunctionsFollow.trans .aside (.requestStatus _)⟩
  | periodicStatusTimer => exact ⟨_, rfl, .ite fun _ => (FunctionsFollow.requestStatus s).trans .aside⟩
  | ageingTimerExpiry n =>
    refine ⟨_, rfl, ?_⟩
    split
    · exact .ite fun h => .settleAside h.1
    · exact .refl s
  | sample =>
    refine ⟨_, rfl, ?_⟩
    split
    · exact .ite fun hu => FunctionsFollow.trans .aside (.sampleInput (by exact hu) _ _ _)
    · exact .refl s
  | overTimerExpiry i => exact ⟨_, rfl, .ite fun h => .settleAside h.1 (s.trip_base i)⟩
  | halfTimerExpiry => exact ⟨_, rfl, .ite fun h => .halfTimer h.1⟩
  | drainTick => exact ⟨_, rfl, .ite fun h => .settleAside h.1 s.drainStep_base⟩
  | powerFail => exact ⟨_, rfl, .ite fun _ => .down rfl rfl (·.shaped)⟩
  | powerOnReset => exact ⟨_, rfl, .takeReset s _ _ _ _⟩
  | serviceRestart => exact ⟨_, rfl, .ite fun _ => .takeReset s _ _ _ _⟩
  | quietTimerExpiry => exact ⟨_, rfl, .ite fun _ => .either (.enterAsleep s) (.reloadQuiet s)⟩
  | lineWake | wakeWaitExpiry => exact ⟨_, rfl, .ite fun _ => .wakeUp s _ _⟩
  | identify => exact ⟨_, rfl, .service fun t _ => .serveIdentify t _⟩
  | read => exact ⟨_, rfl, .service fun t _ => .serveRead t _⟩
  | faultCall => exact ⟨_, rfl, .service fun t _ => .serveFaultCall t _ _⟩
  | faultAck => exact ⟨_, rfl, .service fun t _ => .serveFaultAck t _⟩
  | faultClear => exact ⟨_, rfl, .service fun _ _ => .either .aside .aside⟩
  | setupEnter => exact ⟨_, rfl, .service fun _ hu => .serveSetupEnter hu _⟩
  | storeWriteLowHalf | storeWriteHighHalf => exact ⟨_, rfl, .service fun t _ => .serveStoreWrite t _ _ _⟩
  | storeCommit => exact ⟨_, rfl, .service fun t _ => .serveStoreCommit t _⟩
  | programmingEnd => exact ⟨_, rfl, .ite fun _ => .either .aside .aside⟩
  | testOutput => exact ⟨_, rfl, .service fun _ hu => .serveTestOutput hu s _⟩
  | setupExit => exact ⟨_, rfl, .service fun t _ => .serveSetupExit t _⟩
  | restart => exact ⟨_, rfl, .service fun t _ => .serveRestart t _⟩
  | unknownCommand => exact ⟨_, rfl, .either (.refl s) (.service fun _ _ => .aside)⟩

end Sys2Proof.Machine
end

section
namespace Sys2Proof.Machine

set_option Elab.async false

theorem step_functionsFollow {s t : State} (hs : step s = .next t) : FunctionsFollow s t := by
  rcases step_cases s with ⟨-, e⟩ | ⟨c, rest, -, e⟩
  · cases e.symm.trans hs
    exact .refl s
  · obtain ⟨u, hu, hf⟩ := exec_functionsFollow c (s.withPending rest)
    cases (e.trans hu).symm.trans hs
    exact FunctionsFollow.trans .aside hf

/-- Settles O6: a command that changes an input or a sender recomputes the requests, and no other changes what they rest
on. -/
theorem stepKeepsLocalRequests : Obligations.StepKeepsLocalRequests := fun _ _ h hs => (step_functionsFollow hs).inputs h

/-- Settles O7: the hand-ons compute the resolver's values afresh, and a command without hand-ons leaves what they rest
on. -/
theorem stepKeepsResolver : Obligations.StepKeepsResolver := fun _ _ h hs => (step_functionsFollow hs).resolver h

/-- Settles O8: the hand-ons compute the set from the values that they end in. -/
theorem stepKeepsEffectiveFunctions : Obligations.StepKeepsEffectiveFunctions := fun _ _ h hs =>
  (step_functionsFollow hs).effective h

/-- Settles O9: the hand-ons put a cycle in shape on the effective side set, and every change of the cycle leaves it in
shape. -/
theorem stepKeepsFlashCycle : Obligations.StepKeepsFlashCycle := fun _ _ h hs => (step_functionsFollow hs).flash h

end Sys2Proof.Machine
end

section
/-! PROOFS. The switch inputs and the IGN pin (R43 to R47, R53, R55), and what the hand-ons do to the quiet timer (R178). -/

namespace Sys2Proof.Machine

set_option Elab.async false

/-! ## The quiet timer in the hand-ons (R178) -/

/-- Two sets agree on their functions, telltales apart, when they agree on the codes below 14 (R62, R81). -/
theorem EffectiveSet.functions_eq_iff (e f : EffectiveSet) :
    e.functions = f.functions ↔ ∀ k, k < 14 → f.byCode k = e.byCode k := by
  simp only [EffectiveSet.functions, EffectiveSet.mk.injEq, and_true]
  constructor
  · rintro ⟨h0, h1, h2, h3, h4, h5, h6, h7, h8, h9, h10, h11, h12, h13⟩ k hk
    interval_cases k <;> symm <;> assumption
  · intro h
    have code (k : Nat) (hk : k < 14) : e.byCode k = f.byCode k := (h k hk).symm
    exact ⟨code 0 (by decide), code 1 (by decide), code 2 (by decide), code 3 (by decide), code 4 (by decide),
      code 5 (by decide), code 6 (by decide), code 7 (by decide), code 8 (by decide), code 9 (by decide),
      code 10 (by decide), code 11 (by decide), code 12 (by decide), code 13 (by decide)⟩

/-- Station Control leaves the quiet timer of a Standby station whose functions in force stand, and loads it in full
otherwise. -/
theorem State.stageControl_quiet {s : State} {e : EffectiveSet} (h : (s.stageControl e).ctl.state = .standby) :
    (s.stageControl e).ctl.quiet =
      if s.ctl.state = .standby ∧ e.functions = s.res.eff.functions then s.ctl.quiet else some (s.cfg.quiet * 1000) := by
  unfold State.stageControl at *
  split at h
  · rename_i ha _
    rw [if_neg fun k => by rw [ha] at k; cases k.1]
    rfl
  · cases h
  · split at h
    · rename_i he
      rw [if_pos he, if_pos ⟨h, he⟩]
    · rename_i he
      rw [if_neg he, if_neg fun k => he k.2]
      unfold State.reloadQuiet at *
      split at h
      · rename_i hs
        rw [if_pos hs]; rfl
      · rename_i hs
        exact absurd h hs

theorem State.settle_quiet {s b : State} {x : Bool} (h : (s.settle b x).ctl.state = .standby) :
    (s.settle b x).ctl.quiet = if s.ctl.state = .standby ∧ b.res.eff.functions = (s.settle b x).res.eff.functions
      then s.ctl.quiet else some (s.cfg.quiet * 1000) := by
  have hres : (s.settle b x).res = (s.beforeControl x).res := by
    rw [State.settle_eq, State.stageStatus_res, State.stageControl_res]
  rw [State.settle_ctl] at h ⊢
  rw [State.stageControl_quiet h, hres, State.beforeControl_ctl, State.beforeControl_cfg]

/-- A quiet timer that a change has reloaded stands at its full period after the hand-ons. -/
theorem State.settle_quiet_full {s b : State} {x : Bool}
    (hq : s.ctl.state = .standby → s.ctl.quiet = some (s.cfg.quiet * 1000)) (h : (s.settle b x).ctl.state = .standby) :
    (s.settle b x).ctl.quiet = some (s.cfg.quiet * 1000) := by
  rw [State.settle_quiet h]
  split
  · rename_i k; exact hq k.1
  · rfl

theorem State.reloadQuiet_full {s : State} (h : s.reloadQuiet.ctl.state = .standby) :
    s.reloadQuiet.ctl.quiet = some (s.cfg.quiet * 1000) := by
  unfold State.reloadQuiet at *
  split at h
  · rename_i hs; rw [if_pos hs]; rfl
  · rename_i hs; exact absurd h hs

theorem State.reloadQuiet_kept (s : State) : CtlKept s.ctl s.reloadQuiet.ctl := by
  unfold State.reloadQuiet
  split
  · exact ⟨rfl, rfl, rfl, rfl, rfl, rfl⟩
  · exact CtlKept.refl _

/-! ## The pins (R43, R44, R55) -/

/-- A pin level gives the raw state closed at the level of the entry's polarity, and open at any other (R43). -/
theorem rawContact_eq {closedToSupply : Bool} {level : PinLevel} {raw : Contact}
    (h : raw = .closed ↔ (level = .earth ∧ closedToSupply = false) ∨ (level = .supply ∧ closedToSupply = true))
    (hr : raw = .closed ∨ raw = .opened) : rawContact closedToSupply level = raw := by
  rcases hr with rfl | rfl
  · rcases h.mp rfl with ⟨rfl, rfl⟩ | ⟨rfl, rfl⟩ <;> rfl
  · cases level <;> cases closedToSupply <;> simp_all [rawContact]

theorem State.raw_settled (s : State) (i : Fin 8) : s.raw i = .closed ∨ s.raw i = .opened := by
  unfold State.raw rawContact
  split <;> simp

/-- The station with the level of a switch pin replaced. -/
def State.pinned (s : State) (i : Fin 8) (level : PinLevel) : State :=
  s.withPins { s.pins with switches := s.pins.switches.set i level }

theorem State.pinned_raw (s : State) (i : Fin 8) (level : PinLevel) :
    (s.pinned i level).raw i = rawContact s.cfg.switches[i].closedToSupply level := by
  simp [State.pinned, State.raw]

theorem execSwitchRawChange_next (s : State) (i : Fin 8) (level : PinLevel) : exec (.switchRawChange i level) s = .next
    (if s.up = true ∧ s.cfg.switches[i].enabled = true ∧ (s.pinned i level).raw i ≠ s.raw i then
      (s.pinned i level).setInput i { s.sw.inputs[i] with
        debounce := debounceAfter ((s.pinned i level).raw i) s.sw.inputs[i].accepted }
    else s.pinned i level) := rfl

theorem execIgnPinChange_next (s : State) (ign : Bool) : exec (.ignPinChange ign) s = .next
    (if s.up = true ∧ s.pins.ign ≠ ign then
      { s with
        pins := { s.pins with ign := ign }
        sw := { s.sw with ignDebounce := debounceAfter (ignContact ign) s.sw.ignAccepted } }
    else { s with pins := { s.pins with ign := ign } }) := rfl

/-! ## The accepted states (R44 to R47) -/

theorem SwitchState.accept_eq (x : SwitchState) (e : SwitchEntry) {raw : Contact} (hr : raw = .closed ∨ raw = .opened) :
    x.accept e raw = { x with
      accepted := raw, debounce := none
      toggle := if x.transits raw = true ∧ raw = .closed ∧ e.mode = 1 then !x.toggle else x.toggle
      hold := if x.transits raw = true ∧ e.mode = 2 ∧ raw = .closed then none
        else if x.transits raw = true ∧ e.mode = 2 ∧ 0 < e.hold then some (e.hold * 1000) else x.hold } := by
  have ht : x.transits raw = true ↔ ¬(x.accepted = .undetermined ∨ x.accepted = raw) := by
    simp [SwitchState.transits]
  unfold SwitchState.accept
  dsimp only
  split
  · rename_i h
    have hno : ¬x.transits raw = true := fun k => ht.mp k h
    simp [hno]
  · rename_i h
    have hyes : x.transits raw = true := ht.mpr h
    rcases hr with rfl | rfl
    · by_cases hm : e.mode = 2 <;> simp [hyes, hm]
    · simp [hyes]

/-! ## What the hand-ons leave after the requests are recomputed (R53) -/

/-- A change of Switch Inputs with the requests recomputed, and of the quiet timer at most: the hand-ons leave the
requests as they were recomputed. -/
theorem HandedOn.of_recomputed {s u b t : State} {x : Bool} {w : SwitchInputs}
    (hu : u = { s with sw := w, ctl := u.ctl }) (hc : CtlKept s.ctl u.ctl) (ht : t = u.recomputeLocal.settle b x) :
    HandedOn { s with sw := { w with
      requests := t.sw.requests, fanStep := t.sw.fanStep, dimmer := t.sw.dimmer } } t := by
  have hon := State.settle_handedOn u.recomputeLocal b x
  have hsw : t.sw = { w with requests := t.sw.requests, fanStep := t.sw.fanStep, dimmer := t.sw.dimmer } := by
    have hw : u.sw = w := congrArg State.sw hu
    rw [ht, State.settle_sw]
    unfold State.recomputeLocal
    rw [hw]; rfl
  rw [← hsw]
  rw [← ht] at hon
  have hv : u.recomputeLocal = { s with sw := t.sw, ctl := u.ctl } := by
    rw [ht, State.settle_sw]
    unfold State.recomputeLocal
    rw [hu]; rfl
  rw [hv] at hon
  exact { hon with ctl := hc.trans hon.ctl }

/-- The state whose hand-ons a debounce expiry runs, before the requests are recomputed. -/
def State.accepting (s : State) (i : Fin 8) : State :=
  let t := s.setInput i (s.sw.inputs[i].accept s.cfg.switches[i] (s.raw i))
  if s.sw.inputs[i].transits (s.raw i) then t.reloadQuiet else t

theorem execDebounceExpiry_next {s : State} {i : Fin 8} (hu : s.up = true) (hd : s.sw.inputs[i].debounce.isSome = true) :
    exec (.debounceExpiry i) s = .next ((s.accepting i).recomputeLocal.settle s false) :=
  congrArg Host.Outcome.next (if_pos ⟨hu, hd⟩)

theorem State.accepting_eq (s : State) (i : Fin 8) : s.accepting i = { s with
    sw := { s.sw with inputs := s.sw.inputs.set i (s.sw.inputs[i].accept s.cfg.switches[i] (s.raw i)) }
    ctl := (s.accepting i).ctl } := by
  unfold State.accepting State.reloadQuiet
  dsimp only
  split
  · split <;> rfl
  · rfl

theorem State.accepting_cfg (s : State) (i : Fin 8) : (s.accepting i).cfg = s.cfg := by rw [State.accepting_eq]

theorem State.accepting_ctl (s : State) (i : Fin 8) : CtlKept s.ctl (s.accepting i).ctl := by
  unfold State.accepting
  dsimp only
  split
  · exact State.reloadQuiet_kept (s.setInput i _)
  · exact CtlKept.refl _

theorem State.accepting_quiet {s : State} {i : Fin 8} (h : s.sw.inputs[i].transits (s.raw i) = true)
    (hs : (s.accepting i).ctl.state = .standby) : (s.accepting i).ctl.quiet = some (s.cfg.quiet * 1000) := by
  unfold State.accepting at *
  dsimp only at *
  rw [if_pos h] at *
  exact State.reloadQuiet_full hs

/-- Settles O30: the pins by their effect, the accepted states by what the requests are recomputed from, and the quiet
timer by Station Control's last stage. -/
theorem inputsDebounced : Obligations.InputsDebounced := by
  refine ⟨fun s i level ign raw hraw hr => ?_, fun s i hu => ⟨?_, ?_, ?_⟩, ?_⟩
  · have hraw' : (s.pinned i level).raw i = raw := (s.pinned_raw i level).trans (rawContact_eq hraw hr)
    rw [execSwitchRawChange_next, execIgnPinChange_next, hraw']
    refine ⟨fun hu he hne => ?_, fun h => ?_, fun hu hne => ?_, fun h => ?_⟩
    · rw [if_pos ⟨hu, he, hne⟩]; rfl
    · rw [if_neg]
      · rfl
      · rintro ⟨hu, he, hne⟩
        rcases h with h | h | h
        · rw [hu] at h; cases h
        · rw [he] at h; cases h
        · exact hne h
    · rw [if_pos ⟨hu, hne⟩]; rfl
    · rw [if_neg]
      rintro ⟨hu, hne⟩
      rcases h with h | h
      · rw [hu] at h; cases h
      · exact hne h
  · rintro y transition hd rfl rfl
    refine ⟨_, execDebounceExpiry_next hu hd, ?_, fun htr hs => ?_⟩
    · have h := HandedOn.of_recomputed (b := s) (x := false) (s.accepting_eq i) (s.accepting_ctl i) rfl
      rw [SwitchState.accept_eq _ _ (s.raw_settled i)] at h
      exact h
    · have hcfg : (s.accepting i).recomputeLocal.cfg = s.cfg := s.accepting_cfg i
      rw [← hcfg]
      exact State.settle_quiet_full (fun k => hcfg ▸ State.accepting_quiet htr k) hs
  · intro hh
    exact ⟨_, congrArg Host.Outcome.next (if_pos ⟨hu, hh⟩),
      HandedOn.of_recomputed (u := s.setInput i _) rfl (CtlKept.refl _) rfl⟩
  · intro hd
    exact ⟨_, congrArg Host.Outcome.next (if_pos ⟨hu, hd⟩), State.settle_handedOn _ s false⟩
  · rintro s before t fresh rfl hs
    refine ⟨fun ⟨k, hk, hne⟩ => ?_, fun hsame hstandby => ?_⟩
    · rw [State.settle_quiet hs, if_neg fun h => hne ((EffectiveSet.functions_eq_iff _ _).mp h.2 k hk)]
    · rw [State.settle_quiet hs, if_pos ⟨hstandby, (EffectiveSet.functions_eq_iff _ _).mpr hsame⟩]

end Sys2Proof.Machine
end

section
/-! PROOFS. The completed block of a sender input: the bands and dimmer values of a ladder, the class of a Switch-mode sender,
the Open and Short conditions and the faults (R48 to R53, R70, R161). -/

namespace Sys2Proof.Machine

set_option Elab.async false

/-! ## Bands and dimmer values (R49, R52) -/

/-- The reading lies in the band `q` of an entry's words, the bounds included (R49). -/
def inBand (words : List Nat) (r : Int) (q : Nat) : Prop :=
  (words.getD (2 * q) 0 : Int) ≤ r ∧ r ≤ words.getD (2 * q + 1) 0

theorem wordPairs_length {n : Nat} {l : List Nat} (h : 2 * n ≤ l.length) : (wordPairs n l).length = n := by
  induction n generalizing l with
  | zero => rfl
  | succ n ih =>
    match l, h with
    | a :: b :: t, h => exact congrArg (· + 1) (ih (by simp at h; omega))

theorem wordPairs_getElem {n : Nat} {l : List Nat} (h : 2 * n ≤ l.length) {q : Nat} (hq : q < (wordPairs n l).length) :
    (wordPairs n l)[q] = (l.getD (2 * q) 0, l.getD (2 * q + 1) 0) := by
  induction n generalizing l q with
  | zero => exact absurd hq (by simp [wordPairs])
  | succ n ih =>
    match l, h, q with
    | a :: b :: t, _, 0 => rfl
    | a :: b :: t, h, q + 1 => exact ih (by simp at h; omega) (by simpa [wordPairs] using hq)

theorem bandOf_eq_findIdx? (l : List (Nat × Nat)) (i : Nat) (r : Int) :
    bandOf l i r = (l.findIdx? fun b => decide ((b.1 : Int) ≤ r ∧ r ≤ b.2)).map (· + i) := by
  induction l generalizing i with
  | nil => rfl
  | cons b t ih =>
    rw [List.findIdx?_cons]
    unfold bandOf
    by_cases h : (b.1 : Int) ≤ r ∧ r ≤ b.2
    · rw [if_pos h, if_pos (decide_eq_true h), Option.map_some, Nat.zero_add]
    · rw [if_neg h, if_neg (by simpa using h), ih, Option.map_map]
      congr 1
      funext k
      simp; omega

theorem bandOf_zero (l : List (Nat × Nat)) (r : Int) :
    bandOf l 0 r = l.findIdx? fun b => decide ((b.1 : Int) ≤ r ∧ r ≤ b.2) :=
  (bandOf_eq_findIdx? l 0 r).trans Option.map_id'

/-- The band of a reading is the lowest that holds it (R49). -/
theorem SenderEntry.bandOf_eq_some_iff {e : SenderEntry} (h : 2 * e.count ≤ e.words.length) (r : Int) (p : Nat) :
    bandOf e.bands 0 r = some p ↔ p < e.count ∧ inBand e.words r p ∧ ∀ q, q < p → ¬inBand e.words r q := by
  rw [bandOf_zero, List.findIdx?_eq_some_iff_getElem]
  simp only [SenderEntry.bands, wordPairs_getElem h, wordPairs_length h, decide_eq_true_eq, exists_prop]
  rfl

theorem SenderEntry.bandOf_eq_none_iff {e : SenderEntry} (h : 2 * e.count ≤ e.words.length) (r : Int) :
    bandOf e.bands 0 r = none ↔ ∀ q, q < e.count → ¬inBand e.words r q := by
  rw [bandOf_zero, List.findIdx?_eq_none_iff, List.forall_mem_iff_getElem]
  simp only [SenderEntry.bands, wordPairs_getElem h, wordPairs_length h, decide_eq_false_iff_not]
  rfl

theorem dimmerValue_eq (e : SenderEntry) (r : Int) : (dimmerValue e r : Int) =
    max 0 (min 63 (roundDiv ((r - (e.words.getD 8 0 : Nat)) * 63) ((e.words.getD 9 0 : Nat) - (e.words.getD 8 0 : Nat)))) := by
  unfold dimmerValue
  rw [Int.toNat_of_nonneg (clampInt_within (by decide) _).1, clampInt_eq_max_min (by decide)]
  rfl

/-! ## What a completed block changes (R48 to R53, R70, R161) -/

theorem SenderSwitch.changed_iff (x y : SenderSwitch) : x.changed y = true ↔
    (x.contact ≠ .undetermined ∧ y.contact ≠ x.contact) ∨ y.position ≠ x.position ∨ y.value ≠ x.value := by
  simp only [SenderSwitch.changed, Bool.or_eq_true, Bool.and_eq_true, decide_eq_true_eq, or_assoc]
  rw [ne_comm (a := x.contact) (b := y.contact), ne_comm (a := x.position), ne_comm (a := x.value)]

theorem SenderRecord.judge_openCount (r : SenderRecord) :
    r.judge.openCount = if 1020 ≤ r.base.avg then min (r.openCount + 1) 2 else 0 := by
  simp [SenderRecord.judge, satInc]

theorem SenderRecord.judge_shortCount (r : SenderRecord) :
    r.judge.shortCount = if r.base.avg ≤ 2 then min (r.shortCount + 1) 2 else 0 := by
  simp [SenderRecord.judge, satInc]

theorem SenderRecord.judge_openFlag (r : SenderRecord) :
    r.judge.openFlag = (decide (1020 ≤ r.base.avg) && (r.openFlag || decide (r.judge.openCount = 2))) := rfl

theorem SenderRecord.judge_shortFlag (r : SenderRecord) :
    r.judge.shortFlag = (decide (r.base.avg ≤ 2) && (r.shortFlag || decide (r.judge.shortCount = 2))) := rfl

theorem SenderRecord.flagged_judge (r : SenderRecord) : r.flagged r.judge = true ↔
    (r.openFlag = false ∧ r.judge.openCount = 2) ∨ (r.shortFlag = false ∧ r.judge.shortCount = 2) := by
  unfold SenderRecord.flagged SenderRecord.judge
  dsimp only
  by_cases ho : 1020 ≤ r.base.avg <;> by_cases hs : r.base.avg ≤ 2 <;> cases r.openFlag <;> cases r.shortFlag <;>
    simp [ho, hs]

theorem senderFaultDue_iff (e : SenderEntry) (r : SenderRecord) (x y : SenderSwitch) :
    senderFaultDue e r r.judge x y = true ↔
      (e.mode = .resistive ∧ ((r.openFlag = false ∧ r.judge.openCount = 2) ∨ (r.shortFlag = false ∧ r.judge.shortCount = 2))) ∨
      (e.mode = .ladder ∧ x.outOfBand < 3 ∧ y.outOfBand = 3) := by
  unfold senderFaultDue
  split <;> simp [*, SenderRecord.flagged_judge]

/-- A sender's Switch Inputs state at a completed block, by its mode and the band of the average. -/
theorem SenderSwitch.next_eq {w w' : SenderSwitch} {e : SenderEntry} {v : Int}
    (h : (e.mode = .switch ∧ w' = { w with contact := if v < 20 then .closed else .opened }) ∨
      (e.mode = .ladder ∧ ∃ p, bandOf e.bands 0 v = some p ∧ w' = { w with
        position := some p, outOfBand := 0, value := if e.target = 1 then dimmerValue e v else w.value }) ∨
      (e.mode = .ladder ∧ bandOf e.bands 0 v = none ∧ w' = { w with outOfBand := min (w.outOfBand + 1) 3 }) ∨
      ((e.mode = .off ∨ e.mode = .resistive) ∧ w' = w)) : w.next e v = w' := by
  unfold SenderSwitch.next
  rcases h with ⟨hm, rfl⟩ | ⟨hm, p, hp, rfl⟩ | ⟨hm, hp, rfl⟩ | ⟨hm | hm, rfl⟩ <;> rw [hm]
  · rfl
  · simp only [SenderSwitch.decode, hp]
  · simp only [SenderSwitch.decode, hp, satInc]

theorem State.reloadQuiet_eq (s : State) : s.reloadQuiet = { s with ctl := s.reloadQuiet.ctl } := by
  obtain ⟨_, h⟩ := s.reloadQuiet_frame
  rw [h]

/-- What the readers of a completed sender block leave: the conditions judged, the sender's state, the fault and the quiet
timer. -/
theorem State.senderCompleted_frame {s : State} {n : Fin 4} {r : SenderRecord} {w : SenderSwitch}
    (hr : r = s.meas.senders[n]) (hw : w = s.sw.senders[n].next s.cfg.senders[n] r.base.avg) :
    ∃ ctl requests fanStep dimmer, s.senderCompleted n = { s with
        meas := { s.meas with senders := s.meas.senders.set n r.judge }
        sw := { s.sw with
          senders := s.sw.senders.set n w, requests := requests, fanStep := fanStep, dimmer := dimmer }
        faults := if senderFaultDue s.cfg.senders[n] r r.judge s.sw.senders[n] w
          then s.faults.add .senderFault (some n.val) s.ctl.clock else s.faults
        ctl := ctl } ∧
      (s.sw.senders[n].changed w = true → ctl.state = .standby → ctl.quiet = some (s.cfg.quiet * 1000)) := by
  have hfault (t : State) (p : Prop) [Decidable p] (k : FaultKind) (i : Option Nat) :
      (if p then t.addFault k i else t) = { t with faults := if p then t.faults.add k i t.ctl.clock else t.faults } := by
    split <;> rfl
  subst hr hw
  unfold State.senderCompleted
  dsimp only
  rw [hfault]
  split
  · exact ⟨_, _, _, _, congrArg State.recomputeLocal (State.reloadQuiet_eq _), fun _ hs => State.reloadQuiet_full hs⟩
  · rename_i hc
    exact ⟨s.ctl, _, _, _, rfl, fun k => absurd k hc⟩

/-! ## The sample that completes the block -/

/-- A sample that completes its block leaves the rounded mean (R65, R66). -/
theorem Record.take_completed {r : Record} {len : Nat} (h : len ≤ r.count + 1) (x : Int) (beyond : Bool) :
    r.take len x beyond = (⟨x, beyond, roundDiv (r.sum + x) len, true, r.sumOver || beyond, 0, 0, false⟩, true) := if_pos h

theorem slotInput_sender (n : Fin 4) : slotInput (11 + n.val) = .sender n := by revert n; decide

/-- A sender's record with the sample that completes its block taken in. -/
def SenderRecord.completed (r : SenderRecord) (x : Int) : SenderRecord :=
  { r with base := ⟨x, false, roundDiv (r.base.sum + x) 64, true, r.base.sumOver || false, 0, 0, false⟩ }

/-- The state whose readers the sample that completes a sender block runs. -/
def State.senderSampled (s : State) (n : Fin 4) (x : Int) : State :=
  { s with meas := { s.meas with
    slot := nextSlot s.cfg.shunt (11 + n.val), senders := s.meas.senders.set n (s.meas.senders[n].completed x) } }

theorem execSample_sender {s : State} {n : Fin 4} (hu : s.up = true) (hs : s.meas.slot = some (11 + n.val))
    (hc : 63 ≤ s.meas.senders[n].base.count) (x : Int) : ∃ b, exec (.sample x) s = .next
      (((s.senderSampled n (max 0 (min 1023 x))).senderCompleted n).settle b false) := by
  have hlen : 64 ≤ s.meas.senders[n].base.count + 1 := by omega
  refine ⟨s.withMeas { s.meas with slot := nextSlot s.cfg.shunt (11 + n.val) }, ?_⟩
  show execSample x s = _
  unfold execSample
  rw [hs]
  dsimp only
  rw [if_pos hu, slotInput_sender, ← clampInt_eq_max_min (by decide)]
  refine congrArg Host.Outcome.next ?_
  show State.sampleSender _ n (clampInt 0 1023 x) false = _
  unfold State.sampleSender
  rw [State.withMeas_meas, Record.take_completed hlen]
  rfl

/-- Settles O34: the band by the words of the entry, the dimmer value by its clamp, and the completed block by what its
readers leave and the hand-ons keep. -/
theorem senderBlockJudged : Obligations.SenderBlockJudged := by
  refine ⟨fun e r h => ⟨fun p => (SenderEntry.bandOf_eq_some_iff h r p).trans
    (and_congr_right fun _ => and_assoc), SenderEntry.bandOf_eq_none_iff h r⟩, ?_, ?_⟩
  · rintro e r rzero rfull rfl rfl -
    exact dimmerValue_eq e r
  · rintro s n x _ _ _ _ w' _ _ fault hu hs rfl hc rfl rfl rfl rfl rfl hw hfault
    obtain ⟨b, hnext⟩ := execSample_sender hu hs hc x
    set r := s.meas.senders[n].completed (max 0 (min 1023 x))
    have hget : (s.senderSampled n (max 0 (min 1023 x))).meas.senders[n] = r := by simp [State.senderSampled, r]
    obtain ⟨ctl, requests, fanStep, dimmer, hcompleted, hquiet⟩ :=
      State.senderCompleted_frame hget.symm (SenderSwitch.next_eq hw).symm
    have hon := State.settle_handedOn ((s.senderSampled n (max 0 (min 1023 x))).senderCompleted n) b false
    have hrecord : (((s.senderSampled n (max 0 (min 1023 x))).senderCompleted n).settle b false).meas.senders[n] =
        r.judge := by
      rw [hon.meas.senders, hcompleted]; simp
    have hopen := r.judge_openCount
    have hshort := r.judge_shortCount
    have hdue : senderFaultDue s.cfg.senders[n] r r.judge s.sw.senders[n] w' = fault := by
      rw [Bool.eq_iff_iff, senderFaultDue_iff, hfault, hopen, hshort]
      rfl
    refine ⟨_, hnext, ?_, ?_, ?_, ?_, ?_, ?_, fun hchanged hstandby => ?_⟩
    · rw [hrecord, hopen]; rfl
    · rw [hrecord, hshort]; rfl
    · rw [hrecord, r.judge_openFlag, hopen]; rfl
    · rw [hrecord, r.judge_shortFlag, hshort]; rfl
    · rw [hon.sw, hcompleted]; rfl
    · rw [hon.faults, hcompleted, ← hdue]; rfl
    · have hcfg : ((s.senderSampled n (max 0 (min 1023 x))).senderCompleted n).cfg = s.cfg := by rw [hcompleted]; rfl
      rw [← hcfg]
      refine State.settle_quiet_full ?_ hstandby
      rw [hcfg, hcompleted]
      exact hquiet ((SenderSwitch.changed_iff _ _).mpr hchanged)

end Sys2Proof.Machine
end

section
/-! PROOFS. The sample of a slot: what it puts in its input's record, and the sample that joins an
unfinished block (R63 to R66, R69). -/

namespace Sys2Proof.Machine

/-! ## Slots and readings (R63, R64) -/

/-- The lower end of an input's range (R64). -/
def SlotInput.low : SlotInput → Int
  | .die => -40
  | .battery => -600
  | .supply | .channel _ | .sender _ => 0

/-- The upper end of an input's range (R64). -/
def SlotInput.high : SlotInput → Int
  | .supply => 2000
  | .die => 160
  | .battery => 600
  | .channel _ => 400
  | .sender _ => 1023

theorem slotInput_eq_supply_iff {k : Nat} (hk : k ≤ 14) : slotInput k = .supply ↔ k = 0 := by
  revert k; decide

theorem slotInput_eq_battery_iff {k : Nat} (hk : k ≤ 14) : slotInput k = .battery ↔ k = 2 := by
  revert k; decide

theorem slotInput_channel (i : Fin 8) : slotInput (3 + i.val) = .channel i := by revert i; decide

theorem nextSlot_eq {k : Nat} (hk : k ≤ 14) (shunt : Bool) : nextSlot shunt k =
    if k = 1 ∧ shunt = false then some 3 else if k = 14 then none else some (k + 1) := by
  have h14 : 14 ≤ k ↔ k = 14 := by omega
  simp only [nextSlot, h14]

/-- A reading is clamped to its input's range, and marked beyond it but for a sender's (R64). -/
theorem takeReading_eq {k : Nat} (hk : k ≤ 14) (x : Int) : takeReading (slotInput k) x =
    (max (slotInput k).low (min (slotInput k).high x),
      decide ((x < (slotInput k).low ∨ (slotInput k).high < x) ∧ k ≤ 10)) := by
  have hkind : (∃ n, slotInput k = .sender n) ↔ ¬k ≤ 10 := by revert k; decide
  cases h : slotInput k with
  | sender n =>
    have hsender := hkind.mp ⟨n, h⟩
    simp [takeReading, SlotInput.low, SlotInput.high, clampInt_eq_max_min, hsender]
  | supply | die | battery | channel =>
    have hk10 : k ≤ 10 := by
      by_contra hc
      obtain ⟨n, hn⟩ := hkind.mpr hc
      rw [h] at hn; cases hn
    simp [takeReading, SlotInput.low, SlotInput.high, clampInt_eq_max_min, hk10]

/-- The state with the pass gone on to a slot (R63). -/
def State.onSlot (s : State) (next : Option Nat) : State := { s with meas := { s.meas with slot := next } }

theorem execSample_next {s : State} {k : Nat} (hu : s.up = true) (hs : s.meas.slot = some k) (hk : k ≤ 14) (x : Int) :
    exec (.sample x) s = .next ((s.onSlot (if k = 1 ∧ s.cfg.shunt = false then some 3
      else if k = 14 then none else some (k + 1))).sampleInput (slotInput k)
        (max (slotInput k).low (min (slotInput k).high x))
        (decide ((x < (slotInput k).low ∨ (slotInput k).high < x) ∧ k ≤ 10))) := by
  show execSample x s = _
  unfold execSample
  rw [hs]
  dsimp only
  rw [if_pos hu, takeReading_eq hk, nextSlot_eq hk]
  rfl

/-! ## The record of an input (R66) -/

/-- The Measurement Unit with the record of one input replaced. -/
def Measurement.setRecord (m : Measurement) (input : SlotInput) (r : Record) : Measurement :=
  match input with
  | .supply => { m with supply := r }
  | .die => { m with die := r }
  | .battery => { m with battery := r }
  | .channel i => { m with channels := m.channels.set i { m.channels[i] with base := r } }
  | .sender n => { m with senders := m.senders.set n { m.senders[n] with base := r } }

@[simp] theorem State.onSlot_record (s : State) (next : Option Nat) (input : SlotInput) :
    (s.onSlot next).meas.record input = s.meas.record input := by cases input <;> rfl

theorem getElem_set_fin {α : Type} {n : Nat} (v : Vector α n) (i j : Fin n) (x : α) :
    (v.set i x)[j] = if j = i then x else v[j] := by
  simp only [Fin.getElem_fin, Vector.getElem_set, Fin.ext_iff, eq_comm]

theorem Measurement.record_setRecord (m : Measurement) (input other : SlotInput) (r : Record) :
    (m.setRecord input r).record other = if other = input then r else m.record other := by
  cases input with
  | supply | die | battery => cases other <;> rfl
  | channel i =>
    cases other with
    | channel j =>
      simp only [Measurement.setRecord, Measurement.record, getElem_set_fin, SlotInput.channel.injEq]
      split
      · rfl
      · rfl
    | supply | die | battery | sender => rfl
  | sender n =>
    cases other with
    | sender k =>
      simp only [Measurement.setRecord, Measurement.record, getElem_set_fin, SlotInput.sender.injEq]
      split
      · rfl
      · rfl
    | supply | die | battery | channel => rfl

/-- The supply minimum's latest sample after a supply sample: the lowest of the block so far (R69). -/
def Measurement.lowest (m : Measurement) (x : Int) : Int := if m.supply.count = 0 then x else min m.minLatest x

/-- The Measurement Unit with a sample taken into its input's record, before any reader acts on it (R64 to R66, R69). -/
def Measurement.sampled (m : Measurement) (input : SlotInput) (len : Nat) (x : Int) (beyond : Bool) : Measurement :=
  match input with
  | .supply => { m with
      supply := (m.supply.take len x beyond).1, minLatest := m.lowest x
      minAvg := if (m.supply.take len x beyond).2 then m.lowest x else m.minAvg }
  | other => m.setRecord other ((m.record other).take len x beyond).1

section
variable (m : Measurement) (input : SlotInput) (len : Nat) (x : Int) (beyond : Bool)

theorem Measurement.record_sampled (other : SlotInput) : (m.sampled input len x beyond).record other =
    if other = input then ((m.record input).take len x beyond).1 else m.record other := by
  cases input with
  | supply => cases other <;> rfl
  | die | battery | channel | sender => exact m.record_setRecord _ other _

@[simp] theorem Measurement.sampled_slot : (m.sampled input len x beyond).slot = m.slot := by cases input <;> rfl

@[simp] theorem Measurement.sampled_passTimer : (m.sampled input len x beyond).passTimer = m.passTimer := by
  cases input <;> rfl

theorem Measurement.sampled_minLatest : (m.sampled input len x beyond).minLatest =
    if input = .supply then m.lowest x else m.minLatest := by cases input <;> rfl

theorem Measurement.sampled_minAvg : (m.sampled input len x beyond).minAvg =
    if input = .supply ∧ ((m.record input).take len x beyond).2 = true then m.lowest x else m.minAvg := by
  cases input with
  | supply => simp [Measurement.sampled, Measurement.record]
  | die | battery | channel | sender => rfl

theorem Measurement.sampled_mark (i : Fin 8) : (m.sampled input len x beyond).channels[i].mark = m.channels[i].mark := by
  cases input with
  | channel j =>
    simp only [Measurement.sampled, Measurement.setRecord, getElem_set_fin]
    split
    · rename_i h; rw [h]
    · rfl
  | supply | die | battery | sender => rfl

theorem Measurement.sampled_sender (n : Fin 4) : (m.sampled input len x beyond).senders[n] =
    { m.senders[n] with base := (m.sampled input len x beyond).senders[n].base } := by
  cases input with
  | sender k =>
    simp only [Measurement.sampled, Measurement.setRecord, getElem_set_fin]
    split
    · rename_i h; rw [h]
    · rfl
  | supply | die | battery | channel => rfl

end

/-! ## A sample in an unfinished block (R65) -/

/-- A sample that leaves its block unfinished joins it (R65, R66). -/
theorem Record.take_joined {r : Record} {len : Nat} (h : r.count + 1 < len) (x : Int) (beyond : Bool) :
    r.take len x beyond = ({ r with
      latest := x, latestOver := beyond, sum := r.sum + x, count := r.count + 1, sumOver := r.sumOver || beyond }, false) :=
  if_neg (by omega)

/-- A sample that neither completes its block nor trips its channel goes into the record alone. -/
theorem State.sampleInput_joined {s : State} {input : SlotInput} {x : Int} {beyond : Bool} (hb : input.Unfinished s)
    (hshunt : input = .battery → s.cfg.shunt = true)
    (htrip : ∀ i, input = .channel i → (exceedsHard s.cfg.channels[i] x beyond && s.hardApplies i) = false) :
    s.sampleInput input x beyond = s.withMeas (s.meas.sampled input (input.blockLength s.cfg.ni) x beyond) := by
  have hdone : ¬((s.meas.record input).take (input.blockLength s.cfg.ni) x beyond).2 = true := by
    rw [Record.take_joined hb]; exact Bool.false_ne_true
  cases input with
  | supply => exact if_neg hdone
  | die => exact if_neg hdone
  | battery => exact (if_pos (hshunt rfl)).trans (if_neg hdone)
  | sender n => exact if_neg hdone
  | channel i =>
    show s.sampleChannel i x beyond = _
    unfold State.sampleChannel
    dsimp only
    rw [htrip i rfl]
    exact (if_neg hdone).trans (if_neg hdone)

/-- The clamped reading and its mark do not exceed a hard limit that the reading itself does not. -/
theorem exceedsHard_eq_false {e : ChannelEntry} {x : Int} (h0 : 0 ≤ x) (hh : x ≤ e.hardLimit) (h4 : x ≤ 400)
    {beyond : Bool} (hb : beyond = false) : exceedsHard e (max 0 (min 400 x)) beyond = false := by
  simp only [exceedsHard, hb, Bool.false_or, decide_eq_false_iff_not]
  omega

/-- Settles O31: a pass begins at slot 0, and a sample that trips nothing goes into its record and leaves the rest. -/
theorem sampleJoinsBlock : Obligations.SampleJoinsBlock := by
  refine ⟨fun s hu hp => congrArg Host.Outcome.next (if_pos ⟨hu, hp⟩), ?_⟩
  intro s k x input lo hi hu hs hk hshunt hinput hb hlo hhi htrip
  have hlow : lo = input.low := by rw [hlo]; cases input <;> rfl
  have hhigh : hi = input.high := by rw [hhi]; cases input <;> rfl
  clear hlo hhi
  subst hinput hlow hhigh
  set next := (if k = 1 ∧ s.cfg.shunt = false then some 3 else if k = 14 then none else some (k + 1)) with hn
  have hb' : (slotInput k).Unfinished (s.onSlot next) := by
    unfold SlotInput.Unfinished; rw [State.onSlot_record]; exact hb
  have hnext := execSample_next hu hs hk x
  rw [State.sampleInput_joined hb' (fun h => hshunt ((slotInput_eq_battery_iff hk).mp h)) ?_] at hnext
  · have htake := fun v beyond => Record.take_joined (r := s.meas.record (slotInput k)) hb v beyond
    refine ⟨_, hnext, Measurement.sampled_slot .., ?_, fun other ho => ?_, ?_, ?_, ?_, ?_, ?_⟩
    · rw [Measurement.record_sampled, if_pos rfl, State.onSlot_record]
      exact congrArg Prod.fst (htake _ _)
    · rw [Measurement.record_sampled, if_neg ho, State.onSlot_record]
    · rw [Measurement.sampled_minLatest, if_congr (slotInput_eq_supply_iff hk) rfl rfl]; rfl
    · exact Measurement.sampled_mark _ _ _ _ _
    · exact Measurement.sampled_sender _ _ _ _ _
    · rw [Measurement.sampled_minAvg, if_neg]
      · rfl
      · rintro ⟨-, hdone⟩
        rw [State.onSlot_record] at hdone
        exact absurd ((congrArg Prod.snd (htake _ _)).symm.trans hdone) Bool.false_ne_true
    · exact Measurement.sampled_passTimer ..
  · intro i hi
    rcases htrip i hi with h | ⟨h0, hh, h4⟩
    · rw [Bool.and_eq_false_iff]; exact .inr h
    · rw [hi]
      have hin : ¬((x < 0 ∨ 400 < x) ∧ k ≤ 10) := by omega
      exact Bool.and_eq_false_iff.mpr (.inl (exceedsHard_eq_false h0 hh h4 (decide_eq_false hin)))

end Sys2Proof.Machine
end

section
/-! PROOFS. The sample that completes a block: what its readers and the hand-ons leave of every record (R64 to R67, R69, R75). -/

namespace Sys2Proof.Machine

/-! ## What the readers of a completed block leave (R67) -/

/-- What the readers of a completed block leave: every record's values, the pass, and the blocks beside the channels, the fan,
the Flasher, the Supply Manager, the sender inputs and the Fault List. -/
structure ReadersLeave (s u : State) (input : SlotInput) : Prop where
  pins      : u.pins = s.pins
  store     : u.store = s.store
  cfg       : u.cfg = s.cfg
  peers     : u.peers = s.peers
  gauges    : u.gauges = s.gauges
  svc       : u.svc = s.svc
  pending   : u.pending = s.pending
  slot      : u.meas.slot = s.meas.slot
  passTimer : u.meas.passTimer = s.meas.passTimer
  minLatest : u.meas.minLatest = s.meas.minLatest
  minAvg    : u.meas.minAvg = s.meas.minAvg
  record    : ∀ other, u.meas.record other = s.meas.record other
  senders   : ∀ n, input ≠ .sender n → u.meas.senders[n] = s.meas.senders[n]

/-- A reader that leaves the Measurement Unit. -/
theorem ReadersLeave.of_frame {s u : State} {input : SlotInput} (h : ∃ out flash supply fan faults, u = { s with
    out := out, flash := flash, supply := supply, fan := fan, faults := faults }) : ReadersLeave s u input := by
  obtain ⟨_, _, _, _, _, rfl⟩ := h
  exact ⟨rfl, rfl, rfl, rfl, rfl, rfl, rfl, rfl, rfl, rfl, rfl, fun _ => rfl, fun _ _ => rfl⟩

theorem ReadersLeave.trans {s t u : State} {input : SlotInput} (h : ReadersLeave s t input) (k : ReadersLeave t u input) :
    ReadersLeave s u input where
  pins := k.pins.trans h.pins
  store := k.store.trans h.store
  cfg := k.cfg.trans h.cfg
  peers := k.peers.trans h.peers
  gauges := k.gauges.trans h.gauges
  svc := k.svc.trans h.svc
  pending := k.pending.trans h.pending
  slot := k.slot.trans h.slot
  passTimer := k.passTimer.trans h.passTimer
  minLatest := k.minLatest.trans h.minLatest
  minAvg := k.minAvg.trans h.minAvg
  record other := (k.record other).trans (h.record other)
  senders n hn := (k.senders n hn).trans (h.senders n hn)

theorem ReadersLeave.ite {s a b : State} {input : SlotInput} {p : Prop} [Decidable p] (ha : ReadersLeave s a input)
    (hb : ReadersLeave s b input) : ReadersLeave s (if p then a else b) input := by
  split
  · exact ha
  · exact hb

theorem ReadersLeave.refl (s : State) (input : SlotInput) : ReadersLeave s s input := .of_frame ⟨_, _, _, _, _, rfl⟩

theorem State.judgeThermal_leaves (s : State) (input : SlotInput) : ReadersLeave s s.judgeThermal input := by
  unfold State.judgeThermal
  exact .ite (.ite (.of_frame ⟨_, _, _, _, _, rfl⟩) (.refl _ _)) (.ite (.of_frame ⟨_, _, _, _, _, rfl⟩) (.refl _ _))

theorem State.trip_frame (s : State) (i : Fin 8) :
    s.trip i = { s with out := (s.trip i).out, fan := (s.trip i).fan, faults := (s.trip i).faults } := by
  unfold State.trip
  dsimp only
  split
  · split <;> rfl
  · split <;> rfl

theorem State.judgeStall_frame (s : State) (i : Fin 8) : s.judgeStall i = { s with fan := (s.judgeStall i).fan } := by
  unfold State.judgeStall; split <;> rfl

theorem State.bulbOut_frame (s : State) (x : Side) :
    s.bulbOut x = { s with flash := (s.bulbOut x).flash, faults := (s.bulbOut x).faults } := by
  cases x <;> (unfold State.bulbOut; dsimp only; split <;> rfl)

/-- The mark of a completed directed block ends (R76). -/
def State.endMark (s : State) (i : Fin 8) : State :=
  s.withMeas { s.meas with channels := s.meas.channels.set i { s.meas.channels[i] with mark := .none } }

theorem State.endMark_leaves (s : State) (i : Fin 8) (input : SlotInput) : ReadersLeave s (s.endMark i) input where
  pins := rfl
  store := rfl
  cfg := rfl
  peers := rfl
  gauges := rfl
  svc := rfl
  pending := rfl
  slot := rfl
  passTimer := rfl
  minLatest := rfl
  minAvg := rfl
  record other := by
    cases other with
    | channel j =>
      simp only [State.endMark, State.withMeas_meas, Measurement.record, getElem_set_fin]
      split
      · rename_i h; rw [h]
      · rfl
    | supply | die | battery | sender => rfl
  senders _ _ := rfl

theorem State.checkBulb_leaves (s : State) (i : Fin 8) (input : SlotInput) : ReadersLeave s (s.checkBulb i) input := by
  have hend := s.endMark_leaves i input
  exact .ite (.ite (hend.trans (.of_frame ⟨_, _, _, _, _, State.bulbOut_frame _ _⟩)) hend) (.refl _ _)

theorem State.currentCompleted_leaves (s : State) (i : Fin 8) (input : SlotInput) :
    ReadersLeave s (s.currentCompleted i) input := by
  have hcompare : ReadersLeave s (s.compareCurrent i) input := .of_frame ⟨_, _, _, _, _, rfl⟩
  have hstall : ReadersLeave (s.compareCurrent i) ((s.compareCurrent i).judgeStall i) input :=
    .of_frame ⟨_, _, _, _, _, State.judgeStall_frame _ _⟩
  exact (hcompare.trans hstall).trans (State.checkBulb_leaves _ i input)

theorem State.senderCompleted_leaves (s : State) (n : Fin 4) : ReadersLeave s (s.senderCompleted n) (.sender n) := by
  obtain ⟨ctl, requests, fanStep, dimmer, h, -⟩ := State.senderCompleted_frame (s := s) (n := n) rfl rfl
  rw [h]
  refine ⟨rfl, rfl, rfl, rfl, rfl, rfl, rfl, rfl, rfl, rfl, rfl, fun other => ?_, fun k hk => ?_⟩
  · cases other with
    | sender k =>
      simp only [Measurement.record, getElem_set_fin]
      split
      · rename_i h; rw [h]; rfl
      · rfl
    | supply | die | battery | channel => rfl
  · rw [getElem_set_fin, if_neg fun h => hk (by rw [h])]

theorem Measurement.sampled_sender_of_ne (m : Measurement) (input : SlotInput) (len : Nat) (x : Int) (beyond : Bool) {n : Fin 4}
    (h : input ≠ .sender n) : (m.sampled input len x beyond).senders[n] = m.senders[n] := by
  have hbase : (m.sampled input len x beyond).record (.sender n) = m.record (.sender n) := by
    rw [Measurement.record_sampled, if_neg h.symm]
  rw [Measurement.sampled_sender]
  exact congrArg (fun r => { m.senders[n] with base := r }) hbase

/-- The sample that completes a block: its readers act on the record it left, and the hand-ons follow. -/
theorem State.sampleInput_completed {s : State} {input : SlotInput} (x : Int) (beyond : Bool)
    (hb : input.blockLength s.cfg.ni ≤ (s.meas.record input).count + 1)
    (hshunt : input = .battery → s.cfg.shunt = true) : ∃ u, s.sampleInput input x beyond = u.settle s false ∧
      ReadersLeave (s.withMeas (s.meas.sampled input (input.blockLength s.cfg.ni) x beyond)) u input := by
  have hdone : ((s.meas.record input).take (input.blockLength s.cfg.ni) x beyond).2 = true := by
    rw [Record.take_completed hb]
  cases input with
  | supply => exact ⟨_, if_pos hdone, .of_frame ⟨_, _, _, _, _, rfl⟩⟩
  | die => exact ⟨_, if_pos hdone, State.judgeThermal_leaves _ _⟩
  | battery => exact ⟨_, (if_pos (hshunt rfl)).trans (if_pos hdone), .of_frame ⟨_, _, _, _, _, rfl⟩⟩
  | sender n => exact ⟨_, if_pos hdone, State.senderCompleted_leaves _ n⟩
  | channel i =>
    have htrip (t : State) (p : Bool) : ReadersLeave t (if p = true then t.trip i else t) (.channel i) :=
      .ite (.of_frame ⟨_, _, _, _, _, State.trip_frame t i⟩) (.refl _ _)
    refine ⟨_, if_pos (Bool.or_eq_true_iff.mpr (.inr hdone)), ?_⟩
    exact (htrip _ _).trans (.ite (State.currentCompleted_leaves _ i _) (.refl _ _))

/-! ## What the hand-ons leave of a record (R75) -/

theorem State.settle_meas (s b : State) (x : Bool) : (s.settle b x).meas =
    ((s.stageUnion.stageSupply s.res.ign).stageFlasher.1.stageEffective.stageChannels
      (x || (s.stageUnion.stageSupply s.res.ign).stageFlasher.2)).meas := by
  unfold State.settle State.stageLoads; simp

theorem State.enterFlashOn_base (s : State) (x : SideSet) (k : OnEntry) (i : Fin 8) :
    (s.enterFlashOn x k).meas.channels[i].base = s.meas.channels[i].base := by
  have harm : (s.armMarks x).meas.channels[i].base = s.meas.channels[i].base := by simp [State.armMarks]
  have hrequest (t : State) (ht : t.meas = (s.armMarks x).meas) :
      (t.requestFlash x).meas.channels[i].base = s.meas.channels[i].base := by
    obtain ⟨_, h⟩ := State.requestFlash_frame t x
    rw [h, ht]; exact harm
  cases k with
  | start | expiry | change => exact hrequest _ rfl
  | align => exact harm

theorem State.stageFlasher_base (s : State) (i : Fin 8) :
    s.stageFlasher.1.meas.channels[i].base = s.meas.channels[i].base := by
  unfold State.stageFlasher
  dsimp only
  split
  · rfl
  · split
    · show s.clearMarks.meas.channels[i].base = _
      simp [State.clearMarks]
    · split
      · exact State.enterFlashOn_base _ _ _ i
      · exact State.enterFlashOn_base _ _ _ i

/-- The hand-ons leave an empty block empty: they restart a block at most (R75). -/
theorem State.settle_emptied {u : State} {input : SlotInput} (hs : (u.meas.record input).sum = 0)
    (hc : (u.meas.record input).count = 0) (b : State) (x : Bool) :
    ((u.settle b x).meas.record input).sum = 0 ∧ ((u.settle b x).meas.record input).count = 0 := by
  have hkept := (State.settle_handedOn u b x).meas
  cases input with
  | supply => simp only [Measurement.record, hkept.supply]; exact ⟨hs, hc⟩
  | die => simp only [Measurement.record, hkept.die]; exact ⟨hs, hc⟩
  | battery => simp only [Measurement.record, hkept.battery]; exact ⟨hs, hc⟩
  | sender n => simp only [Measurement.record, hkept.senders]; exact ⟨hs, hc⟩
  | channel i =>
    have hbase := State.stageFlasher_base (u.stageUnion.stageSupply u.res.ign) i
    rw [State.stageSupply_meas, State.stageUnion_meas] at hbase
    simp only [Measurement.record, State.settle_meas, State.stageChannels, State.withOut_meas, State.withMeas_meas,
      Fin.getElem_fin, Vector.getElem_ofFn]
    unfold State.restartIfArmed
    dsimp only
    split
    · exact ⟨rfl, rfl⟩
    · exact ⟨(congrArg Record.sum hbase).trans hs, (congrArg Record.count hbase).trans hc⟩

/-- What the hand-ons leave of an input's record: what it gives to its readers. -/
theorem MeasKept.record {m n : Measurement} (h : MeasKept m n) (input : SlotInput) :
    (n.record input).latest = (m.record input).latest ∧ (n.record input).latestOver = (m.record input).latestOver ∧
      (n.record input).avg = (m.record input).avg ∧ (n.record input).valid = (m.record input).valid ∧
      (n.record input).overRange = (m.record input).overRange := by
  cases input with
  | supply => simp only [Measurement.record, h.supply, and_self]
  | die => simp only [Measurement.record, h.die, and_self]
  | battery => simp only [Measurement.record, h.battery, and_self]
  | sender n => simp only [Measurement.record, h.senders, and_self]
  | channel i => exact ⟨h.latest i, h.marked i, h.avg i, h.valid i, h.overRange i⟩

/-- Settles O32: the sample leaves the mean of its block, and its readers and the hand-ons leave every record's values. -/
theorem sampleCompletesBlock : Obligations.SampleCompletesBlock := by
  intro s k x input lo hi beyond hu hs hk hshunt hinput hb hlo hhi hbeyond
  have hlow : lo = input.low := by rw [hlo]; cases input <;> rfl
  have hhigh : hi = input.high := by rw [hhi]; cases input <;> rfl
  clear hlo hhi
  subst hinput hlow hhigh hbeyond
  set next := (if k = 1 ∧ s.cfg.shunt = false then some 3 else if k = 14 then none else some (k + 1))
  set v := max (slotInput k).low (min (slotInput k).high x)
  set beyond := decide ((x < (slotInput k).low ∨ (slotInput k).high < x) ∧ k ≤ 10)
  set len := (slotInput k).blockLength s.cfg.ni
  obtain ⟨u, hsample, hleave⟩ := State.sampleInput_completed (s := s.onSlot next) v beyond
    (by rw [State.onSlot_record]; exact hb) (fun h => hshunt ((slotInput_eq_battery_iff hk).mp h))
  have hon := State.settle_handedOn u (s.onSlot next) false
  have hkept := hon.meas.record
  have htake := Record.take_completed hb v beyond
  have hrecord : u.meas.record (slotInput k) =
      ⟨v, beyond, roundDiv ((s.meas.record (slotInput k)).sum + v) len, true,
        (s.meas.record (slotInput k)).sumOver || beyond, 0, 0, false⟩ := by
    rw [hleave.record, State.withMeas_meas, Measurement.record_sampled, if_pos rfl, State.onSlot_record]
    exact congrArg Prod.fst htake
  obtain ⟨hlatest, hover, havg, hvalid, hrange⟩ := hkept (slotInput k)
  rw [hrecord] at hlatest hover havg hvalid hrange
  obtain ⟨hsum, hcount⟩ := State.settle_emptied (u := u) (input := slotInput k) (by rw [hrecord]) (by rw [hrecord])
    (s.onSlot next) false
  have hminimum : u.meas.minAvg = (if k = 0 then s.meas.lowest v else s.meas.minAvg) ∧
      u.meas.minLatest = (if k = 0 then s.meas.lowest v else s.meas.minLatest) := by
    have hdone : (((s.onSlot next).meas.record (slotInput k)).take len v beyond).2 = true := by
      rw [State.onSlot_record, htake]
    constructor
    · rw [hleave.minAvg, State.withMeas_meas, Measurement.sampled_minAvg]
      refine if_congr ?_ rfl rfl
      rw [slotInput_eq_supply_iff hk]
      exact and_iff_left hdone
    · rw [hleave.minLatest, State.withMeas_meas, Measurement.sampled_minLatest]
      exact if_congr (slotInput_eq_supply_iff hk) rfl rfl
  refine ⟨_, (execSample_next hu hs hk x).trans (congrArg Host.Outcome.next hsample), hlatest, hover, havg, hvalid, hrange,
    hsum, hcount, fun other ho => ?_, fun n hn => ?_, fun h0 => ?_, fun h0 => ?_, ?_, ?_, hon.pins.trans hleave.pins,
    hon.store.trans hleave.store, hon.cfg.trans hleave.cfg, hon.peers.trans hleave.peers, hon.gauges.trans hleave.gauges,
    hon.svc.trans hleave.svc, hon.pending.trans hleave.pending⟩
  · have hother : u.meas.record other = s.meas.record other := by
      rw [hleave.record, State.withMeas_meas, Measurement.record_sampled, if_neg ho, State.onSlot_record]
    rw [← hother]; exact hkept other
  · rw [hon.meas.senders, hleave.senders n hn, State.withMeas_meas, Measurement.sampled_sender_of_ne _ _ _ _ _ hn]
    rfl
  · rw [hon.meas.minAvg, hminimum.1, if_pos h0]; rfl
  · rw [hon.meas.minAvg, hon.meas.minLatest, hminimum.1, hminimum.2, if_neg h0, if_neg h0]
    exact ⟨rfl, rfl⟩
  · rw [hon.meas.passTimer, hleave.passTimer]; exact Measurement.sampled_passTimer ..
  · rw [hon.meas.slot, hleave.slot]; exact Measurement.sampled_slot ..

end Sys2Proof.Machine
end

section
/-! PROOFS. The current sample of a channel: the block it joins or completes, the trip, and the bulb check (R64 to R66, R72, R76,
R92, R93, R95, R103, R116, R151). -/

namespace Sys2Proof.Machine

/-! ## Where the limits apply (R86, R92, R93) -/

theorem State.isMotor_iff (s : State) (i : Fin 8) : s.isMotor i = true ↔ s.cfg.channels[i].kind = .motor := decide_eq_true_iff

theorem State.isMotor_eq_false_iff (s : State) (i : Fin 8) : s.isMotor i = false ↔ s.cfg.channels[i].kind ≠ .motor :=
  decide_eq_false_iff_not

theorem State.hardApplies_motor {s : State} {i : Fin 8} (h : s.cfg.channels[i].kind = .motor) : s.hardApplies i = true ↔
    s.fan.state = .ramping ∨ s.fan.state = .running ∨ s.fan.state = .test := by
  simp [State.hardApplies, State.active, (s.isMotor_iff i).mpr h, or_assoc]

theorem State.hardApplies_other {s : State} {i : Fin 8} (h : s.cfg.channels[i].kind ≠ .motor) : s.hardApplies i = true ↔
    s.out.channels[i].state = .inrush ∨ s.out.channels[i].state = .on ∨ s.out.channels[i].state = .test := by
  simp [State.hardApplies, State.active, (s.isMotor_eq_false_iff i).mpr h, or_assoc]

theorem State.overApplies_motor {s : State} {i : Fin 8} (h : s.cfg.channels[i].kind = .motor) : s.overApplies i = true ↔
    s.fan.state = .test := by
  simp [State.overApplies, (s.isMotor_iff i).mpr h]

theorem State.overApplies_other {s : State} {i : Fin 8} (h : s.cfg.channels[i].kind ≠ .motor) : s.overApplies i = true ↔
    s.out.channels[i].state = .on ∨ s.out.channels[i].state = .test := by
  simp [State.overApplies, (s.isMotor_eq_false_iff i).mpr h]

/-! ## The trip (R95, R103, R151) -/

section
variable {s : State} {i : Fin 8}

theorem State.trip_motorTest (hm : s.cfg.channels[i].kind = .motor) (hf : s.fan.state = .test) : s.trip i =
    ((s.setChannel i (s.out.channels[i].endTest .tripped)).withFan (s.fan.rest .off)).addFault .trip (some i.val) := by
  unfold State.trip
  dsimp only
  rw [if_pos ((s.isMotor_iff i).mpr hm), if_pos hf]

theorem State.trip_motor (hm : s.cfg.channels[i].kind = .motor) (hf : s.fan.state ≠ .test) : s.trip i =
    ((s.setChannel i { s.out.channels[i] with
        duty := 0, retry := satInc 255 s.out.channels[i].retry, overTimer := none }).withFan
      (s.fan.trip (tripWait s.cfg.channels[i] (satInc 255 s.out.channels[i].retry)))).addFault .trip (some i.val) := by
  unfold State.trip
  dsimp only
  rw [if_pos ((s.isMotor_iff i).mpr hm), if_neg hf]

theorem State.trip_test (hm : s.cfg.channels[i].kind ≠ .motor) (hc : s.out.channels[i].state = .test) : s.trip i =
    (s.setChannel i (s.out.channels[i].endTest .tripped)).addFault .trip (some i.val) := by
  unfold State.trip
  dsimp only
  rw [if_neg (mt (s.isMotor_iff i).mp hm), if_pos hc]

theorem State.trip_other (hm : s.cfg.channels[i].kind ≠ .motor) (hc : s.out.channels[i].state ≠ .test) : s.trip i =
    (s.setChannel i (s.out.channels[i].trip s.cfg.channels[i])).addFault .trip (some i.val) := by
  unfold State.trip
  dsimp only
  rw [if_neg (mt (s.isMotor_iff i).mp hm), if_neg hc]

end

/-- The four ways a channel trips: the Motor channel and any other, in Test and outside it. -/
theorem State.trip_ways (s : State) (i : Fin 8) :
    (s.cfg.channels[i].kind = .motor ∧ s.fan.state = .test) ∨ (s.cfg.channels[i].kind = .motor ∧ s.fan.state ≠ .test) ∨
      (s.cfg.channels[i].kind ≠ .motor ∧ s.out.channels[i].state = .test) ∨
      (s.cfg.channels[i].kind ≠ .motor ∧ s.out.channels[i].state ≠ .test) := by
  tauto

theorem State.trip_withMeas (s : State) (m : Measurement) (i : Fin 8) : (s.withMeas m).trip i = (s.trip i).withMeas m := by
  rcases s.trip_ways i with ⟨hm, hf⟩ | ⟨hm, hf⟩ | ⟨hm, hc⟩ | ⟨hm, hc⟩
  · rw [State.trip_motorTest hm hf, State.trip_motorTest (s := s.withMeas m) hm hf]; rfl
  · rw [State.trip_motor hm hf, State.trip_motor (s := s.withMeas m) hm hf]; rfl
  · rw [State.trip_test hm hc, State.trip_test (s := s.withMeas m) hm hc]; rfl
  · rw [State.trip_other hm hc, State.trip_other (s := s.withMeas m) hm hc]; rfl

theorem State.trip_faults (s : State) (i : Fin 8) : (s.trip i).faults = s.faults.add .trip (some i.val) s.ctl.clock := by
  rcases s.trip_ways i with ⟨hm, hf⟩ | ⟨hm, hf⟩ | ⟨hm, hc⟩ | ⟨hm, hc⟩
  · rw [State.trip_motorTest hm hf]; rfl
  · rw [State.trip_motor hm hf]; rfl
  · rw [State.trip_test hm hc]; rfl
  · rw [State.trip_other hm hc]; rfl

@[simp] theorem State.setChannel_get (s : State) (i : Fin 8) (c : Channel) : (s.setChannel i c).out.channels[i] = c := by
  simp [State.setChannel]

theorem Fan.trip_state (f : Fan) (wait : Timer) : (f.trip wait).state = .tripped ∨ (f.trip wait).state = .locked := by
  cases wait with
  | some _ => exact .inl rfl
  | none => exact .inr rfl

theorem Channel.trip_state (c : Channel) (e : ChannelEntry) : (c.trip e).state = .tripped ∨ (c.trip e).state = .locked := by
  unfold Channel.trip
  dsimp only
  split
  · exact .inl rfl
  · exact .inr rfl

/-- A channel that has tripped is past the over limit, the open-load check and stall detection. -/
theorem State.trip_inert (s : State) (i : Fin 8) : (s.cfg.channels[i].kind = .motor →
      (s.trip i).fan.state ≠ .test ∧ (s.trip i).fan.state ≠ .ramping ∧ (s.trip i).fan.state ≠ .running) ∧
    (s.cfg.channels[i].kind ≠ .motor →
      (s.trip i).out.channels[i].state ≠ .on ∧ (s.trip i).out.channels[i].state ≠ .test) := by
  rcases s.trip_ways i with ⟨hm, hf⟩ | ⟨hm, hf⟩ | ⟨hm, hc⟩ | ⟨hm, hc⟩
  · rw [State.trip_motorTest hm hf]; exact ⟨fun _ => ⟨nofun, nofun, nofun⟩, absurd hm⟩
  · rw [State.trip_motor hm hf]
    have h := s.fan.trip_state (tripWait s.cfg.channels[i] (satInc 255 s.out.channels[i].retry))
    refine ⟨fun _ => ?_, absurd hm⟩
    simp only [State.addFault_fan, State.withFan_fan]
    rcases h with h | h <;> rw [h] <;> decide
  · rw [State.trip_test hm hc]
    refine ⟨fun k => absurd k hm, fun _ => ?_⟩
    rw [State.addFault_out, State.setChannel_get]
    exact ⟨nofun, nofun⟩
  · rw [State.trip_other hm hc]
    refine ⟨fun k => absurd k hm, fun _ => ?_⟩
    rw [State.addFault_out, State.setChannel_get]
    rcases s.out.channels[i].trip_state s.cfg.channels[i] with h | h <;> rw [h] <;> decide

/-! ## The readers of a completed current block (R67, R93, R98, R150) -/

theorem State.openCheck_on {s : State} {i : Fin 8} (h : s.openCheck i = true) : s.out.channels[i].state = .on := by
  unfold State.openCheck at h
  simp only [Bool.and_eq_true, decide_eq_true_eq] at h
  exact h.1.1.1.1

/-- The comparisons leave a channel to which neither limit applies. -/
theorem State.compareCurrent_inert {s : State} {i : Fin 8} (ho : s.overApplies i = false)
    (hc : s.cfg.channels[i].kind ≠ .motor → s.openCheck i = false) : s.compareCurrent i = s := by
  have hcheck : ¬(s.isMotor i = false ∧ s.openCheck i = true) := fun ⟨hm, h⟩ => by
    rw [hc ((s.isMotor_eq_false_iff i).mp hm)] at h; cases h
  refine State.setChannel_self s i ?_
  rw [if_neg hcheck, if_neg (ne_true_of_eq_false ho)]

theorem State.judgeStall_inert {s : State} {i : Fin 8}
    (h : s.cfg.channels[i].kind = .motor → s.fan.state ≠ .ramping ∧ s.fan.state ≠ .running) : s.judgeStall i = s :=
  if_neg fun ⟨hm, hf, _⟩ => by
    obtain ⟨h1, h2⟩ := h ((s.isMotor_iff i).mp hm)
    exact hf.elim h1 h2

/-- The readers before the bulb check leave all but the channels and the fan. -/
theorem State.currentCompleted_eq (s : State) (i : Fin 8) : ∃ out fan,
    s.currentCompleted i = ({ s with out := out, fan := fan } : State).checkBulb i := by
  unfold State.currentCompleted
  rw [State.judgeStall_frame]
  exact ⟨_, _, rfl⟩

theorem State.checkBulb_unmarked {s : State} {i : Fin 8} (h : s.meas.channels[i].mark ≠ .restarted) : s.checkBulb i = s :=
  if_neg h

theorem State.checkBulb_above {s : State} {i : Fin 8} (h : s.meas.channels[i].mark = .restarted)
    (hv : (s.cfg.channels[i].openLimit : Int) ≤ s.meas.channels[i].base.avg) : s.checkBulb i = s.endMark i :=
  (if_pos h).trans (if_neg (by omega))

theorem State.checkBulb_below {s : State} {i : Fin 8} (h : s.meas.channels[i].mark = .restarted)
    (hv : s.meas.channels[i].base.avg < s.cfg.channels[i].openLimit) :
    s.checkBulb i = (s.endMark i).bulbOut s.cfg.channels[i].side :=
  (if_pos h).trans (if_pos hv)

/-! ## The sample of a channel's slot -/

/-- A current sample that completes its channel's block, before the readers: the directed mark stands (R64 to R66). -/
def Measurement.currentTaken (m : Measurement) (i : Fin 8) (x : Int) (ni : Nat) : Measurement :=
  { m with
    slot := some (4 + i.val)
    channels := m.channels.set i { m.channels[i] with base := {
      latest := max 0 (min 400 x), latestOver := decide (x < 0 ∨ 400 < x)
      avg := roundDiv (m.channels[i].base.sum + max 0 (min 400 x)) ni, valid := true
      overRange := m.channels[i].base.sumOver || decide (x < 0 ∨ 400 < x), sum := 0, count := 0, sumOver := false } } }

theorem Measurement.currentTaken_get (m : Measurement) (i : Fin 8) (x : Int) (ni : Nat) :
    (m.currentTaken i x ni).channels[i].mark = m.channels[i].mark ∧
      (m.currentTaken i x ni).channels[i].base.avg = roundDiv (m.channels[i].base.sum + max 0 (min 400 x)) ni ∧
      (m.currentTaken i x ni).channels[i].base.overRange =
        (m.channels[i].base.sumOver || decide (x < 0 ∨ 400 < x)) := by
  simp [Measurement.currentTaken]

/-- A bulb check that detects nothing ends the directed mark. -/
theorem State.checkBulb_taken {s : State} {m : Measurement} {i : Fin 8} {x : Int} {ni : Nat}
    (h : m.channels[i].mark = .restarted → (s.cfg.channels[i].openLimit : Int) ≤
      roundDiv (m.channels[i].base.sum + max 0 (min 400 x)) ni) :
    (s.withMeas (m.currentTaken i x ni)).checkBulb i = s.withMeas (m.currentCompleted i x ni) := by
  obtain ⟨hmark, havg, -⟩ := m.currentTaken_get i x ni
  by_cases hm : m.channels[i].mark = .restarted
  · rw [State.checkBulb_above (s := s.withMeas (m.currentTaken i x ni)) (hmark.trans hm) (havg.symm ▸ h hm)]
    simp [State.endMark, Measurement.currentTaken, Measurement.currentCompleted, State.withMeas,
      show m.channels[i.val].mark = _ from hm]
  · rw [State.checkBulb_unmarked (s := s.withMeas (m.currentTaken i x ni)) (hmark.symm ▸ hm)]
    simp only [Measurement.currentTaken, Measurement.currentCompleted, if_neg hm]

theorem exceedsHard_iff (e : ChannelEntry) (x : Int) :
    exceedsHard e (max 0 (min 400 x)) (decide (x < 0 ∨ 400 < x)) = true ↔ x < 0 ∨ 400 < x ∨ e.hardLimit < x := by
  simp only [exceedsHard, Bool.or_eq_true, decide_eq_true_eq]
  omega

/-- What the hand-ons compare with the state before the command does not include the pass. -/
theorem State.settle_onSlot (u s : State) (next : Option Nat) (x : Bool) : u.settle (s.onSlot next) x = u.settle s x := rfl

/-- The channel trips first, and the readers of a completed block and the hand-ons find it tripped. -/
theorem State.sampleChannel_eq {s : State} {i : Fin 8} {x : Int} {beyond trips done : Bool} {r : Record}
    (ht : (exceedsHard s.cfg.channels[i] x beyond && s.hardApplies i) = trips)
    (hr : s.meas.channels[i].base.take s.cfg.ni x beyond = (r, done)) (hp : (trips || done) = true) :
    s.sampleChannel i x beyond = (if done then
        ((if trips then s.trip i else s).withMeas (s.meas.setRecord (.channel i) r)).currentCompleted i
      else (if trips then s.trip i else s).withMeas (s.meas.setRecord (.channel i) r)).settle s false := by
  have htripped : (if trips = true then (s.withMeas (s.meas.setRecord (.channel i) r)).trip i
      else s.withMeas (s.meas.setRecord (.channel i) r)) =
      (if trips = true then s.trip i else s).withMeas (s.meas.setRecord (.channel i) r) := by
    split
    · exact State.trip_withMeas _ _ _
    · rfl
  unfold State.sampleChannel
  dsimp only
  rw [hr, ht, if_pos hp, ← htripped]
  rfl

/-- A current sample trips its channel at once where it exceeds the hard limit, and then joins or completes its block. -/
theorem execSample_channel {s : State} {i : Fin 8} (hu : s.up = true) (hs : s.meas.slot = some (3 + i.val)) (x : Int)
    {trips : Bool} (ht : trips = true ↔
      (x < 0 ∨ 400 < x ∨ s.cfg.channels[i].hardLimit < x) ∧ s.hardApplies i = true) :
    (s.meas.channels[i].base.count + 1 < s.cfg.ni → trips = true →
      exec (.sample x) s = .next (((s.trip i).withMeas (s.meas.currentJoined i x)).settle s false)) ∧
    (s.cfg.ni ≤ s.meas.channels[i].base.count + 1 → exec (.sample x) s = .next ((((if trips then s.trip i else s).withMeas
      (s.meas.currentTaken i x s.cfg.ni)).currentCompleted i).settle s false)) := by
  have hslot : (if 3 + i.val = 1 ∧ s.cfg.shunt = false then some 3 else if 3 + i.val = 14 then none
      else some (3 + i.val + 1)) = some (4 + i.val) := by
    rw [if_neg (by omega), if_neg (by omega), Nat.add_right_comm]
  have hbeyond : decide ((x < 0 ∨ 400 < x) ∧ 3 + i.val ≤ 10) = decide (x < 0 ∨ 400 < x) :=
    decide_eq_decide.mpr (and_iff_left (by omega))
  have hnext : exec (.sample x) s = .next ((s.onSlot (some (4 + i.val))).sampleChannel i (max 0 (min 400 x))
      (decide (x < 0 ∨ 400 < x))) := by
    rw [execSample_next hu hs (by omega) x, hslot, slotInput_channel, ← hbeyond]
    rfl
  have htrips : (exceedsHard s.cfg.channels[i] (max 0 (min 400 x)) (decide (x < 0 ∨ 400 < x)) && s.hardApplies i) =
      trips := by
    rw [Bool.eq_iff_iff, Bool.and_eq_true, exceedsHard_iff, ht]
  have htripped : (s.onSlot (some (4 + i.val))).trip i = (s.trip i).withMeas (s.onSlot (some (4 + i.val))).meas :=
    State.trip_withMeas s (s.onSlot (some (4 + i.val))).meas i
  refine ⟨fun hc h => hnext.trans (congrArg Host.Outcome.next ?_), fun hc => hnext.trans (congrArg Host.Outcome.next ?_)⟩
  · have hsample := State.sampleChannel_eq (s := s.onSlot (some (4 + i.val))) htrips (Record.take_joined hc _ _)
      (by rw [h]; rfl)
    rw [hsample, if_neg Bool.false_ne_true, h, if_pos rfl, htripped, State.settle_onSlot]
    rfl
  · have hsample := State.sampleChannel_eq (s := s.onSlot (some (4 + i.val))) htrips (Record.take_completed hc _ _)
      (Bool.or_true _)
    have htaken : (if trips = true then (s.trip i).withMeas (s.onSlot (some (4 + i.val))).meas
          else s.onSlot (some (4 + i.val))).withMeas
        ((s.onSlot (some (4 + i.val))).meas.setRecord (.channel i) ⟨max 0 (min 400 x), decide (x < 0 ∨ 400 < x),
          roundDiv (s.meas.channels[i].base.sum + max 0 (min 400 x)) s.cfg.ni, true,
          s.meas.channels[i].base.sumOver || decide (x < 0 ∨ 400 < x), 0, 0, false⟩) =
        (if trips = true then s.trip i else s).withMeas (s.meas.currentTaken i x s.cfg.ni) := by
      cases trips <;> rfl
    rw [hsample, if_pos rfl, htripped, htaken, State.settle_onSlot]

end Sys2Proof.Machine
end

section
/-! PROOFS. A channel that trips with its block beside it, and the bulb check of a directed block (R72, R76, R92, R95, R103,
R116, R151). -/

namespace Sys2Proof.Machine

/-! ## The trip and the block (R72, R92, R95, R103, R151) -/

theorem tripWait_within {e : ChannelEntry} {retry : Nat} (h : retry ≤ e.retryLimit) : tripWait e retry = some 1000 :=
  if_pos h

theorem tripWait_persist {e : ChannelEntry} {retry : Nat} (h : e.retryLimit < retry) (hx : e.exhaustion = .persist) :
    tripWait e retry = some 10000 := by
  unfold tripWait; rw [if_neg (by omega), hx]

theorem tripWait_latch {e : ChannelEntry} {retry : Nat} (h : e.retryLimit < retry) (hx : e.exhaustion = .latch) :
    tripWait e retry = none := by
  unfold tripWait; rw [if_neg (by omega), hx]

/-- The sample that completes the block of a channel that has tripped, where the bulb check detects nothing. -/
theorem State.currentCompleted_tripped {s : State} {i : Fin 8} {x : Int}
    (h : s.meas.channels[i].mark = .restarted → (s.cfg.channels[i].openLimit : Int) ≤
      roundDiv (s.meas.channels[i].base.sum + max 0 (min 400 x)) s.cfg.ni) :
    ((s.trip i).withMeas (s.meas.currentTaken i x s.cfg.ni)).currentCompleted i =
      (s.trip i).withMeas (s.meas.currentCompleted i x s.cfg.ni) := by
  have hcfg : (s.trip i).cfg = s.cfg := by rw [State.trip_frame]
  obtain ⟨hmotor, hother⟩ := s.trip_inert i
  rw [← hcfg] at hmotor hother
  have hbulb := State.checkBulb_taken (s := s.trip i) (m := s.meas) (x := x) (ni := s.cfg.ni) (by rw [hcfg]; exact h)
  set t := s.trip i
  set u := t.withMeas (s.meas.currentTaken i x s.cfg.ni)
  have hover : u.overApplies i = false := by
    rw [← Bool.not_eq_true]
    by_cases hm : t.cfg.channels[i].kind = .motor
    · rw [State.overApplies_motor (s := u) hm]; exact (hmotor hm).1
    · rw [State.overApplies_other (s := u) hm]; exact not_or.mpr (hother hm)
  have hcheck : u.cfg.channels[i].kind ≠ .motor → u.openCheck i = false := fun hm => by
    rw [← Bool.not_eq_true]
    exact fun k => (hother hm).1 (State.openCheck_on k)
  have hstall : u.judgeStall i = u := State.judgeStall_inert fun hm => (hmotor hm).2
  unfold State.currentCompleted
  rw [State.compareCurrent_inert hover hcheck, hstall, hbulb]

/-- Settles O36: the trip is the one of the channel's kind and state, and the sample's block is taken in beside it. -/
theorem channelTrips : Obligations.ChannelTrips := by
  rintro s u i _ c' _ f _ _ hu rfl rfl rfl rfl hcases hdef
  have htrip : s.trip i = u := by
    rw [hdef]
    rcases hcases with ⟨hm, rfl, hc⟩ | ⟨hm, hf, rfl, hw⟩ | ⟨hm, hf, rfl, rfl⟩
    · rcases hc with ⟨hc, hr, rfl⟩ | ⟨hc, hr, hx, rfl⟩ | ⟨hc, hr, hx, rfl⟩ | ⟨hc, rfl⟩
      · rw [State.trip_other hm hc, Channel.trip]
        dsimp only [satInc]
        rw [tripWait_within hr]; rfl
      · rw [State.trip_other hm hc, Channel.trip]
        dsimp only [satInc]
        rw [tripWait_persist hr hx]; rfl
      · rw [State.trip_other hm hc, Channel.trip]
        dsimp only [satInc]
        rw [tripWait_latch hr hx]; rfl
      · rw [State.trip_test hm hc]; rfl
    · rw [State.trip_motor hm (by rcases hf with h | h <;> rw [h] <;> decide), satInc]
      rcases hw with ⟨hr, rfl⟩ | ⟨hr, hx, rfl⟩ | ⟨hr, hx, rfl⟩
      · rw [tripWait_within hr]; rfl
      · rw [tripWait_persist hr hx]; rfl
      · rw [tripWait_latch hr hx]; rfl
    · rw [State.trip_motorTest hm hf]; rfl
  clear hdef
  subst htrip
  refine ⟨fun hstate ht => ⟨?_, State.settle_handedOn _ s false⟩, fun x m hstate hs hx hblock =>
    ⟨?_, State.settle_handedOn _ s false⟩⟩
  · have hover : s.overApplies i = true := by
      rcases hstate with ⟨hm, h⟩ | ⟨hm, h⟩
      · exact (State.overApplies_other hm).mpr h
      · exact (State.overApplies_motor hm).mpr h
    exact congrArg Host.Outcome.next (if_pos ⟨hu, hover, ht⟩)
  · have hhard : s.hardApplies i = true := by
      rcases hcases with ⟨hm, -⟩ | ⟨hm, hf, -⟩ | ⟨hm, hf, -⟩
      · exact (State.hardApplies_other hm).mpr (hstate hm)
      · exact (State.hardApplies_motor hm).mpr (hf.imp_right .inl)
      · exact (State.hardApplies_motor hm).mpr (.inr (.inr hf))
    obtain ⟨hjoined, hcompleted⟩ := execSample_channel (trips := true) hu hs x
      (iff_of_true rfl ⟨by omega, hhard⟩)
    rcases hblock with ⟨hc, rfl⟩ | ⟨hc, hv, rfl⟩
    · exact hjoined hc rfl
    · rw [hcompleted hc, if_pos rfl, State.currentCompleted_tripped hv]
      rfl

/-! ## The bulb check (R76, R116) -/

theorem State.endMark_mark (s : State) (i : Fin 8) : (s.endMark i).meas.channels[i].mark = .none := by simp [State.endMark]

theorem State.bulbOut_left (s : State) : s.bulbOut .left = { s with
    flash := { s.flash with
      reportedLeft := true
      memory := { s.flash.memory with current := { s.flash.memory.current with ownLeft := true } } }
    faults := if s.flash.reportedLeft then s.faults else s.faults.add .bulbOut (some 0) s.ctl.clock } := by
  unfold State.bulbOut
  dsimp only
  split <;> rfl

theorem State.bulbOut_right (s : State) : s.bulbOut .right = { s with
    flash := { s.flash with
      reportedRight := true
      memory := { s.flash.memory with current := { s.flash.memory.current with ownRight := true } } }
    faults := if s.flash.reportedRight then s.faults else s.faults.add .bulbOut (some 1) s.ctl.clock } := by
  unfold State.bulbOut
  dsimp only
  split <;> rfl

/-- Where the cycle's side set is the one asked for, the hand-ons leave an ended mark, the cycle and the Fault List. -/
theorem State.settle_unmarked {u : State} {i : Fin 8} (hag : u.FlashAgrees) (hm : u.meas.channels[i].mark = .none)
    (b : State) (x : Bool) : (u.settle b x).meas.channels[i].mark = .none ∧ (u.settle b x).flash = u.flash ∧
      (u.settle b x).faults = u.faults := by
  refine ⟨?_, (State.settle_agrees (fun _ => hag) b x).1, (State.settle_handedOn u b x).faults⟩
  rcases State.settle_mark (fun _ => hag) b x i with h | ⟨h, -, -⟩
  · rw [h, hm]
  · rw [hm] at h; cases h

/-- Settles O35: the trip and the readers before the bulb check leave the cycle, and the hand-ons leave what it enters. -/
theorem bulbCheckDetects : Obligations.BulbCheckDetects := by
  intro s i x v c trips faults hu hag hs hc hm hcount hk ht hfaults hv
  subst hc
  have hmotor : s.cfg.channels[i].kind ≠ .motor := by rcases hk with h | h <;> rw [h] <;> decide
  have htrips : trips = true ↔ (x < 0 ∨ 400 < x ∨ s.cfg.channels[i].hardLimit < x) ∧ s.hardApplies i = true := by
    rw [ht, State.hardApplies_other hmotor]
  have hnext := (execSample_channel hu hs x htrips).2 hcount
  obtain ⟨outTripped, fanTripped, htripped⟩ : ∃ out fan, (if trips then s.trip i else s) =
      { s with out := out, fan := fan, faults := faults } := by
    rw [hfaults]
    cases trips with
    | false => exact ⟨_, _, rfl⟩
    | true => exact ⟨_, _, (s.trip_frame i).trans (by rw [State.trip_faults]; rfl)⟩
  rw [htripped] at hnext
  obtain ⟨out, fan, hread⟩ := State.currentCompleted_eq
    (({ s with out := outTripped, fan := fanTripped, faults := faults } : State).withMeas
      (s.meas.currentTaken i x s.cfg.ni)) i
  rw [hread] at hnext
  obtain ⟨hmark, havg, -⟩ := s.meas.currentTaken_get i x s.cfg.ni
  rw [← hv] at havg
  set w : State := { s with
    out := out, fan := fan, faults := faults, meas := s.meas.currentTaken i x s.cfg.ni }
  have hnext : exec (.sample x) s = .next ((w.checkBulb i).settle s false) := hnext
  have hmark : w.meas.channels[i].mark = .restarted := hmark.trans hm
  have hended := w.endMark_mark i
  rcases lt_or_ge v s.cfg.channels[i].openLimit with hlt | hge
  · rw [State.checkBulb_below hmark (havg.symm ▸ hlt)] at hnext
    refine ⟨_, hnext, ?_⟩
    cases w.cfg.channels[i].side with
    | left =>
      rw [State.bulbOut_left]
      obtain ⟨hnone, hflash, hlist⟩ := State.settle_unmarked (u := { w.endMark i with
        flash := { s.flash with
          reportedLeft := true
          memory := { s.flash.memory with current := { s.flash.memory.current with ownLeft := true } } }
        faults := if s.flash.reportedLeft then faults else faults.add .bulbOut (some 0) s.ctl.clock }) hag hended s false
      exact ⟨hnone, fun h => by omega, fun _ _ => ⟨hflash, hlist⟩, fun _ => nofun⟩
    | right =>
      rw [State.bulbOut_right]
      obtain ⟨hnone, hflash, hlist⟩ := State.settle_unmarked (u := { w.endMark i with
        flash := { s.flash with
          reportedRight := true
          memory := { s.flash.memory with current := { s.flash.memory.current with ownRight := true } } }
        faults := if s.flash.reportedRight then faults else faults.add .bulbOut (some 1) s.ctl.clock }) hag hended s false
      exact ⟨hnone, fun h => by omega, fun _ => nofun, fun _ _ => ⟨hflash, hlist⟩⟩
  · rw [State.checkBulb_above hmark (havg.symm ▸ hge)] at hnext
    obtain ⟨hnone, hflash, hlist⟩ := State.settle_unmarked (u := w.endMark i) hag hended s false
    exact ⟨_, hnext, hnone, fun _ => ⟨hflash, hlist⟩, fun h => by omega, fun h => by omega⟩

end Sys2Proof.Machine
end

section
/-! PROOFS. The timers of a channel, and what the hand-ons make of it by its state, command, order and hold (R73, R75, R88 to
R91, R93, R94, R96 to R101, R103, R156). -/

namespace Sys2Proof.Machine

/-! ## A channel under its command, order and hold (R88 to R91, R96, R97, R100, R101) -/

section
variable {c : Channel} {e : ChannelEntry} {order : Order} {hold fresh : Bool} {cmd : Command}

theorem Channel.follow_test (h : c.state = .test) : (c.follow e order hold fresh cmd).1 = c.take cmd := by
  unfold Channel.follow; rw [h]

theorem Channel.follow_locked (h : c.state = .locked) : (c.follow e order hold fresh cmd).1 =
    if cmd = .off then (c.take cmd).goTo (if order = .shed then .shed else .off) else c.take cmd := by
  unfold Channel.follow
  rw [h]
  exact apply_ite Prod.fst _ _ _

/-- Under a shed order every channel but one in Test or Locked goes to Shed (R100). -/
theorem Channel.follow_shedOrder (ht : c.state ≠ .test) (hl : c.state ≠ .locked) (ho : order = .shed) :
    (c.follow e order hold fresh cmd).1 = if c.state = .shed then c.take cmd else (c.take cmd).goTo .shed := by
  unfold Channel.follow
  cases h : c.state with
  | test => exact absurd h ht
  | locked => exact absurd h hl
  | shed => exact congrArg Prod.fst (if_pos (.inl ho))
  | off | inrush | on | dark | tripped => exact congrArg Prod.fst (if_pos ho)

theorem Channel.follow_lit (h : c.state = .inrush ∨ c.state = .on) (ho : order ≠ .shed) :
    c.follow e order hold fresh cmd = (c.take cmd).lightOn e c.command fresh := by
  unfold Channel.follow
  rcases h with h | h <;> rw [h] <;> exact if_neg ho

theorem Channel.follow_tripped (h : c.state = .tripped) (ho : order ≠ .shed) : (c.follow e order hold fresh cmd).1 =
    if cmd = .off then (c.take cmd).goTo .off else c.take cmd := by
  unfold Channel.follow
  rw [h]
  exact (congrArg Prod.fst (if_neg ho)).trans (apply_ite Prod.fst _ _ _)

theorem Channel.follow_dark (h : c.state = .dark) (hc : cmd = .flashOff) (ho : order ≠ .shed) :
    (c.follow e order hold fresh cmd).1 = c.take cmd := by
  unfold Channel.follow
  rw [h]
  exact congrArg Prod.fst ((if_neg ho).trans (if_pos hc))

theorem Channel.follow_held (h : c.state = .off ∨ c.state = .shed) (ho : order ≠ .shed) (hh : hold = true) :
    (c.follow e order hold fresh cmd).1 = c.take cmd := by
  unfold Channel.follow
  rcases h with h | h <;> rw [h]
  · exact congrArg Prod.fst ((if_neg ho).trans (if_pos hh))
  · exact congrArg Prod.fst (if_pos (.inr hh))

/-- From a state that no longer holds it back, a channel is released, but one in Off stays under a command of off. -/
theorem Channel.follow_released
    (h : (c.state = .dark ∧ cmd ≠ .flashOff) ∨ ((c.state = .off ∨ c.state = .shed) ∧ hold = false)) (ho : order ≠ .shed) :
    c.follow e order hold fresh cmd =
      if cmd = .off ∧ c.state = .off then (c.take cmd, false) else (c.take cmd).release e := by
  unfold Channel.follow
  rcases h with ⟨h, hc⟩ | ⟨h | h, hh⟩
  · rw [h]
    exact ((if_neg ho).trans (if_neg hc)).trans (if_neg nofun).symm
  · rw [h]
    refine ((if_neg ho).trans (if_neg (ne_true_of_eq_false hh))).trans (if_congr ?_ rfl rfl)
    exact (and_iff_left rfl).symm
  · rw [h]
    exact (if_neg (not_or.mpr ⟨ho, ne_true_of_eq_false hh⟩)).trans (if_neg nofun).symm

theorem Channel.release_lit (h : (∃ l, c.command = .steady l) ∨ c.command = .flashOn) :
    c.release e = (c.energize e, true) := by
  unfold Channel.release
  rcases h with ⟨l, h⟩ | h <;> rw [h]

theorem Channel.release_flashOff (h : c.command = .flashOff) : c.release e = (c.goTo .dark, false) := by
  unfold Channel.release; rw [h]

theorem Channel.release_off (h : c.command = .off) : c.release e = (c.goTo .off, false) := by
  unfold Channel.release; rw [h]

theorem Channel.lightOn_steady {before : Command} (h : ∃ l, c.command = .steady l) :
    c.lightOn e before fresh = (c, false) := by
  unfold Channel.lightOn
  obtain ⟨l, h⟩ := h
  rw [h]

theorem Channel.lightOn_flashOn {before : Command} (h : c.command = .flashOn) : c.lightOn e before fresh =
    if fresh = true ∨ before ≠ .flashOn then (c.energize e, true) else (c, false) := by
  unfold Channel.lightOn; rw [h]

theorem Channel.lightOn_flashOff {before : Command} (h : c.command = .flashOff) :
    c.lightOn e before fresh = (c.goTo .dark, false) := by
  unfold Channel.lightOn; rw [h]

theorem Channel.lightOn_off {before : Command} (h : c.command = .off) :
    c.lightOn e before fresh = (c.goTo .off, false) := by
  unfold Channel.lightOn; rw [h]

end

/-! ## A channel after the hand-ons (R87, R98) -/

/-- The open-load check runs on a channel (R98): the obligations' words, over what the state resolved and ordered. -/
def State.Checks (s : State) (e : ChannelEntry) (c : Channel) : Prop :=
  c.state = .on ∧ 0 < e.openLimit ∧ (∃ l, c.command = .steady l) ∧ ¬(e.kind = .stopTurn ∧ s.res.eff.stop = false) ∧
    ¬(e.kind = .lamp ∧ s.supply.order e.cls = .limited ∧
      500 < (if e.function = codePanel then s.res.panel else e.level))

theorem State.openCheck_iff (s : State) (i : Fin 8) :
    s.openCheck i = true ↔ s.Checks s.cfg.channels[i] s.out.channels[i] := by
  unfold State.openCheck State.Checks State.lampLevel
  dsimp only
  cases s.out.channels[i].command with
  | steady l => simp [and_assoc, imp_iff_not_or, or_assoc]
  | off | flashOn | flashOff => simp

/-- A channel with its duty brought up to date, its open-load timer stopped while its check does not run. -/
def Channel.gated (r : Channel) (duty : Nat) (checked : Bool) : Channel :=
  { r with duty := duty, openTimer := if checked then r.openTimer else none }

theorem State.motor_ne {s : State} {i m : Fin 8} (h : s.cfg.channels[i].kind ≠ .motor) (hm : s.motor = some m) :
    m ≠ i := by
  rintro rfl
  exact h (of_decide_eq_true (List.find?_some (p := fun i : Fin 8 => decide (s.cfg.channels[i].kind = .motor)) hm))

/-- The Fan Drive acts on the Motor channel alone. -/
theorem State.stageFan_channel {s : State} {i : Fin 8} (h : s.cfg.channels[i].kind ≠ .motor) :
    s.stageFan.out.channels[i] = s.out.channels[i] := by
  unfold State.stageFan
  split
  · rfl
  · rename_i m hm
    simp only [State.driveMotor, State.setChannel, State.withOut_out, getElem_set_fin,
      if_neg (State.motor_ne h hm).symm]
    rfl

/-- The state in which the channels follow, in the hand-ons. -/
def State.beforeChannels (s : State) : State := (s.stageUnion.stageSupply s.res.ign).stageFlasher.1.stageEffective

/-- The hand-ons begin an On phase. -/
def State.beginsOn (s : State) (fresh : Bool) : Bool := fresh || (s.stageUnion.stageSupply s.res.ign).stageFlasher.2

theorem State.settle_channel {s : State} {i : Fin 8} (h : s.cfg.channels[i].kind ≠ .motor) (b : State) (x : Bool) :
    (s.settle b x).out.channels[i] = (s.beforeChannels.stageChannels (s.beginsOn x)).out.channels[i] := by
  rw [State.settle_eq, State.stageStatus_out, State.stageControl_out]
  show (s.beforeChannels.stageChannels (s.beginsOn x)).stageFan.stageLoad.out.channels[i] = _
  rw [State.stageLoad_channels]
  exact State.stageFan_channel (by simpa [State.beforeChannels] using h)

theorem State.redrive_eq (s : State) (i : Fin 8) (c : Channel) : ∃ duty, s.redrive i c = { c with duty := duty } := by
  unfold State.redrive
  split
  · exact ⟨_, rfl⟩
  · exact ⟨_, rfl⟩

/-- What a state makes of a channel: its command, order and hold followed, then its duty and its open-load check. -/
theorem State.stageChannels_gated (s : State) (x : Bool) (i : Fin 8) : ∃ duty checked,
    (s.stageChannels x).out.channels[i] = (s.followChannel x i).1.gated duty checked ∧
      (checked = true ↔ s.Checks s.cfg.channels[i] (s.followChannel x i).1) := by
  obtain ⟨duty, hduty⟩ := s.redrive_eq i (s.followChannel x i).1
  have hgate (t : State) : t.openGate i = t.out.channels[i].gated t.out.channels[i].duty (t.openCheck i) := by
    unfold State.openGate Channel.gated
    split
    · rfl
    · rfl
  obtain ⟨t, hstage, ht, hcfg, hres, hsupply⟩ : ∃ t : State, (s.stageChannels x).out.channels[i] = t.openGate i ∧
      t.out.channels[i] = s.redrive i (s.followChannel x i).1 ∧ t.cfg = s.cfg ∧ t.res = s.res ∧ t.supply = s.supply := by
    unfold State.stageChannels
    simp only [State.withOut_out, Vector.getElem_ofFn, Fin.getElem_fin]
    exact ⟨_, rfl, by simp, rfl, rfl, rfl⟩
  rw [hduty] at ht
  refine ⟨duty, t.openCheck i, ?_, ?_⟩
  · rw [hstage, hgate, ht]; rfl
  · rw [State.openCheck_iff, ht, hcfg]
    unfold State.Checks
    rw [hres, hsupply]

@[simp] theorem Channel.goTo_command (c : Channel) (st : ChannelState) : (c.goTo st).command = c.command := rfl

@[simp] theorem Channel.take_command (c : Channel) (cmd : Command) : (c.take cmd).command = cmd := rfl

@[simp] theorem Channel.energize_command (c : Channel) (e : ChannelEntry) : (c.energize e).command = c.command := by
  unfold Channel.energize; split <;> rfl

@[simp] theorem Channel.release_command (c : Channel) (e : ChannelEntry) : (c.release e).1.command = c.command := by
  unfold Channel.release; split <;> simp

@[simp] theorem Channel.lightOn_command (c : Channel) (e : ChannelEntry) (before : Command) (fresh : Bool) :
    (c.lightOn e before fresh).1.command = c.command := by
  unfold Channel.lightOn
  split
  · rfl
  · split <;> simp
  · rfl
  · rfl

theorem Channel.follow_command (c : Channel) (e : ChannelEntry) (order : Order) (hold fresh : Bool) (cmd : Command) :
    (c.follow e order hold fresh cmd).1.command = cmd := by
  unfold Channel.follow
  cases c.state with
  | test | locked | shed | off | inrush | on | dark | tripped =>
    simp [apply_ite Prod.fst, apply_ite Channel.command]

/-- What the hand-ons make of a channel that follows commands, by the orders, holds and functions they end in. -/
theorem State.settle_gated {s : State} {i : Fin 8} (ho : s.cfg.channels[i].kind ≠ .off)
    (hm : s.cfg.channels[i].kind ≠ .motor) (b : State) (x : Bool) : ∃ cmd duty checked,
    (s.settle b x).out.channels[i] = (if s.drives = true then (s.out.channels[i].follow s.cfg.channels[i]
        ((s.settle b x).supply.order s.cfg.channels[i].cls) ((s.settle b x).supply.held s.cfg.channels[i].cls)
        (s.beginsOn x) cmd).1 else s.out.channels[i].take cmd).gated duty checked ∧
      (s.settle b x).out.channels[i].command = cmd ∧
      (checked = true ↔ (s.settle b x).Checks s.cfg.channels[i] (s.settle b x).out.channels[i]) := by
  obtain ⟨timers, harness, hsupply⟩ := s.settle_supply b x
  obtain ⟨duty, checked, hd, hc⟩ := s.beforeChannels.stageChannels_gated (s.beginsOn x) i
  have hcfg : s.beforeChannels.cfg = s.cfg := by simp [State.beforeChannels]
  have hout : s.beforeChannels.out = s.out := by simp [State.beforeChannels]
  have hres : s.beforeChannels.res = (s.settle b x).res := (s.settle_res b x).symm
  have horder (cls : Nat) : s.beforeChannels.supply.order cls = (s.settle b x).supply.order cls := by
    rw [hsupply]; simp [State.beforeChannels, Supply.order]
  have hheld (cls : Nat) : s.beforeChannels.supply.held cls = (s.settle b x).supply.held cls := by
    rw [hsupply]; simp [State.beforeChannels, Supply.held]
  have hdrives : s.beforeChannels.drives = s.drives := State.drives_congr (by simp [State.beforeChannels])
    (by simp [State.beforeChannels])
  have hfollows : s.cfg.channels[i].kind.follows ≠ false := by
    cases h : s.cfg.channels[i].kind with
    | off => exact absurd h ho
    | motor => exact absurd h hm
    | lamp | flashLamp | stopTurn | plain => nofun
  have hfollow : (s.beforeChannels.followChannel (s.beginsOn x) i).1 = if s.drives = true then
      (s.out.channels[i].follow s.cfg.channels[i] ((s.settle b x).supply.order s.cfg.channels[i].cls)
        ((s.settle b x).supply.held s.cfg.channels[i].cls) (s.beginsOn x)
        (s.beforeChannels.commandFor s.cfg.channels[i])).1
      else s.out.channels[i].take (s.beforeChannels.commandFor s.cfg.channels[i]) := by
    unfold State.followChannel
    dsimp only
    rw [hcfg, hout, if_neg hfollows, hdrives, horder, hheld]
    exact apply_ite Prod.fst _ _ _
  rw [State.settle_channel hm, hd, hfollow]
  refine ⟨_, duty, checked, rfl, ?_, ?_⟩
  · show Channel.command (ite _ _ _) = _
    split
    · exact Channel.follow_command ..
    · rfl
  · rw [hc, hcfg, hfollow]
    unfold State.Checks
    rw [hres, horder]
    rfl

theorem State.beginsOn_iff (s b : State) (x : Bool) : s.beginsOn x = true ↔
    x = true ∨ ((s.settle b x).flash.sides ≠ none ∧ (s.settle b x).flash.sides ≠ s.flash.sides) := by
  rw [State.settle_flash]
  unfold State.beginsOn
  rw [Bool.or_eq_true]
  refine or_congr Iff.rfl ?_
  have hflash : (s.stageUnion.stageSupply s.res.ign).flash = s.flash := by simp
  rw [← hflash]
  set u := s.stageUnion.stageSupply s.res.ign
  unfold State.stageFlasher
  dsimp only
  split
  · exact iff_of_false nofun fun ⟨_, h⟩ => h rfl
  · rename_i hsides
    have hchange := not_or.mp hsides
    split
    · exact iff_of_false nofun fun ⟨h, _⟩ => h rfl
    · rename_i y hy
      rw [hy] at hchange
      have hentered (t : State) (k : OnEntry) : (t.enterFlashOn y k).flash.sides ≠ none ∧
          (t.enterFlashOn y k).flash.sides ≠ u.flash.sides := by
        rw [State.enterFlashOn_sides]
        exact ⟨nofun, hchange.2⟩
      split
      · exact iff_of_true rfl (hentered _ _)
      · exact iff_of_true rfl (hentered _ _)

theorem Channel.gated_goTo (c : Channel) (st : ChannelState) (duty : Nat) (checked : Bool) :
    (c.goTo st).gated duty checked = { c.gated duty checked with
      state := st, window := none, runTimer := none, overTimer := none, retryWait := none, openTimer := none } := by
  unfold Channel.gated Channel.goTo
  rw [ite_self]

theorem Channel.gated_energize (c : Channel) (e : ChannelEntry) (duty : Nat) (checked : Bool) :
    (c.energize e).gated duty checked = if e.inrush = 0
      then { (c.goTo .on).gated duty checked with runTimer := some 10000 }
      else { (c.goTo .inrush).gated duty checked with window := some e.inrush } := by
  unfold Channel.energize
  split
  · rfl
  · rfl

/-! ## The timers of a channel (R89, R90, R96, R98, R103) -/

/-- The channel's current record with its block restarted (R75). -/
def Measurement.restarted (m : Measurement) (i : Fin 8) : Measurement :=
  { m with channels := m.channels.set i m.channels[i].restart }

/-- An energized channel's block is restarted where the channel is armed and comes on without a window (R75). -/
theorem State.restartIfArmed_set (s : State) (energized : Bool) (i : Fin 8) :
    { s.meas with channels := s.meas.channels.set i (s.restartIfArmed energized i) } =
      if energized = true ∧ s.cfg.channels[i].inrush = 0 ∧ s.meas.channels[i].mark = .armed then s.meas.restarted i
      else s.meas := by
  unfold State.restartIfArmed
  dsimp only
  split
  · rfl
  · simp

theorem Channel.energize_window (c : Channel) {e : ChannelEntry} (h : 0 < e.inrush) :
    c.energize e = { c.goTo .inrush with window := some e.inrush } := if_neg (by omega)

theorem Channel.energize_none (c : Channel) {e : ChannelEntry} (h : e.inrush = 0) : c.energize e = c.enterOn := if_pos h

theorem Command.lit_iff (cmd : Command) : cmd.lit = true ↔ (∃ l, cmd = .steady l) ∨ cmd = .flashOn := by
  cases cmd <;> simp [Command.lit]

theorem State.retryNow_held {s : State} {i : Fin 8} (h : s.supply.held s.cfg.channels[i].cls = true) :
    s.retryNow i = (s.out.channels[i].goTo .off, false) := if_pos h

theorem State.retryNow_released {s : State} {i : Fin 8} (h : s.supply.held s.cfg.channels[i].cls = false) :
    s.retryNow i = s.out.channels[i].release s.cfg.channels[i] := if_neg (ne_true_of_eq_false h)

theorem overTimerAt_eq (t : Timer) (above : Bool) (period : Nat) :
    overTimerAt t above period = if above = false then none else some (t.getD period) := by
  cases above with
  | false => rfl
  | true => cases t <;> rfl

theorem openTimerAt_eq (t : Timer) (below flag : Bool) :
    openTimerAt t below flag = if flag = below then none else some (t.getD 500) := by
  cases t <;> cases below <;> cases flag <;> rfl

/-- A channel after the comparisons of a completed block, each where its limit applies (R73, R93, R98). -/
def Channel.compared (c : Channel) (e : ChannelEntry) (avg : Int) (beyond timed checked : Bool) : Channel :=
  { c with
    overTimer := if timed = false then c.overTimer else overTimerAt c.overTimer (aboveOver e avg beyond) e.overTime
    openTimer := if checked = false then c.openTimer else openTimerAt c.openTimer (belowOpen e avg) c.openFlag }

/-- The comparisons in the obligations' words: a limit exceeded keeps or starts its timer, and a result that agrees with the
flag stops the open-load timer. -/
theorem Channel.compared_eq {c : Channel} {e : ChannelEntry} {avg : Int} {above beyond timed checked : Bool}
    (ha : above = aboveOver e avg beyond) (hc : checked = true → 0 < e.openLimit) :
    c.compared e avg beyond timed checked = { c with
      overTimer := if timed = false then c.overTimer else if above = false then none
        else some (c.overTimer.getD e.overTime)
      openTimer := if checked = false then c.openTimer
        else if (c.openFlag = true ↔ avg < e.openLimit) then none else some (c.openTimer.getD 500) } := by
  unfold Channel.compared
  rw [overTimerAt_eq, openTimerAt_eq, ← ha]
  cases checked with
  | false => rfl
  | true =>
    have hbelow : c.openFlag = belowOpen e avg ↔ (c.openFlag = true ↔ avg < e.openLimit) := by
      rw [Bool.eq_iff_iff, belowOpen, Bool.and_eq_true, decide_eq_true_iff, decide_eq_true_iff, and_iff_right (hc rfl)]
    rw [if_congr hbelow rfl rfl]

theorem State.compareCurrent_eq {s : State} {i : Fin 8} {timed checked : Bool}
    (ht : timed = true ↔ s.overApplies i = true)
    (hc : checked = true ↔ s.cfg.channels[i].kind ≠ .motor ∧ s.openCheck i = true) :
    s.compareCurrent i = s.setChannel i (s.out.channels[i].compared s.cfg.channels[i] s.meas.channels[i].base.avg
      s.meas.channels[i].base.overRange timed checked) := by
  rw [← s.isMotor_eq_false_iff] at hc
  unfold State.compareCurrent
  dsimp only
  rw [if_congr ht.symm rfl rfl, if_congr hc.symm rfl rfl]
  cases timed with
  | false => cases checked <;> rfl
  | true => cases checked <;> rfl

/-- The readers of a completed block where no stall is judged and the bulb check detects nothing. -/
theorem State.currentCompleted_compared {s : State} {i : Fin 8} {x v : Int} {timed checked : Bool}
    (hv : v = roundDiv (s.meas.channels[i].base.sum + max 0 (min 400 x)) s.cfg.ni)
    (ht : timed = true ↔ s.overApplies i = true)
    (hc : checked = true ↔ s.cfg.channels[i].kind ≠ .motor ∧ s.openCheck i = true)
    (hfan : s.cfg.channels[i].kind = .motor → s.fan.state = .test)
    (hmark : s.meas.channels[i].mark = .restarted → (s.cfg.channels[i].openLimit : Int) ≤ v) :
    (s.withMeas (s.meas.currentTaken i x s.cfg.ni)).currentCompleted i =
      (s.setChannel i (s.out.channels[i].compared s.cfg.channels[i] v
        (s.meas.channels[i].base.sumOver || decide (x < 0 ∨ 400 < x)) timed checked)).withMeas
        (s.meas.currentCompleted i x s.cfg.ni) := by
  obtain ⟨-, havg, hrange⟩ := s.meas.currentTaken_get i x s.cfg.ni
  rw [← hv] at havg
  rw [hv] at hmark
  unfold State.currentCompleted
  rw [State.compareCurrent_eq (s := s.withMeas (s.meas.currentTaken i x s.cfg.ni)) ht hc, State.withMeas_meas, havg, hrange]
  set d := s.out.channels[i].compared s.cfg.channels[i] v
    (s.meas.channels[i].base.sumOver || decide (x < 0 ∨ 400 < x)) timed checked
  have hstall : ((s.setChannel i d).withMeas (s.meas.currentTaken i x s.cfg.ni)).judgeStall i =
      (s.setChannel i d).withMeas (s.meas.currentTaken i x s.cfg.ni) :=
    State.judgeStall_inert fun hm => by
      have htest : ((s.setChannel i d).withMeas (s.meas.currentTaken i x s.cfg.ni)).fan.state = .test := hfan hm
      rw [htest]
      exact ⟨nofun, nofun⟩
  exact (congrArg (State.checkBulb · i) hstall).trans (State.checkBulb_taken (s := s.setChannel i d) hmark)

/-- Settles O37: the hand-ons by `State.settle_gated` and the case of `Channel.follow` that the channel is in; each timer by
its command, and the completed block by its comparisons, where no stall and no bulb-out is found. -/
theorem channelTimersExpire : Obligations.ChannelTimersExpire := by
  refine ⟨?_, ?_⟩
  · intro s before t fresh begins checked shed hold i c d stays still lit e ht hc hd he hoff hmotor hbegins hshed hhold
      hchecked hstays hstill hlit
    subst ht hc he hhold
    obtain ⟨cmd, duty, checks, hfollow, hcmd, hchecks⟩ := State.settle_gated hoff hmotor before fresh
    rw [← hd] at hfollow hcmd hchecks
    obtain rfl : checks = checked := Bool.eq_iff_iff.mpr (hchecks.trans hchecked.symm)
    obtain rfl : begins = s.beginsOn fresh := Bool.eq_iff_iff.mpr (hbegins.trans (s.beginsOn_iff before fresh).symm)
    have hduty : d.duty = duty := by rw [hfollow]; rfl
    rw [hcmd, hduty] at hstays
    clear hduty hchecks hchecked hbegins
    set c := s.out.channels[i]
    set e := s.cfg.channels[i]
    set order := (s.settle before fresh).supply.order e.cls
    have hstays : stays = (c.take cmd).gated duty checks := hstays
    have hgo (st : ChannelState) : { still with state := st } = ((c.take cmd).goTo st).gated duty checks := by
      rw [Channel.gated_goTo, ← hstays, hstill]
    have hlit : lit = ((c.take cmd).energize e).gated duty checks := by
      rw [Channel.gated_energize, ← hgo, ← hgo, hlit]
    have hshedOrder : shed = false → order ≠ .shed := fun h k => by rw [hshed.mpr k] at h; cases h
    have hdriven (hdr : s.drives = true) : d = (c.follow e order ((s.settle before fresh).supply.held e.cls)
        (s.beginsOn fresh) cmd).1.gated duty checks := hfollow.trans (by rw [if_pos hdr])
    rw [hcmd]
    refine ⟨fun h => ?_, fun hdr ht hl hs => ?_, fun hdr hl => ?_, fun hdr hs => ⟨fun h => ?_, fun h => ?_, fun h => ?_,
      fun h => ?_, fun h => ?_⟩⟩
    · rcases h with h | h
      · rw [hfollow, h, hstays]; rfl
      · rw [hfollow, Channel.follow_test h, ite_self, hstays]
    · rw [hdriven hdr, Channel.follow_shedOrder ht hl (hshed.mp hs), hstays, hgo]
      split
      · rfl
      · rfl
    · rw [hdriven hdr, Channel.follow_locked hl, hstays, hgo, if_congr hshed rfl rfl]
      split
      · rfl
      · rfl
    · rw [hdriven hdr, Channel.follow_lit h (hshedOrder hs)]
      refine ⟨fun k => ?_, fun k => ?_, fun k => ?_, fun k => ?_⟩
      · rw [Channel.lightOn_steady k, hstays]
      · rw [Channel.lightOn_flashOn k, hlit, hstays]
        split
        · rfl
        · rfl
      · rw [Channel.lightOn_flashOff k, hgo]
      · rw [Channel.lightOn_off k, hgo]
    · rw [hdriven hdr, Channel.follow_tripped h (hshedOrder hs), hstays, hgo]
      split
      · rfl
      · rfl
    · rw [hdriven hdr, Channel.follow_dark h.1 h.2 (hshedOrder hs), hstays]
    · rw [hdriven hdr, Channel.follow_held h.1 (hshedOrder hs) h.2, hstays]
    · rw [hdriven hdr, Channel.follow_released h (hshedOrder hs)]
      refine ⟨fun k => ?_, fun k => ?_, fun k => ?_⟩
      · have hoff : cmd ≠ .off := by rintro rfl; rcases k with ⟨l, k⟩ | k <;> cases k
        rw [if_neg fun m => hoff m.1, Channel.release_lit k, hlit]
      · have hoff : cmd ≠ .off := by rintro rfl; cases k
        rw [if_neg fun m => hoff m.1, Channel.release_flashOff k, hgo]
      · rw [Channel.release_off k, if_congr (and_iff_right k) rfl rfl, hstays, hgo]
        split
        · rfl
        · rfl
  · intro s i c e r hu hc he hr
    subst hc he
    have hr : r = s.meas.restarted i := hr
    refine ⟨fun u hs hw hdef => ⟨?_, State.settle_handedOn ..⟩, fun hrun => ?_, fun u c' hs hw hc' hdef =>
      ⟨?_, State.settle_handedOn ..⟩, fun u ho hdef => ⟨fun hf => ?_, fun hf => ?_⟩, fun u ht hdef =>
      ⟨?_, State.settle_handedOn ..⟩, ?_⟩
    · refine congrArg Host.Outcome.next ((if_pos ⟨hu, hs, hw⟩).trans (congrArg (State.settle · s false) ?_))
      rw [hdef, hr]
      dsimp only
      split
      · rfl
      · rfl
    · exact congrArg Host.Outcome.next (if_pos ⟨hu, hrun⟩)
    · refine congrArg Host.Outcome.next ((if_pos ⟨hu, hs, hw⟩).trans (congrArg (State.settle · s false) ?_))
      have hretried : (s.retryNow i).1 = { c' with
            window := if c'.state = .inrush then c'.window else none
            runTimer := if c'.state = .on then c'.runTimer else none
            overTimer := none, openTimer := none } ∧
          ((s.retryNow i).2 = true ∧ s.cfg.channels[i].inrush = 0 ↔ c'.state = .on) := by
        rcases hc' with ⟨hh, rfl⟩ | ⟨hh, hc, rfl⟩ | ⟨hh, hc, rfl⟩ | ⟨hh, hc, hi, rfl⟩ | ⟨hh, hc, hi, rfl⟩
        · rw [State.retryNow_held hh]
          exact ⟨rfl, iff_of_false nofun nofun⟩
        · rw [State.retryNow_released hh, Channel.release_off hc]
          exact ⟨rfl, iff_of_false nofun nofun⟩
        · rw [State.retryNow_released hh, Channel.release_flashOff hc]
          exact ⟨rfl, iff_of_false nofun nofun⟩
        · rw [State.retryNow_released hh, Channel.release_lit ((Command.lit_iff _).mp hc), Channel.energize_window _ hi]
          exact ⟨rfl, iff_of_false (fun k => by omega) nofun⟩
        · rw [State.retryNow_released hh, Channel.release_lit ((Command.lit_iff _).mp hc), Channel.energize_none _ hi]
          exact ⟨rfl, iff_of_true ⟨rfl, hi⟩ rfl⟩
      rw [hdef, hr, ← hretried.1, ← if_congr (and_congr_left' hretried.2) rfl rfl]
      simp only [and_assoc]
      rw [← State.restartIfArmed_set]
      rfl
    · rw [hdef]
      exact congrArg Host.Outcome.next ((if_pos ⟨hu, ho⟩).trans (if_pos hf))
    · rw [hdef]
      exact congrArg Host.Outcome.next ((if_pos ⟨hu, ho⟩).trans (if_neg (ne_true_of_eq_false hf)))
    · refine congrArg Host.Outcome.next ((if_pos ⟨hu, ht⟩).trans (congrArg (State.settle · s false) ?_))
      rw [hdef]
      dsimp only
      rw [if_congr (s.isMotor_iff i) rfl rfl]
      split
      · rfl
      · rfl
    · intro u x v above checked timed hs hcount hv hmark hfan hin habove htimed hchecked hdef
      refine ⟨?_, State.settle_handedOn ..⟩
      have htrips : false = true ↔
          (x < 0 ∨ 400 < x ∨ s.cfg.channels[i].hardLimit < x) ∧ s.hardApplies i = true := by
        refine iff_of_false nofun fun ⟨hbeyond, hhard⟩ => ?_
        rcases hin with h | ⟨hm, h1, h2, h3⟩
        · omega
        · exact ((State.hardApplies_other hm).mp hhard).elim h1 fun h => h.elim h2 h3
      rw [(execSample_channel hu hs x htrips).2 hcount, if_neg Bool.false_ne_true]
      refine congrArg (fun t : State => Host.Outcome.next (t.settle s false)) ?_
      have htimed' : timed = true ↔ s.overApplies i = true := by
        rw [htimed]
        by_cases hm : s.cfg.channels[i].kind = .motor
        · exact iff_of_true (.inl hm) ((State.overApplies_motor hm).mpr (hfan hm))
        · exact (or_iff_right hm).trans (State.overApplies_other hm).symm
      have hchecked' : checked = true ↔ s.cfg.channels[i].kind ≠ .motor ∧ s.openCheck i = true := by
        rw [hchecked, State.openCheck_iff]; rfl
      have haboveOver : above = aboveOver s.cfg.channels[i] v
          (s.meas.channels[i].base.sumOver || decide (x < 0 ∨ 400 < x)) := by
        rw [Bool.eq_iff_iff, habove]
        simp only [aboveOver, Bool.or_eq_true, decide_eq_true_eq]
        exact or_comm
      rw [State.currentCompleted_compared hv htimed' hchecked' hfan hmark,
        Channel.compared_eq haboveOver fun h => (hchecked.mp h).2.2.1, hdef]
      rfl

end Sys2Proof.Machine
end

section
/-! PROOFS. The half timer of the flash cycle (R77, R108, R111, R117 to R119): each expiry changes the phase, and the hand-ons
leave that phase alone, as the side set is the one asked for. -/

namespace Sys2Proof.Machine

/-! ## The FLASH of an entry to On (R15, R111) -/

/-- A FLASH that is queued stands in the queue, in a slot of its own or in place of the content of its side set. -/
theorem Line.putFlash_mem (l : Line) (content : List Byte) : ∃ e ∈ (l.putFlash content).queue.flash, e.content = content := by
  unfold Line.putFlash
  split
  · rename_i e he
    exact ⟨_, List.mem_map_of_mem (List.mem_of_find?_eq_some he), by rw [if_pos rfl]⟩
  · dsimp only
    split
    · exact ⟨_, List.mem_append_right _ (List.mem_singleton_self _), rfl⟩
    · exact ⟨_, List.mem_append_right _ (List.mem_singleton_self _), rfl⟩

/-- The byte of a FLASH, bit by bit from the side set down (R111). -/
theorem flashPayload_bits (x : SideSet) (left right fast : Bool) : flashPayload x left right fast =
    [BitVec.ofBool (decide (x ≠ .left)) ++ BitVec.ofBool (decide (x ≠ .right)) ++ BitVec.ofBool left ++
      BitVec.ofBool right ++ BitVec.ofBool fast ++ 0#3] := by
  revert x left right fast
  have h : ∀ x ∈ [SideSet.left, .right, .both], ∀ left right fast : Bool, flashPayload x left right fast =
    [BitVec.ofBool (decide (x ≠ .left)) ++ BitVec.ofBool (decide (x ≠ .right)) ++ BitVec.ofBool left ++
      BitVec.ofBool right ++ BitVec.ofBool fast ++ 0#3] := by decide
  exact fun x => h x (by cases x <;> decide)

/-! ## Entry to Off and to On by the half timer (R108, R118, R119) -/

theorem State.clearMarks_mark (s : State) (i : Fin 8) : s.clearMarks.meas.channels[i].mark = .none := by
  simp [State.clearMarks]

theorem execHalfTimerExpiry_on {s : State} (hu : s.up = true) (hh : s.flash.half.isSome = true) (hp : s.flash.phase = .on) :
    exec .halfTimerExpiry s = .next (s.enterFlashOff.settle s false) := by
  show execHalfTimerExpiry s = _
  unfold execHalfTimerExpiry
  rw [if_pos ⟨hu, hh⟩, hp]

theorem execHalfTimerExpiry_off {s : State} (hu : s.up = true) (hh : s.flash.half.isSome = true) (hp : s.flash.phase = .off)
    {x : SideSet} (hx : s.flash.sides = some x) :
    exec .halfTimerExpiry s = .next ((s.enterFlashOn x .expiry).settle s true) := by
  show execHalfTimerExpiry s = _
  unfold execHalfTimerExpiry
  rw [if_pos ⟨hu, hh⟩, hp, hx]

/-- The rate decided at the half timer's expiry: by the memory alone (R119). -/
theorem sideFast_expiry (t : PeerTable) (m : BulbMemory) (d : Side) : sideFast t m .expiry d =
    (m.before.own d || m.earlier.own d || m.before.received d || m.earlier.received d) := Bool.or_false _

/-- The state as the half timer's entry to On leaves it, before its FLASH is queued. -/
def State.flashedOn (s : State) (x : SideSet) (fast : Bool) : State :=
  (s.armMarks x).withFlash { s.flash with
    phase := .on, sides := some x, fast := fast, half := some (halfPeriod s.cfg.flashPeriod fast), memory := s.flash.memory.push }

theorem State.flashedOn_flash {s : State} {x : SideSet} (hx : s.flash.sides = some x) (fast : Bool) :
    (s.flashedOn x fast).flash = { s.flash with
      phase := .on, fast := fast, half := some (halfPeriod s.cfg.flashPeriod fast), memory := s.flash.memory.push } := by
  unfold State.flashedOn; rw [← hx]; rfl

theorem State.enterFlashOn_expiry {s : State} {x : SideSet} {fast : Bool}
    (hf : fast = true ↔
      (x ≠ .right ∧ (s.flash.memory.push.before.ownLeft || s.flash.memory.push.earlier.ownLeft
        || s.flash.memory.push.before.receivedLeft || s.flash.memory.push.earlier.receivedLeft) = true) ∨
      (x ≠ .left ∧ (s.flash.memory.push.before.ownRight || s.flash.memory.push.earlier.ownRight
        || s.flash.memory.push.before.receivedRight || s.flash.memory.push.earlier.receivedRight) = true)) :
    s.enterFlashOn x .expiry = (s.flashedOn x fast).requestFlash x := by
  have hfast : ((x.has .left && sideFast s.peers s.flash.memory.push .expiry .left)
      || (x.has .right && sideFast s.peers s.flash.memory.push .expiry .right)) = fast := by
    rw [Bool.eq_iff_iff, Bool.or_eq_true, Bool.and_eq_true, Bool.and_eq_true, sideFast_expiry, sideFast_expiry,
      SideSet.has_left_iff, SideSet.has_right_iff, hf]
    rfl
  rw [← hfast]
  rfl

/-- Settles O38: in On the cycle enters Off with its marks cleared; in Off it enters On with the memory pushed, and its FLASH is
queued at a Joined station. -/
theorem halfTimerChangesPhase : Obligations.HalfTimerChangesPhase := by
  intro s _ hu _ hag hh
  refine ⟨fun hp => ?_, fun x m fast hp hx hm hfast => ?_⟩
  · have hagrees : s.enterFlashOff.drives = true → s.enterFlashOff.FlashAgrees := fun _ => hag
    have hon := State.settle_handedOn s.enterFlashOff s false
    refine ⟨_, execHalfTimerExpiry_on hu hh hp, hon.of_before rfl (LineKept.refl _) rfl (State.clearMarks_meas s), ?_,
      fun i => ?_, (State.settle_agrees hagrees s false).2⟩
    · exact (State.settle_agrees hagrees s false).1
    · have hmark : s.enterFlashOff.meas.channels[i].mark = .none := State.clearMarks_mark s i
      rcases State.settle_mark hagrees s false i with h | ⟨h, -⟩
      · exact h.trans hmark
      · rw [hmark] at h; cases h
  · subst hm
    obtain ⟨l, hl⟩ := State.requestFlash_frame (s.flashedOn x fast) x
    have hon := State.settle_handedOn (s.enterFlashOn x .expiry) s true
    have hkept := State.enterFlashOn_kept s x .expiry
    have hstatus := State.enterFlashOn_status s x .expiry
    have hentry := execHalfTimerExpiry_off hu hh hp hx
    have hapart := fun h => State.enterFlashOn_line_of_ne (s := s) h x .expiry
    rw [State.enterFlashOn_expiry hfast] at hon hkept hstatus hentry hapart
    have hagrees : ((s.flashedOn x fast).requestFlash x).drives = true → ((s.flashedOn x fast).requestFlash x).FlashAgrees := by
      rw [hl]; exact fun _ => hag.trans hx
    obtain ⟨hflash, hqueue⟩ := State.settle_agrees hagrees s true
    refine ⟨_, hentry, hon.of_before ?_ hkept.1 hstatus hkept.2, ?_, ?_, fun hj => ?_, fun hj => ?_⟩
    · rw [hl]; rfl
    · rw [hflash, hl]; exact State.flashedOn_flash hx fast
    · exact State.marksArmed_of_settle hagrees (by rw [hl]; rfl) (by rw [hl]; exact State.armMarks_mark s x) s true
    · rw [hqueue, hapart hj]
    · obtain ⟨e, he, hc⟩ := Line.putFlash_mem s.line (flashPayload x (s.flash.memory.current.ownLeft)
        (s.flash.memory.current.ownRight) fast)
      refine ⟨e, ?_, hc.trans (flashPayload_bits _ _ _ _)⟩
      rw [hqueue]
      unfold State.requestFlash
      rw [if_pos (by exact hj)]
      exact he

end Sys2Proof.Machine
end

section
/-! PROOFS. The demand, the harness load, the shed levels and the class orders as the hand-ons compute them (R104, R124, R125,
R129, R133). -/

namespace Sys2Proof.Machine

set_option Elab.async false

/-! ## The demand and the harness load (R104, R129) -/

theorem allChannels_eq_finRange : allChannels = List.finRange 8 := by decide

/-- What a channel adds to the demand: its averaged current, while that is valid and the channel is active (R104). -/
theorem State.channelDemand_eq (s : State) (i : Fin 8) : s.channelDemand i =
    if s.meas.channels[i].base.valid = true ∧
        ((s.cfg.channels[i].kind ≠ .motor ∧
            (s.out.channels[i].state = .inrush ∨ s.out.channels[i].state = .on ∨ s.out.channels[i].state = .test)) ∨
          (s.cfg.channels[i].kind = .motor ∧
            (s.fan.state = .ramping ∨ s.fan.state = .running ∨ s.fan.state = .test)))
      then s.meas.channels[i].base.avg.toNat else 0 := by
  unfold State.channelDemand
  refine if_congr (Bool.and_eq_true_iff.trans (and_comm.trans (and_congr_right fun _ => ?_))) rfl rfl
  by_cases hm : s.cfg.channels[i].kind = .motor
  · exact (State.hardApplies_motor hm).trans ((or_iff_right fun k => k.1 hm).trans (and_iff_right hm)).symm
  · exact (State.hardApplies_other hm).trans ((or_iff_left fun k => hm k.1).trans (and_iff_right hm)).symm

theorem State.demandNow_congr {s t : State} (hc : t.cfg = s.cfg) (ho : t.out.channels = s.out.channels)
    (hm : t.meas = s.meas) (hf : t.fan = s.fan) : t.demandNow = s.demandNow := by
  unfold State.demandNow
  congr 3
  funext i
  rw [State.channelDemand_eq, State.channelDemand_eq, hc, ho, hm, hf]

/-- The counted peers' demands are added to the station's own (R129). -/
theorem harnessOf_eq (own : Nat) (t : PeerTable) :
    harnessOf own t = min (own + ((t.records.filter (·.counts)).map (·.demand)).sum) 65535 := by
  have hsum (l : List PeerRecord) (n : Nat) : l.foldl (fun n r => if r.counts then n + r.demand else n) n =
      n + ((l.filter (·.counts)).map (·.demand)).sum := by
    induction l generalizing n with
    | nil => rfl
    | cons r l ih =>
      rw [List.foldl_cons, ih]
      by_cases hc : r.counts = true
      · simp [hc, Nat.add_assoc]
      · simp [hc]
  exact congrArg (min · 65535) (hsum t.records own)

/-! ## The levels and the orders (R124, R125, R133) -/

/-- The orders of R133's table, level by level. -/
theorem orderOf_table (e : Nat) (crank thermal : Bool) :
    (⟨orderOf e crank thermal 1, orderOf e crank thermal 2, orderOf e crank thermal 3⟩ : Classes Order) = {
      one := if thermal = true ∨ 3 ≤ e then .shed else .normal
      two := if thermal = true ∨ crank = true ∨ 2 ≤ e then .shed else if e = 1 then .limited else .normal
      three := if thermal = true ∨ crank = true ∨ 1 ≤ e then .shed else .normal } := by
  cases thermal with
  | true => simp [orderOf]
  | false =>
    cases crank <;> rcases e with _ | _ | _ | e <;> simp [orderOf, orderOfLevel]

/-- Values of the Supply Manager as they are recomputed are those of the contributors, the peers and the holds. -/
theorem State.supplyOk_of_recomputed {s : State} (hd : s.out.demand = s.demandNow)
    (hh : s.supply.harness = harnessOf s.out.demand s.peers)
    (hl : s.supply.localLevel = max (max s.supply.a s.supply.b) (max s.supply.c s.supply.d))
    (he : s.supply.effective = effectiveShed s.supply.localLevel s.peers)
    (ho : s.supply.orders = ⟨orderOf s.supply.effective s.supply.crank s.supply.thermal 1,
      orderOf s.supply.effective s.supply.crank s.supply.thermal 2,
      orderOf s.supply.effective s.supply.crank s.supply.thermal 3⟩) : s.SupplyOk where
  demand _ := by
    rw [hd, State.demandNow, allChannels_eq_finRange, satSum, funext s.channelDemand_eq]
  harness _ := hh.trans (harnessOf_eq _ _)
  localLevel _ := hl
  effective _ := by rw [he]; exact effectiveShed_spec _ _
  orders _ := ho.trans (orderOf_table _ _ _)

theorem Supply.judgeCrank_levels (u : Supply) (c : Bool) :
    ∃ crank release, u.judgeCrank c = { u with crank := crank, release := release } := by
  unfold Supply.judgeCrank
  split
  · exact ⟨_, _, rfl⟩
  · split <;> exact ⟨_, _, rfl⟩

/-- The Supply Manager's stage computes levels and orders from the contributors and holds that it leaves. -/
theorem State.stageSupply_levels (s : State) (ignWas : Bool) : ∃ v : Supply, (s.stageSupply ignWas).supply = v ∧
    v.localLevel = max (max v.a v.b) (max v.c v.d) ∧ v.effective = effectiveShed v.localLevel s.peers ∧
    v.orders = ⟨orderOf v.effective v.crank v.thermal 1, orderOf v.effective v.crank v.thermal 2,
      orderOf v.effective v.crank v.thermal 3⟩ := by
  unfold State.stageSupply
  dsimp only
  generalize (if ignWas = true ∧ s.res.ign = false then s.supply.ignOff
    else if ignWas = false ∧ s.res.ign = true then s.supply.ignOn else s.supply) = u
  obtain ⟨crank, release, h⟩ := Supply.judgeCrank_levels { u with
    localLevel := max (max u.a u.b) (max u.c u.d)
    effective := effectiveShed (max (max u.a u.b) (max u.c u.d)) s.peers } s.crankCondition
  rw [h]
  exact ⟨_, rfl, rfl, rfl, rfl⟩

theorem State.stageLoad_harness (s : State) : s.stageLoad.supply.harness = harnessOf s.demandNow s.peers := by
  unfold State.stageLoad
  dsimp only [State.withSupply_supply]
  split <;> rfl

/-- The hand-ons leave demand, harness load, levels and orders computed, whatever they start from. -/
theorem State.settle_supplyOk (s b : State) (x : Bool) : (s.settle b x).SupplyOk := by
  obtain ⟨timers, harness, hsupply⟩ := s.settle_supply b x
  obtain ⟨v, hv, hlocal, heffective, horders⟩ := s.stageUnion.stageSupply_levels s.res.ign
  rw [hv] at hsupply
  rw [State.stageUnion_peers] at heffective
  set u := (s.beforeChannels.stageChannels (s.beginsOn x)).stageFan with hu
  have hload : s.settle b x = (u.stageLoad.stageControl b.res.eff).stageStatus b := rfl
  have hdemand : u.demandNow = (s.settle b x).demandNow := by
    refine (State.demandNow_congr ?_ ?_ ?_ ?_).symm <;> rw [hload] <;> simp [State.stageLoad_channels]
  have hout : (s.settle b x).out.demand = u.demandNow := by
    rw [hload, State.stageStatus_out, State.stageControl_out]; rfl
  refine State.supplyOk_of_recomputed (hout.trans hdemand) ?_ ?_ ?_ ?_
  · rw [hout, hload, State.stageStatus_supply, State.stageControl_supply, State.stageLoad_harness]
    simp
  · rw [hsupply]; exact hlocal
  · rw [hsupply, State.settle_peers]; exact heffective
  · rw [hsupply]; exact horders

end Sys2Proof.Machine
end

section
/-! PROOFS. The channels as the hand-ons leave them: the commands of R83 to R86, the states that command, order and hold allow
(R88 to R91, R97, R100, R101), and the duties of R87. -/

namespace Sys2Proof.Machine

set_option Elab.async false

/-! ## The commands (R83 to R86) -/

theorem State.inFlashService_iff (s : State) (i : Fin 8) :
    s.inFlashService s.cfg.channels[i].side = true ↔ s.Flashes i := by
  unfold State.inFlashService State.Flashes EffectiveSet.flash
  rw [Bool.and_eq_true, decide_eq_true_iff]
  cases s.cfg.channels[i].side <;> exact Iff.rfl

section
variable {s : State} {e : ChannelEntry}

theorem State.commandFor_lamp (h : e.kind = .lamp) : s.commandFor e =
    if s.res.eff.byCode e.function then
      .steady (if s.supply.order e.cls = .limited then min (s.lampLevel e) 500 else s.lampLevel e)
    else .off := by
  unfold State.commandFor; rw [h]

theorem State.commandFor_plain (h : e.kind = .plain) :
    s.commandFor e = if s.res.eff.byCode e.function then .steady 1000 else .off := by
  unfold State.commandFor; rw [h]

theorem State.commandFor_flashLamp (h : e.kind = .flashLamp) :
    s.commandFor e = if s.inFlashService e.side then s.flashCommand else .off := by
  unfold State.commandFor; rw [h]

theorem State.commandFor_stopTurn (h : e.kind = .stopTurn) : s.commandFor e =
    if s.inFlashService e.side then s.flashCommand
    else if s.res.eff.stop then .steady 1000
    else if s.res.eff.side ∧ 0 < e.tail then .steady e.tail
    else .off := by
  unfold State.commandFor; rw [h]

end

theorem State.commandFor_congr {s t : State} (hr : t.res = s.res) (hf : t.flash.phase = s.flash.phase)
    (ho : ∀ cls, t.supply.order cls = s.supply.order cls) (e : ChannelEntry) : t.commandFor e = s.commandFor e := by
  unfold State.commandFor State.lampLevel State.inFlashService State.flashCommand
  rw [hr, hf, ho]

/-! ## The states (R88 to R91, R97, R100, R101) -/

/-- A channel stands in a state that its command, its class's order and its hold allow; one of kind Off follows no order. -/
structure Channel.Settled (c : Channel) (e : ChannelEntry) (order : Order) (hold : Bool) : Prop where
  lit      : c.state = .inrush ∨ c.state = .on → c.command = .flashOn ∨ ∃ l, c.command = .steady l
  dark     : c.state = .dark → c.command = .flashOff
  waiting  : c.state = .off → c.command = .off ∨ hold = true
  shed     : e.kind ≠ .off → order = .shed → c.state = .shed ∨ c.state = .locked ∨ c.state = .test
  released : c.state = .shed → order = .shed ∨ hold = true

section
variable {c : Channel} {e : ChannelEntry} {order : Order} {hold : Bool}

theorem Channel.Settled.of_locked (h : c.state = .locked) : c.Settled e order hold := by
  constructor <;> simp [h]

theorem Channel.Settled.of_test (h : c.state = .test) : c.Settled e order hold := by
  constructor <;> simp [h]

theorem Channel.Settled.of_shed (h : c.state = .shed) (ho : order = .shed ∨ hold = true) : c.Settled e order hold := by
  constructor <;> simp [h, ho]

theorem Channel.Settled.of_tripped (h : c.state = .tripped) (ho : order ≠ .shed) : c.Settled e order hold := by
  constructor <;> simp [h, ho]

theorem Channel.Settled.of_dark (h : c.state = .dark) (hc : c.command = .flashOff) (ho : order ≠ .shed) :
    c.Settled e order hold := by
  constructor <;> simp [h, hc, ho]

theorem Channel.Settled.of_lit (h : c.state = .inrush ∨ c.state = .on)
    (hc : (∃ l, c.command = .steady l) ∨ c.command = .flashOn) (ho : order ≠ .shed) : c.Settled e order hold := by
  rcases h with h | h <;> constructor <;> simp [h, hc.symm, ho]

theorem Channel.Settled.of_off (h : c.state = .off) (hc : c.command = .off ∨ hold = true)
    (ho : e.kind = .off ∨ order ≠ .shed) : c.Settled e order hold := by
  constructor <;> simp [h, hc]
  exact or_iff_not_imp_left.mp ho

theorem Channel.energize_state (c : Channel) (e : ChannelEntry) :
    (c.energize e).state = .inrush ∨ (c.energize e).state = .on := by
  unfold Channel.energize
  split
  · exact .inr rfl
  · exact .inl rfl

/-- A channel that is let go goes where its command says (R96, R101). -/
theorem Channel.release_settled (ho : order ≠ .shed) : (c.release e).1.Settled e order hold := by
  cases h : c.command with
  | steady l =>
    rw [Channel.release_lit (.inl ⟨l, h⟩)]
    exact .of_lit (c.energize_state e) (.inl ⟨l, by rw [Channel.energize_command, h]⟩) ho
  | flashOn =>
    rw [Channel.release_lit (.inr h)]
    exact .of_lit (c.energize_state e) (.inr (by rw [Channel.energize_command, h])) ho
  | flashOff =>
    rw [Channel.release_flashOff h]
    exact .of_dark rfl h ho
  | off =>
    rw [Channel.release_off h]
    exact .of_off rfl (.inl h) (.inr ho)

/-- A channel in Inrush or On stays there under a lit command alone (R90, R91). -/
theorem Channel.lightOn_settled (hs : c.state = .inrush ∨ c.state = .on) (before : Command) (fresh : Bool)
    (ho : order ≠ .shed) : (c.lightOn e before fresh).1.Settled e order hold := by
  cases h : c.command with
  | steady l =>
    rw [Channel.lightOn_steady ⟨l, h⟩]
    exact .of_lit hs (.inl ⟨l, h⟩) ho
  | flashOn =>
    rw [Channel.lightOn_flashOn h]
    split
    · exact .of_lit (c.energize_state e) (.inr (by rw [Channel.energize_command, h])) ho
    · exact .of_lit hs (.inr h) ho
  | flashOff =>
    rw [Channel.lightOn_flashOff h]
    exact .of_dark rfl h ho
  | off =>
    rw [Channel.lightOn_off h]
    exact .of_off rfl (.inl h) (.inr ho)

/-- From any state a channel comes to stand where its command, order and hold allow it. -/
theorem Channel.follow_settled (c : Channel) (e : ChannelEntry) (order : Order) (hold fresh : Bool) (cmd : Command) :
    (c.follow e order hold fresh cmd).1.Settled e order hold := by
  by_cases ht : c.state = .test
  · rw [Channel.follow_test ht]
    exact .of_test ht
  by_cases hl : c.state = .locked
  · rw [Channel.follow_locked hl]
    split
    · rename_i hc
      split
      · rename_i ho; exact .of_shed rfl (.inl ho)
      · rename_i ho; exact .of_off rfl (.inl hc) (.inr ho)
    · exact .of_locked hl
  by_cases ho : order = .shed
  · rw [Channel.follow_shedOrder ht hl ho]
    split
    · rename_i hs; exact .of_shed hs (.inl ho)
    · exact .of_shed rfl (.inl ho)
  have hback (h : c.state = .off ∨ c.state = .shed) : (c.follow e order hold fresh cmd).1.Settled e order hold := by
    cases hh : hold with
    | true =>
      rw [Channel.follow_held h ho rfl]
      rcases h with h | h
      · exact .of_off h (.inr rfl) (.inr ho)
      · exact .of_shed h (.inr rfl)
    | false =>
      rw [Channel.follow_released (.inr ⟨h, rfl⟩) ho]
      split
      · rename_i k; exact .of_off k.2 (.inl k.1) (.inr ho)
      · exact Channel.release_settled ho
  cases h : c.state with
  | test => exact absurd h ht
  | locked => exact absurd h hl
  | off => exact hback (.inl h)
  | shed => exact hback (.inr h)
  | inrush => rw [Channel.follow_lit (.inl h) ho]; exact Channel.lightOn_settled (c := c.take cmd) (.inl h) _ _ ho
  | on => rw [Channel.follow_lit (.inr h) ho]; exact Channel.lightOn_settled (c := c.take cmd) (.inr h) _ _ ho
  | dark =>
    by_cases hc : cmd = .flashOff
    · rw [Channel.follow_dark h hc ho]; exact .of_dark h hc ho
    · rw [Channel.follow_released (.inl ⟨h, hc⟩) ho, if_neg (by rw [h]; nofun)]
      exact Channel.release_settled ho
  | tripped =>
    rw [Channel.follow_tripped h ho]
    split
    · rename_i hc; exact .of_off rfl (.inl hc) (.inr ho)
    · exact .of_tripped h ho

end

/-! ## The duties (R87) -/

theorem lampDuty_le (level : Nat) (vnom vs : Int) : lampDuty level vnom vs ≤ 1000 := by
  unfold lampDuty
  split
  · exact le_rfl
  · exact min_le_left _ _

theorem State.dutyFor_le (s : State) (c : Channel) : s.dutyFor c ≤ 1000 := by
  unfold State.dutyFor
  split
  · split
    · exact le_rfl
    · exact lampDuty_le _ _ _
    · exact Nat.zero_le _
    · exact Nat.zero_le _
  · exact Nat.zero_le _

theorem roundDiv_nonneg {a b : Int} (ha : 0 ≤ a) (hb : 0 ≤ b) : 0 ≤ roundDiv a b := by
  unfold roundDiv
  rw [if_neg (by omega)]
  exact Int.ediv_nonneg (by omega) (by omega)

/-- The duty of a steady level, compensated by the square of nominal over supply (R87). -/
theorem lampDuty_eq (level : Nat) (vnom vs : Int) : (lampDuty level vnom vs : Int) =
    if 1000 ≤ level then 1000 else min 1000 (roundDiv ((level : Int) * (vnom * vnom)) (vs * vs)) := by
  unfold lampDuty
  split
  · rfl
  · have hpos : 0 ≤ roundDiv ((level : Int) * (vnom * vnom)) (vs * vs) :=
      roundDiv_nonneg (Int.mul_nonneg (Int.natCast_nonneg _) (mul_self_nonneg _)) (mul_self_nonneg _)
    omega

/-- What a channel's duty rests on: its state, its command and the supply (R87). -/
theorem State.dutyFor_congr {s t : State} (hn : t.straps = s.straps) (hv : t.meas.supply.valid = s.meas.supply.valid)
    (ha : t.meas.supply.avg = s.meas.supply.avg) {c d : Channel} (hs : d.state = c.state) (hc : d.command = c.command) :
    t.dutyFor d = s.dutyFor c := by
  unfold State.dutyFor State.vs State.vnom
  rw [hn, hv, ha, hs, hc]

@[simp] theorem Channel.goTo_duty (c : Channel) (st : ChannelState) : (c.goTo st).duty = c.duty := rfl

@[simp] theorem Channel.take_duty (c : Channel) (cmd : Command) : (c.take cmd).duty = c.duty := rfl

@[simp] theorem Channel.energize_duty (c : Channel) (e : ChannelEntry) : (c.energize e).duty = c.duty := by
  unfold Channel.energize; split <;> rfl

@[simp] theorem Channel.release_duty (c : Channel) (e : ChannelEntry) : (c.release e).1.duty = c.duty := by
  unfold Channel.release; split <;> simp

@[simp] theorem Channel.lightOn_duty (c : Channel) (e : ChannelEntry) (before : Command) (fresh : Bool) :
    (c.lightOn e before fresh).1.duty = c.duty := by
  unfold Channel.lightOn
  split
  · rfl
  · split <;> simp
  · rfl
  · rfl

theorem Channel.follow_duty (c : Channel) (e : ChannelEntry) (order : Order) (hold fresh : Bool) (cmd : Command) :
    (c.follow e order hold fresh cmd).1.duty = c.duty := by
  unfold Channel.follow
  cases c.state with
  | test | locked | shed | off | inrush | on | dark | tripped =>
    simp [apply_ite Prod.fst, apply_ite Channel.duty]

theorem State.followChannel_duty (s : State) (fresh : Bool) (i : Fin 8) :
    (s.followChannel fresh i).1.duty = s.out.channels[i].duty := by
  unfold State.followChannel
  dsimp only
  split
  · rfl
  · split
    · exact Channel.follow_duty ..
    · rfl

theorem State.stageChannels_duty (s : State) (x : Bool) (i : Fin 8) :
    (s.stageChannels x).out.channels[i].duty = (s.redrive i (s.followChannel x i).1).duty := by
  have hgate (t : State) : (t.openGate i).duty = t.out.channels[i].duty := by
    unfold State.openGate; split <;> rfl
  unfold State.stageChannels
  simp only [State.withOut_out, Vector.getElem_ofFn, Fin.getElem_fin]
  refine (hgate _).trans ?_
  simp

end Sys2Proof.Machine
end

section
namespace Sys2Proof.Machine

set_option Elab.async false

/-! ## The channels after the hand-ons -/

/-- A channel of kind Off stands in Off, or in Test, and is commanded nothing (R86). -/
def State.Resting (s : State) : Prop := ∀ i : Fin 8, s.cfg.channels[i].kind = .off →
  (s.out.channels[i].state = .off ∨ s.out.channels[i].state = .test) ∧ s.out.channels[i].command = .off

/-- The channels as the hand-ons compute them: what `State.ChannelsOk` says of a running station, by the model's own
functions. -/
structure State.ChannelsFollow (s : State) : Prop where
  resting : s.Resting
  command : ∀ i : Fin 8, s.cfg.channels[i].kind.follows = true →
    s.out.channels[i].command = s.commandFor s.cfg.channels[i]
  settled : s.drives = true → ∀ i : Fin 8, s.cfg.channels[i].kind ≠ .motor →
    s.out.channels[i].Settled s.cfg.channels[i] (s.supply.order s.cfg.channels[i].cls)
      (s.supply.held s.cfg.channels[i].cls)
  duty    : s.drives = true → ∀ i : Fin 8, s.cfg.channels[i].kind ≠ .motor →
    s.out.channels[i].duty = s.dutyFor s.out.channels[i]

theorem State.ChannelsFollow.channelsOk {s : State} (h : s.ChannelsFollow) : s.ChannelsOk where
  still i hk := (h.resting i hk).1
  unused _ i hk := (h.resting i hk).2
  lampOff _ i hk hf := by
    rcases hk with k | k
    · rw [h.command i (by rw [k]; rfl), State.commandFor_lamp k, hf]; rfl
    · rw [h.command i (by rw [k]; rfl), State.commandFor_plain k, hf]; rfl
  lampOn _ i hk hf l hl := by
    rw [h.command i (by rw [hk]; rfl), State.commandFor_lamp hk, if_pos hf, State.lampLevel, ← hl]
    by_cases ho : s.supply.order s.cfg.channels[i].cls = .limited
    · rw [if_pos ho, if_congr (and_iff_right ho) rfl rfl]
      congr 1
      split <;> omega
    · rw [if_neg ho, if_neg fun k => ho k.1]
  plainOn _ i hk hf := by
    rw [h.command i (by rw [hk]; rfl), State.commandFor_plain hk, if_pos hf]
  flashing _ i hk hf := by
    have hs := (s.inFlashService_iff i).mpr hf
    rcases hk with k | k
    · rw [h.command i (by rw [k]; rfl), State.commandFor_flashLamp k, if_pos hs]; rfl
    · rw [h.command i (by rw [k]; rfl), State.commandFor_stopTurn k, if_pos hs]; rfl
  flashOff _ i hk hf := by
    rw [h.command i (by rw [hk]; rfl), State.commandFor_flashLamp hk, if_neg (mt (s.inFlashService_iff i).mp hf)]
  stopTurn _ i hk hf := by
    rw [h.command i (by rw [hk]; rfl), State.commandFor_stopTurn hk, if_neg (mt (s.inFlashService_iff i).mp hf)]
  lit _ hd i hm := (h.settled hd i hm).lit
  dark _ hd i hm := (h.settled hd i hm).dark
  waiting _ hd i hm := (h.settled hd i hm).waiting
  shed _ hd i hm := (h.settled hd i hm).shed
  released _ hd i hm := (h.settled hd i hm).released
  duty _ hd i hm := by
    rw [h.duty hd i hm, State.dutyFor]
    split
    · cases s.out.channels[i].command with
      | steady l => exact lampDuty_eq l _ _
      | off | flashOn | flashOff => rfl
    · rfl

/-- A channel of kind Off or Motor is left as it is (R86). -/
theorem State.followChannel_unfollowed {s : State} {i : Fin 8} (h : s.cfg.channels[i].kind.follows = false) (fresh : Bool) :
    s.followChannel fresh i = (s.out.channels[i], false) := if_pos h

theorem State.followChannel_command {s : State} {i : Fin 8} (h : s.cfg.channels[i].kind.follows = true) (fresh : Bool) :
    (s.followChannel fresh i).1.command = s.commandFor s.cfg.channels[i] := by
  unfold State.followChannel
  dsimp only
  rw [if_neg (by rw [h]; nofun)]
  split
  · exact Channel.follow_command ..
  · rfl

theorem State.beforeChannels_cfg (s : State) : s.beforeChannels.cfg = s.cfg := by simp [State.beforeChannels]

theorem State.beforeChannels_out (s : State) : s.beforeChannels.out = s.out := by simp [State.beforeChannels]

theorem State.beforeChannels_drives (s : State) : s.beforeChannels.drives = s.drives :=
  State.drives_congr (by simp [State.beforeChannels]) (by simp [State.beforeChannels])

theorem State.beforeChannels_supplyRecord (s : State) : s.beforeChannels.meas.supply = s.meas.supply := by
  have hflasher := (State.stageFlasher_kept (s.stageUnion.stageSupply s.res.ign)).2.supply
  rw [State.stageSupply_meas, State.stageUnion_meas] at hflasher
  exact hflasher

/-- The commands that the hand-ons compute are those of the values they end in. -/
theorem State.settle_commandFor (s b : State) (x : Bool) (e : ChannelEntry) :
    (s.settle b x).commandFor e = s.beforeChannels.commandFor e := by
  obtain ⟨timers, harness, hsupply⟩ := s.settle_supply b x
  refine State.commandFor_congr (s.settle_res b x) (congrArg Flasher.phase (s.settle_flash b x)) (fun cls => ?_) e
  rw [hsupply]
  simp [Supply.order]

/-- A channel after the hand-ons, but for its duty and its open-load timer. -/
theorem State.settle_followed {s : State} {i : Fin 8} (hm : s.cfg.channels[i].kind ≠ .motor) (b : State) (x : Bool) :
    ∃ checked, (s.settle b x).out.channels[i] = (s.beforeChannels.followChannel (s.beginsOn x) i).1.gated
      (s.settle b x).out.channels[i].duty checked := by
  obtain ⟨duty, checked, hd, -⟩ := s.beforeChannels.stageChannels_gated (s.beginsOn x) i
  rw [State.settle_channel hm, hd]
  exact ⟨checked, rfl⟩

theorem State.settle_resting {s : State} (h : s.Resting) (b : State) (x : Bool) : (s.settle b x).Resting := by
  intro i hk
  rw [State.settle_cfg] at hk
  obtain ⟨checked, hd⟩ := State.settle_followed (s := s) (i := i) (by rw [hk]; nofun) b x
  rw [State.followChannel_unfollowed (by rw [State.beforeChannels_cfg, hk]; rfl), State.beforeChannels_out] at hd
  rw [hd]
  exact h i hk

theorem ChannelKind.follows_iff (k : ChannelKind) : k.follows = true ↔ k ≠ .off ∧ k ≠ .motor := by
  cases k <;> simp [ChannelKind.follows]

theorem State.settle_duty {s : State} {i : Fin 8} (hm : s.cfg.channels[i].kind ≠ .motor) (hd : s.drives = true) (b : State)
    (x : Bool) : (s.settle b x).out.channels[i].duty = (s.settle b x).dutyFor (s.settle b x).out.channels[i] := by
  obtain ⟨checked, hch⟩ := State.settle_followed hm b x
  have hduty : (s.settle b x).out.channels[i].duty =
      s.beforeChannels.dutyFor (s.beforeChannels.followChannel (s.beginsOn x) i).1 := by
    rw [State.settle_channel hm, State.stageChannels_duty, State.redrive, if_pos]
    exact ⟨s.beforeChannels_drives.trans hd,
      (State.isMotor_eq_false_iff _ _).mpr (by rw [State.beforeChannels_cfg]; exact hm)⟩
  have hsupply : (s.settle b x).meas.supply = s.beforeChannels.meas.supply :=
    (State.settle_handedOn s b x).meas.supply.trans s.beforeChannels_supplyRecord.symm
  rw [hduty]
  refine (State.dutyFor_congr ?_ ?_ ?_ ?_ ?_).symm
  · simp [State.beforeChannels]
  · rw [hsupply]
  · rw [hsupply]
  · rw [hch]; rfl
  · rw [hch]; rfl

/-- The hand-ons leave the channels following, from any state in which those of kind Off rest. -/
theorem State.settle_channelsFollow {s : State} (h : s.Resting) (b : State) (x : Bool) :
    (s.settle b x).ChannelsFollow := by
  have hrest := State.settle_resting h b x
  refine ⟨hrest, fun i hf => ?_, fun hd i hm => ?_, fun hd i hm => ?_⟩
  · rw [State.settle_cfg] at hf ⊢
    obtain ⟨checked, hch⟩ := State.settle_followed ((ChannelKind.follows_iff _).mp hf).2 b x
    rw [State.settle_commandFor, hch]
    have hcmd := State.followChannel_command (s := s.beforeChannels) (i := i) (by rw [State.beforeChannels_cfg]; exact hf)
      (s.beginsOn x)
    rw [State.beforeChannels_cfg] at hcmd
    exact hcmd
  · by_cases ho : (s.settle b x).cfg.channels[i].kind = .off
    · obtain ⟨hs | hs, hc⟩ := hrest i ho
      · exact .of_off hs (.inl hc) (.inl ho)
      · exact .of_test hs
    · rw [State.settle_cfg] at ho hm ⊢
      rw [State.settle_drives] at hd
      obtain ⟨cmd, duty, checked, hch, -⟩ := State.settle_gated ho hm b x
      rw [hch, if_pos hd]
      have hset := Channel.follow_settled s.out.channels[i] s.cfg.channels[i]
        ((s.settle b x).supply.order s.cfg.channels[i].cls) ((s.settle b x).supply.held s.cfg.channels[i].cls)
        (s.beginsOn x) cmd
      exact ⟨hset.lit, hset.dark, hset.waiting, hset.shed, hset.released⟩
  · rw [State.settle_cfg] at hm
    rw [State.settle_drives] at hd
    exact State.settle_duty hm hd b x

/-! ## The duties under the hand-ons (R87, R147) -/

theorem fanDuty_le (veff : Nat) (vs : Int) : fanDuty veff vs ≤ 1000 := min_le_left _ _

theorem State.redrive_duty_le (s : State) (i : Fin 8) {c : Channel} (h : c.duty ≤ 1000) : (s.redrive i c).duty ≤ 1000 := by
  unfold State.redrive
  split
  · exact s.dutyFor_le c
  · exact h

theorem State.setChannel_duty_le {s : State} (h : ∀ i : Fin 8, s.out.channels[i].duty ≤ 1000) (m : Fin 8) {c : Channel}
    (hc : c.duty ≤ 1000) (i : Fin 8) : (s.setChannel m c).out.channels[i].duty ≤ 1000 := by
  simp only [State.setChannel, State.withOut_out, getElem_set_fin]
  split
  · exact hc
  · exact h i

theorem State.driveMotor_duty_le {s : State} (h : ∀ i : Fin 8, s.out.channels[i].duty ≤ 1000) (m : Fin 8) (cleared : Bool)
    (i : Fin 8) : (s.driveMotor m cleared).out.channels[i].duty ≤ 1000 := by
  unfold State.driveMotor
  refine State.setChannel_duty_le h m ?_ i
  split
  · dsimp only
    split
    · exact fanDuty_le _ _
    · exact Nat.zero_le _
  · split <;> exact h m

theorem State.stageFan_duty_le {s : State} (h : ∀ i : Fin 8, s.out.channels[i].duty ≤ 1000) (i : Fin 8) :
    s.stageFan.out.channels[i].duty ≤ 1000 := by
  unfold State.stageFan
  split
  · exact h i
  · refine State.driveMotor_duty_le (s := s.withFan _) ?_ _ _ i
    exact h

/-- The hand-ons keep every duty within its range. -/
theorem State.settle_dutiesOk {s : State} (h : s.DutiesOk) (b : State) (x : Bool) : (s.settle b x).DutiesOk := by
  refine ⟨fun i => ?_, by rw [State.settle_gauges]; exact h.2⟩
  rw [State.settle_eq, State.stageStatus_out, State.stageControl_out]
  show (s.beforeChannels.stageChannels (s.beginsOn x)).stageFan.stageLoad.out.channels[i].duty ≤ 1000
  rw [State.stageLoad_channels]
  refine State.stageFan_duty_le (fun j => ?_) i
  rw [State.stageChannels_duty]
  refine State.redrive_duty_le _ _ ?_
  rw [State.followChannel_duty, State.beforeChannels_out]
  exact h.1 j

end Sys2Proof.Machine
end

section
/-! PROOFS. What a command does to the outputs: it leaves what their invariants read, or prepares the channels for the hand-ons
that follow, or stops or starts the station with every output still. Supply, channels and duties are kept by each. -/

namespace Sys2Proof.Machine

set_option Elab.async false

/-! ## What the invariants of the outputs read -/

/-- What the invariants of the Supply Manager, the channels and their duties read of a state, but for whether the station
runs. -/
structure OutputView where
  cfg      : WorkingConfig
  straps   : Straps
  state    : StationState
  records  : List PeerRecord
  res      : Resolver
  phase    : FlashPhase
  voltage  : Bool × Int
  currents : Fin 8 → Bool × Int
  channels : Fin 8 → ChannelState × Command × Nat
  demand   : Nat
  fan      : FanState
  supply   : Supply

def State.outputView (s : State) : OutputView where
  cfg := s.cfg
  straps := s.straps
  state := s.ctl.state
  records := s.peers.records
  res := s.res
  phase := s.flash.phase
  voltage := (s.meas.supply.valid, s.meas.supply.avg)
  currents i := (s.meas.channels[i].base.valid, s.meas.channels[i].base.avg)
  channels i := (s.out.channels[i].state, s.out.channels[i].command, s.out.channels[i].duty)
  demand := s.out.demand
  fan := s.fan.state
  supply := s.supply

section
variable {s t : State} (hu : t.up = true → s.up = true) (hv : t.outputView = s.outputView)
include hu hv

theorem State.SupplyOk.of_view (h : s.SupplyOk) : t.SupplyOk := by
  have hcfg : t.cfg = s.cfg := congrArg (·.cfg) hv
  have hrecords : t.peers.records = s.peers.records := congrArg (·.records) hv
  have hvalid (i : Fin 8) : t.meas.channels[i].base.valid = s.meas.channels[i].base.valid := congrArg (·.currents i |>.1) hv
  have havg (i : Fin 8) : t.meas.channels[i].base.avg = s.meas.channels[i].base.avg := congrArg (·.currents i |>.2) hv
  have hstate (i : Fin 8) : t.out.channels[i].state = s.out.channels[i].state := congrArg (·.channels i |>.1) hv
  have hdemand : t.out.demand = s.out.demand := congrArg (·.demand) hv
  have hfan : t.fan.state = s.fan.state := congrArg (·.fan) hv
  have hsupply : t.supply = s.supply := congrArg (·.supply) hv
  refine ⟨fun k => ?_, fun k => ?_, fun k => ?_, fun k => ?_, fun k => ?_⟩
  · simp only [hdemand, hcfg, hvalid, havg, hstate, hfan]; exact h.demand (hu k)
  · rw [hsupply, hdemand, hrecords]; exact h.harness (hu k)
  · rw [hsupply]; exact h.localLevel (hu k)
  · rw [hsupply, hrecords]; exact h.effective (hu k)
  · rw [hsupply]; exact h.orders (hu k)

theorem State.ChannelsOk.of_view (h : s.ChannelsOk) : t.ChannelsOk := by
  have hcfg : t.cfg = s.cfg := congrArg (·.cfg) hv
  have hstraps : t.straps = s.straps := congrArg (·.straps) hv
  have hctl : t.ctl.state = s.ctl.state := congrArg (·.state) hv
  have hres : t.res = s.res := congrArg (·.res) hv
  have hphase : t.flash.phase = s.flash.phase := congrArg (·.phase) hv
  have hvalid : t.meas.supply.valid = s.meas.supply.valid := congrArg (·.voltage.1) hv
  have havg : t.meas.supply.avg = s.meas.supply.avg := congrArg (·.voltage.2) hv
  have hstate (i : Fin 8) : t.out.channels[i].state = s.out.channels[i].state := congrArg (·.channels i |>.1) hv
  have hcommand (i : Fin 8) : t.out.channels[i].command = s.out.channels[i].command := congrArg (·.channels i |>.2.1) hv
  have hduty (i : Fin 8) : t.out.channels[i].duty = s.out.channels[i].duty := congrArg (·.channels i |>.2.2) hv
  have hsupply : t.supply = s.supply := congrArg (·.supply) hv
  have hdrives : t.drives = s.drives := by unfold State.drives State.strapInvalid; rw [hstraps, hctl]
  have hflashes (i : Fin 8) : t.Flashes i ↔ s.Flashes i := by unfold State.Flashes; rw [hcfg, hres, hphase]
  have hvnom : t.vnom = s.vnom := by unfold State.vnom; rw [hstraps]
  have hvs (n : Nat) : t.vs n = s.vs n := by unfold State.vs; rw [hvalid, havg]
  constructor <;>
    simp only [hcfg, hres, hphase, hstate, hcommand, hduty, hsupply, hdrives, hflashes, hvnom, hvs]
  · exact h.still
  · exact fun k => h.unused (hu k)
  · exact fun k => h.lampOff (hu k)
  · exact fun k => h.lampOn (hu k)
  · exact fun k => h.plainOn (hu k)
  · exact fun k => h.flashing (hu k)
  · exact fun k => h.flashOff (hu k)
  · exact fun k => h.stopTurn (hu k)
  · exact fun k => h.lit (hu k)
  · exact fun k => h.dark (hu k)
  · exact fun k => h.waiting (hu k)
  · exact fun k => h.shed (hu k)
  · exact fun k => h.released (hu k)
  · exact fun k => h.duty (hu k)

end

/-! ## What a command leaves of the outputs for the hand-ons -/

/-- A command may change a channel before the hand-ons, but leaves its command, its duty in range, and one of kind Off at
rest. -/
structure ChannelPrepared (e : ChannelEntry) (c d : Channel) : Prop where
  command : d.command = c.command
  duty    : c.duty ≤ 1000 → d.duty ≤ 1000
  rest    : e.kind = .off → c.state = .off ∨ c.state = .test → d.state = .off ∨ d.state = .test

theorem ChannelPrepared.refl (e : ChannelEntry) (c : Channel) : ChannelPrepared e c c := ⟨rfl, id, fun _ => id⟩

theorem ChannelPrepared.trans {e : ChannelEntry} {a b c : Channel} (h : ChannelPrepared e a b) (k : ChannelPrepared e b c) :
    ChannelPrepared e a c :=
  ⟨k.command.trans h.command, k.duty ∘ h.duty, fun ho => k.rest ho ∘ h.rest ho⟩

/-- A channel whose state a command leaves. -/
theorem ChannelPrepared.of_state {e : ChannelEntry} {c d : Channel} (hc : d.command = c.command := by rfl)
    (hd : d.duty = c.duty := by rfl) (hs : d.state = c.state := by rfl) : ChannelPrepared e c d :=
  ⟨hc, fun h => hd ▸ h, fun _ h => hs ▸ h⟩

/-- What a command leaves of every output for the hand-ons. -/
structure State.Prepared (s u : State) : Prop where
  cfg      : u.cfg = s.cfg
  channels : ∀ i : Fin 8, ChannelPrepared s.cfg.channels[i] s.out.channels[i] u.out.channels[i]
  gauges   : ∀ i : Fin 4, s.gauges.drives[i].duty ≤ 1000 → u.gauges.drives[i].duty ≤ 1000

/-- A command of another block leaves the outputs as they are. -/
theorem State.Prepared.aside {s u : State} (hc : u.cfg = s.cfg := by rfl) (ho : u.out = s.out := by rfl)
    (hg : u.gauges = s.gauges := by rfl) : s.Prepared u :=
  ⟨hc, fun i => by rw [ho]; exact .refl _ _, fun i h => by rw [hg]; exact h⟩

theorem State.Prepared.trans {s t u : State} (h : s.Prepared t) (k : t.Prepared u) : s.Prepared u :=
  ⟨k.cfg.trans h.cfg, fun i => (h.channels i).trans (h.cfg ▸ k.channels i), fun i => k.gauges i ∘ h.gauges i⟩

theorem State.Prepared.either {s a b : State} {p : Prop} [Decidable p] (ha : s.Prepared a) (hb : s.Prepared b) :
    s.Prepared (if p then a else b) := by
  split
  · exact ha
  · exact hb

/-- One channel changed, and nothing else of the outputs. -/
theorem State.Prepared.setChannel {s u : State} {i : Fin 8} {c : Channel}
    (ho : u.out = (s.setChannel i c).out) (h : ChannelPrepared s.cfg.channels[i] s.out.channels[i] c)
    (hc : u.cfg = s.cfg := by rfl) (hg : u.gauges = s.gauges := by rfl) : s.Prepared u := by
  refine ⟨hc, fun j => ?_, fun j k => by rw [hg]; exact k⟩
  rw [ho]
  simp only [State.setChannel, State.withOut_out, getElem_set_fin]
  split
  · rename_i hij
    subst hij
    exact h
  · exact .refl _ _

/-- Every channel and gauge drive is still. -/
structure State.Still (s : State) : Prop where
  channels : ∀ i : Fin 8, s.out.channels[i].state = .off ∧ s.out.channels[i].duty = 0
  gauges   : ∀ i : Fin 4, s.gauges.drives[i].duty = 0

/-! ## What a command does to the outputs -/

/-- What a command does to the outputs: it leaves what the invariants read, it is followed by the hand-ons in a running
station, or it stops or starts the station with every output still. -/
inductive OutputsFollow : State → State → Prop
  | aside {s t : State} (hv : t.outputView = s.outputView) (hu : t.up = true → s.up = true)
      (hg : ∀ i : Fin 4, s.gauges.drives[i].duty ≤ 1000 → t.gauges.drives[i].duty ≤ 1000) : OutputsFollow s t
  | settle {s u b : State} {x : Bool} (hu : s.up = true) (h : s.Prepared u) : OutputsFollow s (u.settle b x)
  | stop {s t : State} (hu : t.up = false) (h : t.Still) : OutputsFollow s t
  | start {s u b : State} {x : Bool} (h : u.Still) (hc : ∀ i : Fin 8, u.out.channels[i].command = .off) :
      OutputsFollow s (u.settle b x)
  | trans {s t u : State} (h : OutputsFollow s t) (k : OutputsFollow t u) : OutputsFollow s u

theorem State.not_up {s : State} (h : s.up = false) {p : Prop} (k : s.up = true) : p := by rw [h] at k; cases k

theorem State.Prepared.resting {s u : State} (h : s.Prepared u) (hu : s.up = true) (hs : s.ChannelsOk) : u.Resting := by
  intro i hk
  rw [h.cfg] at hk
  exact ⟨(h.channels i).rest hk (hs.still i hk), (h.channels i).command.trans (hs.unused hu i hk)⟩

/-- Every command keeps demand, harness load, levels and orders computed. -/
theorem OutputsFollow.supply {s t : State} (h : OutputsFollow s t) : s.SupplyOk → t.SupplyOk := by
  induction h with
  | aside hv hu _ => exact .of_view hu hv
  | settle | start => exact fun _ => State.settle_supplyOk _ _ _
  | stop hu _ =>
    exact fun _ => ⟨State.not_up hu, State.not_up hu, State.not_up hu, State.not_up hu, State.not_up hu⟩
  | trans _ _ ih ik => exact ik ∘ ih

/-- Every command keeps the channels' commands, states and duties in agreement. -/
theorem OutputsFollow.channels {s t : State} (h : OutputsFollow s t) : s.ChannelsOk → t.ChannelsOk := by
  induction h with
  | aside hv hu _ => exact .of_view hu hv
  | settle hu h => exact fun hs => (State.settle_channelsFollow (h.resting hu hs) _ _).channelsOk
  | stop hu h =>
    have hno {p : Prop} := State.not_up hu (p := p)
    exact fun _ => ⟨fun i _ => .inl (h.channels i).1, hno, hno, hno, hno, hno, hno, hno, hno, hno, hno, hno, hno, hno⟩
  | start h hc =>
    exact fun _ => (State.settle_channelsFollow (fun i _ => ⟨.inl (h.channels i).1, hc i⟩) _ _).channelsOk
  | trans _ _ ih ik => exact ik ∘ ih

/-- Every command keeps every duty within its range. -/
theorem OutputsFollow.duties {s t : State} (h : OutputsFollow s t) : s.DutiesOk → t.DutiesOk := by
  have hstill {u : State} (h : u.Still) : u.DutiesOk :=
    ⟨fun i => (h.channels i).2 ▸ Nat.zero_le _, fun i => h.gauges i ▸ Nat.zero_le _⟩
  induction h with
  | aside hv _ hg =>
    exact fun hs => ⟨fun i => (congrArg (·.channels i |>.2.2) hv).trans_le (hs.1 i), fun i => hg i (hs.2 i)⟩
  | settle _ h =>
    exact fun hs => State.settle_dutiesOk ⟨fun i => (h.channels i).duty (hs.1 i), fun i => h.gauges i (hs.2 i)⟩ _ _
  | stop _ h => exact fun _ => hstill h
  | start h _ => exact fun _ => State.settle_dutiesOk (hstill h) _ _
  | trans _ _ ih ik => exact ik ∘ ih

end Sys2Proof.Machine
end

section
namespace Sys2Proof.Machine

set_option Elab.async false

/-! ## The channels that a command prepares -/

/-- A channel whose test ends goes to Off, drives nothing and keeps its command (R103). -/
theorem ChannelPrepared.endTest (e : ChannelEntry) (c : Channel) (r : TestResult) : ChannelPrepared e c (c.endTest r) :=
  ⟨rfl, fun _ => Nat.zero_le _, fun _ _ => .inl rfl⟩

theorem ChannelPrepared.release {e : ChannelEntry} {c : Channel} (hs : c.state = .tripped) :
    ChannelPrepared e c (c.release e).1 := by
  refine ⟨Channel.release_command c e, fun h => ?_, fun _ h => ?_⟩
  · rw [Channel.release_duty]; exact h
  · rw [hs] at h; exact h.elim nofun nofun

theorem Channel.trip_leaves (c : Channel) (e : ChannelEntry) : (c.trip e).command = c.command ∧ (c.trip e).duty = 0 := by
  unfold Channel.trip
  dsimp only
  split <;> exact ⟨rfl, rfl⟩

/-- A channel trips where a limit applies to it, so one of kind Off trips in Test alone and goes to Off (R86, R103). -/
theorem State.trip_prepared {s : State} {i : Fin 8} (h : s.hardApplies i = true ∨ s.overApplies i = true) :
    s.Prepared (s.trip i) := by
  rcases s.trip_ways i with ⟨hm, hf⟩ | ⟨hm, hf⟩ | ⟨hm, hc⟩ | ⟨hm, hc⟩
  · rw [State.trip_motorTest hm hf]
    exact .setChannel rfl (.endTest _ _ _)
  · rw [State.trip_motor hm hf]
    exact .setChannel rfl ⟨rfl, fun _ => Nat.zero_le _, fun _ => id⟩
  · rw [State.trip_test hm hc]
    exact .setChannel rfl (.endTest _ _ _)
  · rw [State.trip_other hm hc]
    obtain ⟨hcmd, hduty⟩ := s.out.channels[i].trip_leaves s.cfg.channels[i]
    refine .setChannel rfl ⟨hcmd, fun _ => hduty ▸ Nat.zero_le _, fun _ hrest => ?_⟩
    rw [State.hardApplies_other hm, State.overApplies_other hm] at h
    rcases hrest with k | k
    · simp only [k, reduceCtorEq, or_self] at h
    · exact absurd k hc

theorem State.compareCurrent_prepared (s : State) (i : Fin 8) : s.Prepared (s.compareCurrent i) := by
  rw [State.compareCurrent_eq (timed := s.overApplies i)
    (checked := decide (s.cfg.channels[i].kind ≠ .motor ∧ s.openCheck i = true)) Iff.rfl decide_eq_true_iff]
  exact .setChannel rfl .of_state

theorem State.currentCompleted_prepared (s : State) (i : Fin 8) : s.Prepared (s.currentCompleted i) := by
  have hstall : (s.compareCurrent i).Prepared ((s.compareCurrent i).judgeStall i) := by
    rw [State.judgeStall_frame]; exact .aside
  have hbulb (t : State) : t.Prepared (t.checkBulb i) := by
    refine .either (.either ?_ .aside) .aside
    rw [State.bulbOut_frame]
    exact .aside
  exact ((s.compareCurrent_prepared i).trans hstall).trans (hbulb _)

theorem State.judgeThermal_prepared (s : State) : s.Prepared s.judgeThermal :=
  .either (.either .aside .aside) (.either .aside .aside)

theorem State.drainStep_prepared (s : State) : s.Prepared s.drainStep := by
  unfold State.drainStep
  split
  · exact .aside
  · exact .either (.either .aside .aside) .aside

theorem State.enterTest_prepared (s : State) (i : Fin 8) {duty : Nat} (h : duty ≤ 1000) (ms : Nat) :
    s.Prepared (s.enterTest i duty ms) := by
  unfold State.enterTest
  dsimp only
  split
  · exact .setChannel rfl ⟨rfl, fun _ => h, fun _ => id⟩
  · split
    · exact .setChannel rfl ⟨rfl, fun _ => h, fun _ => id⟩
    · exact .setChannel rfl ⟨rfl, fun _ => h, fun _ _ => .inr rfl⟩

/-- Entry to Setup puts every output at rest (R105, R171, R182). -/
theorem State.inSetup_prepared (s : State) : s.Prepared s.inSetup := by
  refine ⟨rfl, fun i => ?_, fun i _ => ?_⟩
  · have hc : s.inSetup.out.channels[i] = s.out.channels[i].stand := by simp [State.inSetup]
    rw [hc]
    exact ⟨rfl, fun _ => Nat.zero_le _, fun _ _ => .inl rfl⟩
  · have hg : s.inSetup.gauges.drives[i] = s.gauges.drives[i].atRest := by simp [State.inSetup]
    rw [hg]
    exact Nat.zero_le _

theorem State.senderCompleted_prepared (s : State) (n : Fin 4) : s.Prepared (s.senderCompleted n) := by
  obtain ⟨_, _, _, _, h, -⟩ := State.senderCompleted_frame (s := s) (n := n) rfl rfl
  rw [h]
  exact .aside

/-! ## Every output still -/

/-- The outputs as a reset, a wake or the loss of power leaves them (R105, R171). -/
theorem State.still_of_init {s : State} (ho : s.out.channels = Vector.replicate 8 Channel.init)
    (hg : s.gauges.drives = Vector.replicate 4 Gauge.init) : s.Still :=
  ⟨fun i => by simp [ho, Channel.init], fun i => by simp [hg, Gauge.init]⟩

theorem State.asleep_still (s : State) : s.asleep.Still := by
  refine ⟨fun i => ?_, fun i => ?_⟩
  · simp [State.asleep, Channel.stand, Channel.goTo]
  · simp [State.asleep, Gauge.atRest]

/-! ## What the aside commands leave -/

/-- A change of a channel that leaves its state, command and duty. -/
theorem State.setChannel_view {s : State} {i : Fin 8} {c : Channel} (hs : c.state = s.out.channels[i].state)
    (hc : c.command = s.out.channels[i].command) (hd : c.duty = s.out.channels[i].duty) :
    (s.setChannel i c).outputView = s.outputView := by
  refine congrArg (fun f => { s.outputView with channels := f }) (funext fun j => ?_)
  simp only [State.setChannel, State.withOut_out, getElem_set_fin]
  split
  · rename_i hij
    subst hij
    rw [hs, hc, hd]
  · rfl

/-- A change of a current record that leaves its averaged value and whether it is valid. -/
theorem State.setCurrent_view {s : State} {i : Fin 8} {r : CurrentRecord}
    (h : (r.base.valid, r.base.avg) = (s.meas.channels[i].base.valid, s.meas.channels[i].base.avg)) :
    (s.withMeas { s.meas with channels := s.meas.channels.set i r }).outputView = s.outputView := by
  refine congrArg (fun f => { s.outputView with currents := f }) (funext fun j => ?_)
  simp only [State.withMeas_meas, getElem_set_fin]
  split
  · rename_i hij
    subst hij
    exact h
  · rfl

theorem coilDuty_le (d : Int) (dfs : Nat) (vnom vs : Int) : coilDuty d dfs vnom vs ≤ 1000 := min_le_left _ _

/-- A gauge update drives a duty within its range (R168, R169). -/
theorem State.workGauge_duty_le (s : State) (g : GaugeEntry) {x : Gauge} (h : x.duty ≤ 1000) :
    (s.workGauge g x).duty ≤ 1000 := by
  unfold State.workGauge
  dsimp only
  split
  · exact h
  · dsimp only; omega
  · exact coilDuty_le _ _ _ _
  · exact coilDuty_le _ _ _ _

end Sys2Proof.Machine
end

section
namespace Sys2Proof.Machine

set_option Elab.async false

/-! ## Commands as steps of the outputs -/

/-- A command of another block, which at most stops the station. -/
theorem OutputsFollow.beside {s t : State} (hv : t.outputView = s.outputView := by rfl)
    (hu : t.up = true → s.up = true := by exact id)
    (hg : ∀ i : Fin 4, s.gauges.drives[i].duty ≤ 1000 → t.gauges.drives[i].duty ≤ 1000 := by exact fun _ => id) :
    OutputsFollow s t := .aside hv hu hg

theorem OutputsFollow.refl (s : State) : OutputsFollow s s := .beside

/-- Hand-ons over a change of other blocks, in a running station. -/
theorem OutputsFollow.settleAside {s u b : State} {x : Bool} (hu : s.up = true) (hc : u.cfg = s.cfg := by rfl)
    (ho : u.out = s.out := by rfl) (hg : u.gauges = s.gauges := by rfl) : OutputsFollow s (u.settle b x) :=
  .settle hu (.aside hc ho hg)

theorem OutputsFollow.either {s a b : State} {p : Prop} [Decidable p] (ha : OutputsFollow s a) (hb : OutputsFollow s b) :
    OutputsFollow s (if p then a else b) := by
  split
  · exact ha
  · exact hb

theorem OutputsFollow.ite {s a : State} {p : Prop} [Decidable p] (h : p → OutputsFollow s a) :
    OutputsFollow s (if p then a else s) := by
  split
  · exact h ‹_›
  · exact .refl s

/-! ## The line, received frames and the orders of a restart -/

theorem OutputsFollow.requestStatus (s : State) : OutputsFollow s s.requestStatus := by
  obtain ⟨_, h⟩ := s.requestStatus_frame
  rw [h]; exact .beside

theorem OutputsFollow.requestAnnounce (s : State) : OutputsFollow s s.requestAnnounce := by
  obtain ⟨_, h⟩ := s.requestAnnounce_frame
  rw [h]; exact .beside

theorem OutputsFollow.reloadQuiet (s : State) : OutputsFollow s s.reloadQuiet := by
  unfold State.reloadQuiet
  exact .ite fun _ => .beside

theorem OutputsFollow.takeLine (s : State) : OutputsFollow s s.takeLine := by
  rcases s.takeLine_cases with h | ⟨_, _, _, _, _, _, h⟩ <;> rw [h]
  · exact .refl s
  · exact .beside

theorem OutputsFollow.raiseObjection (s : State) : OutputsFollow s s.raiseObjection := by
  unfold State.raiseObjection
  split
  · exact .refl s
  · exact .beside

theorem OutputsFollow.findDuplicate (s : State) : OutputsFollow s s.findDuplicate := by
  obtain ⟨_, _, h⟩ := s.findDuplicate_frame
  rw [h]; exact .beside

theorem OutputsFollow.orderRestart (s : State) : OutputsFollow s s.orderRestart :=
  .beside rfl (State.not_up s.orderRestart_up)

theorem OutputsFollow.orderIfLeft (s : State) (q : Queue) : OutputsFollow s (s.orderIfLeft q) :=
  .ite fun _ => .orderRestart s

theorem OutputsFollow.attemptFailed {s : State} (hu : s.up = true) (f : InFlight) :
    OutputsFollow s (s.attemptFailed f) := by
  obtain ⟨_, _, _, _, h⟩ := s.attemptFailed_frame f
  rw [h]; exact .beside rfl fun _ => hu

theorem OutputsFollow.attempt {s : State} {g : InFlight → State} (h : s.up = true → ∀ f, OutputsFollow s (g f)) :
    OutputsFollow s (match s.line.inFlight with | some f => if s.up then g f else s | none => s) := by
  cases s.line.inFlight with
  | none => exact .refl s
  | some f => exact .ite fun hu => h hu f

theorem OutputsFollow.flashHanded {s t : State} (hu : s.up = true) (h : OutputsFollow s t) (hp : s.Prepared t) (b : State)
    (c : FlashContent) : OutputsFollow s (t.flashHanded b c) := by
  obtain ⟨_, _, ha⟩ := t.alignTo_frame c
  refine .either (.settle hu (hp.trans ?_)) h
  rw [ha]
  exact .aside

theorem OutputsFollow.takeFlash {s : State} (hu : s.up = true) (b : State) (n : Nat) (byte : Byte) :
    OutputsFollow s (s.takeFlash b n byte) := by
  obtain ⟨_, _, h⟩ := s.flashTaken_frame n byte
  rw [State.takeFlash_eq, h]
  exact .settleAside hu

theorem OutputsFollow.takeStatus {s : State} (hu : s.up = true) (b : State) (n : Nat) (p : List Byte) :
    OutputsFollow s (s.takeStatus b n p) := by
  refine .ite fun _ => ?_
  split
  · exact .settleAside hu
  · exact .beside

theorem OutputsFollow.takeAnnounce {s : State} (hu : s.up = true) (b : State) (n : Nat) (p : List Byte) :
    OutputsFollow s (s.takeAnnounce b n p) := by
  unfold State.takeAnnounce
  split
  · exact .refl s
  · exact .settleAside hu

theorem OutputsFollow.receive {s : State} {hand : State → State} (n : Fin 16) (format : Bool)
    (h : ∀ t : State, t.up = true → OutputsFollow t (hand t)) : OutputsFollow s (s.receive n format hand) := by
  have hbusy : OutputsFollow s (s.setView .busy) := .beside
  rcases s.receive_cases n format hand with ⟨-, e⟩ | ⟨-, -, e⟩ | ⟨hr, -, e⟩ <;> rw [e]
  · exact .refl s
  · exact hbusy.trans (.raiseObjection _)
  · obtain ⟨_, _, hd⟩ := (s.setView .busy).duplicateCheck_frame n
    have hu : s.up = true := State.up_of_receives hr
    rw [hd]
    exact OutputsFollow.trans .beside (h _ hu)

/-! ## SERVICE commands -/

theorem OutputsFollow.service {s : State} {n : Fin 16} {broadcast : Bool} {args : List Byte} {serve : State → State}
    (h : ∀ t : State, t.up = true → OutputsFollow t (serve t)) :
    OutputsFollow s (s.service n broadcast args fun t => t.withSlot serve) := by
  have hbusy : OutputsFollow s (s.setView .busy) := .beside
  have hheard : OutputsFollow s ((s.setView .busy).heard n) := hbusy.trans (.ite fun _ => .reloadQuiet _)
  rcases s.service_cases n broadcast args (fun t => t.withSlot serve) with
    ⟨-, e⟩ | ⟨-, -, e⟩ | ⟨-, -, -, e⟩ | ⟨hr, -, -, e⟩ <;> rw [e]
  · exact .refl s
  · exact hbusy.trans (.raiseObjection _)
  · exact hheard
  · refine hheard.trans (.either .beside (h _ ?_))
    rw [State.heard_up]
    exact (State.up_of_receives hr : s.up = true)

theorem OutputsFollow.serveIdentify (s : State) (args : List Byte) : OutputsFollow s (s.serveIdentify args) :=
  .either (OutputsFollow.trans .beside (.requestAnnounce _)) .beside

theorem OutputsFollow.serveRead (s : State) (args : List Byte) : OutputsFollow s (s.serveRead args) := by
  unfold State.serveRead
  split
  · split <;> exact .beside
  · exact .beside

theorem OutputsFollow.serveFaultCall (s : State) (n : Fin 16) (args : List Byte) :
    OutputsFollow s (s.serveFaultCall n args) := by
  refine .either ?_ .beside
  split
  · exact .beside
  · exact .ite fun _ => .beside

theorem OutputsFollow.serveFaultAck (s : State) (args : List Byte) : OutputsFollow s (s.serveFaultAck args) := by
  unfold State.serveFaultAck
  split
  · exact .either .beside .beside
  · exact .beside

theorem OutputsFollow.serveSetupEnter {s : State} (hu : s.up = true) (args : List Byte) :
    OutputsFollow s (s.serveSetupEnter args) := by
  have henter : OutputsFollow s (s.reply 6 .ok []).enterSetup := by
    rw [State.enterSetup_eq]
    exact .settle hu (State.Prepared.trans .aside (State.inSetup_prepared _))
  exact .either .beside (.either .beside (.either henter .beside))

theorem OutputsFollow.serveStoreWrite (s : State) (c base : Nat) (args : List Byte) :
    OutputsFollow s (s.serveStoreWrite c base args) := by
  refine .either .beside (.either .beside ?_)
  split <;> exact .beside

theorem OutputsFollow.serveStoreCommit (s : State) (args : List Byte) :
    OutputsFollow s (s.serveStoreCommit args) := by
  refine .either .beside (.either .beside (.either .beside ?_))
  split <;> exact .beside

theorem OutputsFollow.serveTestOutput {s : State} (hu : s.up = true) (b : State) (args : List Byte) :
    OutputsFollow s (s.serveTestOutput b args) := by
  unfold State.serveTestOutput
  split
  · exact .beside
  · split
    · rename_i h
      exact .settle hu (State.Prepared.trans .aside (State.enterTest_prepared _ _ h.2.2.1 _))
    · exact .beside

theorem OutputsFollow.replyRestart (s : State) (c : Nat) : OutputsFollow s (s.replyRestart c) :=
  .either (OutputsFollow.trans .beside (.orderRestart _)) .beside

/-! ## Samples and the half timer -/

theorem OutputsFollow.sampleChannel {s : State} (hu : s.up = true) (i : Fin 8) (x : Int) (beyond : Bool) :
    OutputsFollow s (s.sampleChannel i x beyond) := by
  have hdone (t : State) (trips done : Bool) (ht : done = false → OutputsFollow s t) (hp : s.Prepared t)
      (hl : trips = true → t.hardApplies i = true) : OutputsFollow s (if trips || done
        then (if done then (if trips then t.trip i else t).currentCompleted i else if trips then t.trip i else t).settle s false
        else if done then (if trips then t.trip i else t).currentCompleted i else if trips then t.trip i else t) := by
    have htrip : s.Prepared (if trips then t.trip i else t) := by
      split
      · rename_i k; exact hp.trans (State.trip_prepared (.inl (hl k)))
      · exact hp
    split
    · exact .settle hu (.either (htrip.trans (State.currentCompleted_prepared _ i)) htrip)
    · rename_i h
      obtain ⟨rfl, rfl⟩ : trips = false ∧ done = false := by simpa using h
      exact ht rfl
  refine hdone (s.withMeas _) _ _ (fun h => .beside (State.setCurrent_view ?_)) .aside fun h => ?_
  · exact Record.take_unfinished (ne_true_of_eq_false h)
  · exact (Bool.and_eq_true_iff.mp h).2

theorem OutputsFollow.sampleInput {s : State} (hu : s.up = true) (input : SlotInput) (x : Int) (beyond : Bool) :
    OutputsFollow s (s.sampleInput input x beyond) := by
  cases input with
  | supply =>
    show OutputsFollow s (s.sampleSupply x beyond)
    unfold State.sampleSupply
    dsimp only
    split
    · exact .settleAside hu
    · rename_i h
      exact .beside (congrArg (fun v => { s.outputView with voltage := v }) (Record.take_unfinished h))
  | die =>
    show OutputsFollow s (s.sampleDie x beyond)
    unfold State.sampleDie
    dsimp only
    split
    · exact .settle hu (State.Prepared.trans .aside (State.judgeThermal_prepared _))
    · exact .beside
  | battery =>
    refine .ite fun _ => ?_
    dsimp only
    split
    · exact .settleAside hu
    · exact .beside
  | channel i => exact .sampleChannel hu i x beyond
  | sender n =>
    show OutputsFollow s (s.sampleSender n x beyond)
    unfold State.sampleSender
    dsimp only
    split
    · exact .settle hu (State.Prepared.trans .aside (State.senderCompleted_prepared _ n))
    · exact .beside

theorem OutputsFollow.halfTimer {s : State} (hu : s.up = true) : OutputsFollow s
    (match s.flash.phase, s.flash.sides with
      | .on, _ => s.enterFlashOff.settle s false
      | .off, some x => (s.enterFlashOn x .expiry).settle s true
      | .off, none => s
      | .idle, _ => s) := by
  split
  · exact .settleAside hu
  · exact .settleAside hu (by simp) (by simp) (by simp)
  · exact .refl s
  · exact .refl s

theorem OutputsFollow.gaugeUpdate {s : State} : OutputsFollow s (s.withGauges
    ⟨if s.supply.crank = false ∧ s.drives = true then s.workGauges else s.gauges.drives, some 100⟩) := by
  refine .beside rfl id fun i h => ?_
  rw [State.withGauges_gauges]
  split
  · have hw : s.workGauges[i] = s.workGauge s.cfg.gauges[i] s.gauges.drives[i] := by simp [State.workGauges]
    rw [hw]
    exact s.workGauge_duty_le _ h
  · exact h

/-! ## Sleep, resets and wakes -/

theorem OutputsFollow.enterAsleep (s : State) : OutputsFollow s s.enterAsleep := by
  rw [State.enterAsleep_eq]
  exact OutputsFollow.trans (.stop s.asleep_up s.asleep_still) (.orderIfLeft _ _)

/-- Entry to Starting from the initial values of the outputs. -/
theorem OutputsFollow.enterStarting {s u : State} (ho : u.out.channels = Vector.replicate 8 Channel.init)
    (hg : u.gauges.drives = Vector.replicate 4 Gauge.init) (announce : Bool) : OutputsFollow s (u.enterStarting announce) := by
  have hsettled : OutputsFollow s (u.atStart.settle u.atStart false) := by
    refine .start (State.still_of_init ho hg) fun i => ?_
    have hi : u.atStart.out.channels[i] = Channel.init := by
      show u.out.channels[i] = _
      simp [ho]
    rw [hi]
    rfl
  have hstatus := hsettled.trans (.requestStatus _)
  rw [State.enterStarting_eq]
  exact .either (hstatus.trans (.requestAnnounce _)) hstatus

theorem OutputsFollow.takeReset (s u : State) (p : StrapPins) (v : Supply) (c : ResumeCause) :
    OutputsFollow s (u.takeReset p v c) := by
  rw [State.takeReset_eq]
  exact .enterStarting rfl rfl true

theorem OutputsFollow.wakeUp (s : State) (c : ResumeCause) (i : Option Nat) : OutputsFollow s (s.wakeUp c i) := by
  rw [State.wakeUp_eq]
  exact .enterStarting rfl rfl false

end Sys2Proof.Machine
end

section
namespace Sys2Proof.Machine

set_option Elab.async false

theorem State.Prepared.withSupply {s t : State} (h : s.Prepared t) (v : Supply) : s.Prepared (t.withSupply v) := h.trans .aside

theorem State.Prepared.recomputeLocal {s t : State} (h : s.Prepared t) : s.Prepared t.recomputeLocal := h.trans .aside

/-! ## The timers of a channel -/

/-- A channel that ends its inrush window is not of kind Off (R89). -/
theorem ChannelPrepared.enterOn {e : ChannelEntry} {c : Channel} (hs : c.state = .inrush) : ChannelPrepared e c c.enterOn :=
  ⟨rfl, id, fun _ h => by rw [hs] at h; exact h.elim nofun nofun⟩

theorem State.retryNow_prepared {s : State} {i : Fin 8} (hs : s.out.channels[i].state = .tripped) :
    ChannelPrepared s.cfg.channels[i] s.out.channels[i] (s.retryNow i).1 := by
  unfold State.retryNow
  dsimp only
  split
  · exact ⟨rfl, id, fun _ _ => .inl rfl⟩
  · exact .release hs

theorem OutputsFollow.attemptSuccess {s : State} (hu : s.up = true) (f : InFlight) :
    OutputsFollow s (if f.kind = .flash
      then ((s.withLine (s.line.succeed f)).orderIfLeft s.line.queue).flashHanded s (decodeFlash (f.content.headD 0))
      else (s.withLine (s.line.succeed f)).orderIfLeft s.line.queue) := by
  have hleft : OutputsFollow s ((s.withLine (s.line.succeed f)).orderIfLeft s.line.queue) :=
    OutputsFollow.trans .beside (.orderIfLeft _ _)
  exact .either (.flashHanded hu hleft (.either .aside .aside) _ _) hleft

/-! ## Every command -/

/-- Every command leaves what the invariants of the outputs read, or is followed by the hand-ons, or stops or starts the
station. -/
theorem exec_outputsFollow (c : Instr) (s : State) : ∃ t, exec c s = .next t ∧ OutputsFollow s t := by
  cases c with
  | lineBreak | truncatedFrame | statusSpacingEnd | lineIdle | passTimer | spinUpGraceExpiry | inputWake | ignWake
  | wakePulseEnd | stationClockTick => exact ⟨_, rfl, .ite fun _ => .beside⟩
  | persistenceTimerExpiry | crankReleaseExpiry | holdTimerEnd | rampUpdate | stallWaitExpiry | fanRetryWaitExpiry
  | deferralEnd | ignDebounceExpiry => exact ⟨_, rfl, .ite fun h => .settleAside h.1⟩
  | stallTimerExpiry => exact ⟨_, rfl, .ite fun h => .settle h.1 (.either .aside .aside)⟩
  | joinWindowExpiry =>
    refine ⟨_, rfl, .ite fun h => .settle h.1 ?_⟩
    exact .withSupply (.either .aside .aside) _
  | inrushWindowExpiry i =>
    refine ⟨_, rfl, .ite fun h => .settle h.1 ?_⟩
    have hon := ChannelPrepared.enterOn (e := s.cfg.channels[i]) h.2.1
    exact .either (.setChannel rfl hon) (.setChannel rfl hon)
  | runTimerExpiry i => exact ⟨_, rfl, .ite fun _ => .beside (State.setChannel_view rfl rfl rfl)⟩
  | overTimerExpiry i => exact ⟨_, rfl, .ite fun h => .settle h.1 (State.trip_prepared (.inr h.2.1))⟩
  | retryWaitExpiry i =>
    exact ⟨_, rfl, .ite fun h => .settle h.1 (.setChannel rfl (State.retryNow_prepared h.2.1))⟩
  | openLoadTimerExpiry i =>
    refine ⟨_, rfl, .ite fun _ => ?_⟩
    have hflag : OutputsFollow s (s.setChannel i
        { s.out.channels[i] with openTimer := none, openFlag := !s.out.channels[i].openFlag }) :=
      .beside (State.setChannel_view rfl rfl rfl)
    exact .either hflag (hflag.trans .beside)
  | testDurationExpiry i =>
    refine ⟨_, rfl, .ite fun h => .settle h.1 ?_⟩
    exact .either (.setChannel rfl (.endTest _ _ _)) (.setChannel rfl (.endTest _ _ _))
  | fanRunTimerExpiry =>
    refine ⟨_, rfl, .ite fun _ => ?_⟩
    dsimp only
    split
    · exact OutputsFollow.trans (t := s.withFan { s.fan with runTimer := none }) .beside
        (.beside (State.setChannel_view rfl rfl rfl))
    · exact .beside
  | switchRawChange | ignPinChange => exact ⟨_, rfl, .either .beside .beside⟩
  | holdTimerExpiry => exact ⟨_, rfl, .ite fun h => .settleAside h.1⟩
  | debounceExpiry =>
    refine ⟨_, rfl, .ite fun h => .settle h.1 (.recomputeLocal (.either ?_ .aside))⟩
    exact State.Prepared.trans .aside (.either .aside .aside)
  | joinStartBit => exact ⟨_, rfl, .either .beside (.takeLine s)⟩
  | frameOffer => exact ⟨_, rfl, .takeLine s⟩
  | arbitrationLoss => exact ⟨_, rfl, .attempt fun _ _ => .beside⟩
  | collision =>
    refine ⟨_, rfl, .attempt fun hu f => ?_⟩
    have hf : OutputsFollow s ((s.withLine s.line.countCollision).attemptFailed f) :=
      OutputsFollow.trans .beside (.attemptFailed (by exact hu) f)
    exact .either (hf.trans (.findDuplicate _)) hf
  | attemptObjected => exact ⟨_, rfl, .attempt fun hu f => OutputsFollow.trans .beside (.attemptFailed (by exact hu) f)⟩
  | attemptSuccess => exact ⟨_, rfl, .attempt fun hu f => .attemptSuccess hu f⟩
  | objectedFrame =>
    refine ⟨_, rfl, .ite fun _ => ?_⟩
    have hbusy : OutputsFollow s (s.setView .busy) := .beside
    have hobj (b : Bool) : OutputsFollow s (if b then (s.setView .busy).raiseObjection else s.setView .busy) :=
      .either (hbusy.trans (.raiseObjection _)) hbusy
    exact .either ((hobj _).trans .beside) (hobj _)
  | statusFrame n p => exact ⟨_, rfl, .receive n _ fun _ hu => .takeStatus hu s _ p⟩
  | announceFrame n p => exact ⟨_, rfl, .receive n _ fun _ hu => .takeAnnounce hu s _ p⟩
  | flashFrame n p => exact ⟨_, rfl, .receive n _ fun _ hu => .takeFlash hu s _ _⟩
  | replyFrame n => exact ⟨_, rfl, .receive n _ fun t _ => .refl t⟩
  | stuckLine =>
    refine ⟨_, rfl, .ite fun _ => ?_⟩
    dsimp only
    split <;> exact .beside
  | isolationWaitExpiry => exact ⟨_, rfl, .ite fun _ => OutputsFollow.trans .beside (.requestStatus _)⟩
  | periodicStatusTimer => exact ⟨_, rfl, .ite fun _ => (OutputsFollow.requestStatus s).trans .beside⟩
  | ageingTimerExpiry n =>
    refine ⟨_, rfl, ?_⟩
    split
    · exact .ite fun h => .settleAside h.1
    · exact .refl s
  | sample =>
    refine ⟨_, rfl, ?_⟩
    split
    · exact .ite fun hu => OutputsFollow.trans .beside (.sampleInput (by exact hu) _ _ _)
    · exact .refl s
  | halfTimerExpiry => exact ⟨_, rfl, .ite fun h => .halfTimer h.1⟩
  | drainTick => exact ⟨_, rfl, .ite fun h => .settle h.1 (s.drainStep_prepared.withSupply _)⟩
  | gaugeUpdate => exact ⟨_, rfl, .ite fun _ => .gaugeUpdate⟩
  | powerFail => exact ⟨_, rfl, .ite fun _ => .stop rfl (State.still_of_init rfl rfl)⟩
  | powerOnReset => exact ⟨_, rfl, .takeReset s _ _ _ _⟩
  | serviceRestart => exact ⟨_, rfl, .ite fun _ => .takeReset s _ _ _ _⟩
  | quietTimerExpiry => exact ⟨_, rfl, .ite fun _ => .either (.enterAsleep s) (.reloadQuiet s)⟩
  | lineWake | wakeWaitExpiry => exact ⟨_, rfl, .ite fun _ => .wakeUp s _ _⟩
  | identify => exact ⟨_, rfl, .service fun t _ => .serveIdentify t _⟩
  | read => exact ⟨_, rfl, .service fun t _ => .serveRead t _⟩
  | faultCall => exact ⟨_, rfl, .service fun t _ => .serveFaultCall t _ _⟩
  | faultAck => exact ⟨_, rfl, .service fun t _ => .serveFaultAck t _⟩
  | faultClear => exact ⟨_, rfl, .service fun _ _ => .either .beside .beside⟩
  | setupEnter => exact ⟨_, rfl, .service fun _ hu => .serveSetupEnter hu _⟩
  | storeWriteLowHalf | storeWriteHighHalf => exact ⟨_, rfl, .service fun t _ => .serveStoreWrite t _ _ _⟩
  | storeCommit => exact ⟨_, rfl, .service fun t _ => .serveStoreCommit t _⟩
  | programmingEnd => exact ⟨_, rfl, .ite fun _ => .either .beside .beside⟩
  | testOutput => exact ⟨_, rfl, .service fun _ hu => .serveTestOutput hu s _⟩
  | setupExit => exact ⟨_, rfl, .service fun t _ => .either .beside (.either .beside (.replyRestart t _))⟩
  | restart => exact ⟨_, rfl, .service fun t _ => .either .beside (.replyRestart t _)⟩
  | unknownCommand => exact ⟨_, rfl, .either (.refl s) (.service fun _ _ => .beside)⟩

end Sys2Proof.Machine
end

section
namespace Sys2Proof.Machine

set_option Elab.async false

theorem step_outputsFollow {s t : State} (hs : step s = .next t) : OutputsFollow s t := by
  rcases step_cases s with ⟨-, e⟩ | ⟨c, rest, -, e⟩
  · cases e.symm.trans hs
    exact .refl s
  · obtain ⟨u, hu, hf⟩ := exec_outputsFollow c (s.withPending rest)
    cases (e.trans hu).symm.trans hs
    exact OutputsFollow.trans .beside hf

/-- Settles O10: the hand-ons compute demand, harness load, levels and orders afresh, and a command without hand-ons leaves
what they rest on. -/
theorem stepKeepsSupply : Obligations.StepKeepsSupply := fun _ _ h hs => (step_outputsFollow hs).supply h

/-- Settles O11: the hand-ons give every channel its command and put its state in agreement, and a command without hand-ons
leaves what they rest on. -/
theorem stepKeepsChannels : Obligations.StepKeepsChannels := fun _ _ h hs => (step_outputsFollow hs).channels h

/-- Settles O14: each command that drives a duty, and the hand-ons, put it within 0..1000. -/
theorem stepKeepsDuties : Obligations.StepKeepsDuties := fun _ _ h hs => (step_outputsFollow hs).duties h

end Sys2Proof.Machine
end

section
/-! PROOFS. TEST OUTPUT in Setup, and the results it has elsewhere (R103, R156, R185, R186). -/

namespace Sys2Proof.Machine

set_option Elab.async false

/-! ## A channel driven in Test -/

section
variable (s : State) {i : Fin 8} (duty ms : Nat)

/-- Test of the Motor channel is the fan's (R156). -/
theorem State.enterTest_motor (h : s.cfg.channels[i].kind = .motor) : s.enterTest i duty ms = { s with
    out := { s.out with channels := s.out.channels.set i { s.out.channels[i] with duty := duty, testTimer := some ms } }
    fan := s.fan.rest .test } :=
  if_pos ((s.isMotor_iff i).mpr h)

/-- A channel in Test takes the new duty and duration. -/
theorem State.enterTest_again (hm : s.cfg.channels[i].kind ≠ .motor) (ht : s.out.channels[i].state = .test) :
    s.enterTest i duty ms = { s with
      out := { s.out with channels := s.out.channels.set i { s.out.channels[i] with duty := duty, testTimer := some ms } } } :=
  (if_neg (mt (s.isMotor_iff i).mp hm)).trans (if_pos ht)

/-- A channel enters Test. -/
theorem State.enterTest_entered (hm : s.cfg.channels[i].kind ≠ .motor) (ht : s.out.channels[i].state ≠ .test) :
    s.enterTest i duty ms = { s with
      out := { s.out with channels := s.out.channels.set i { s.out.channels[i] with
        state := .test, duty := duty, testTimer := some ms, window := none, runTimer := none
        overTimer := none, retryWait := none, openTimer := none } } } :=
  (if_neg (mt (s.isMotor_iff i).mp hm)).trans (if_neg ht)

theorem State.enterTest_ctl (i : Fin 8) : (s.enterTest i duty ms).ctl = s.ctl := by
  unfold State.enterTest
  dsimp only
  split
  · rfl
  · split <;> rfl

theorem State.enterTest_duty (i : Fin 8) : (s.enterTest i duty ms).out.channels[i].duty = duty := by
  unfold State.enterTest
  dsimp only
  split
  · simp [State.setChannel]
  · split <;> simp [State.setChannel]

end

/-! ## TEST OUTPUT -/

theorem State.drives_setup {s : State} (h : s.ctl.state = .setup) : s.drives = false := by simp [State.drives, h]

theorem execTestOutput_next {s : State} {n : Fin 16} (h : s.Serves n false) {args : List Byte} (ha : args.length ≤ 7) :
    exec (.testOutput n args) s = .next (s.atSlotEnd.serveTestOutput s args) :=
  congrArg Host.Outcome.next (State.service_eq h ha fun t => t.serveTestOutput s args)

/-- The arguments that TEST OUTPUT takes (R186). -/
def TestArgs (args : List Byte) : Prop :=
  args.length = 5 ∧ byteAt args 0 ≤ 7 ∧ wordAt args 1 ≤ 1000 ∧ 1 ≤ wordAt args 3 ∧ wordAt args 3 ≤ 5000

section
variable {s : State} (b : State) {args : List Byte}

theorem State.serveTestOutput_driven (hs : s.ctl.state = .setup) (ha : TestArgs args) {i : Fin 8}
    (hi : byteAt args 0 = i.val) : s.serveTestOutput b args =
      ((s.answered [0x0A]).enterTest i (wordAt args 1) (wordAt args 3)).settle b false := by
  have hch : Fin.ofNat 8 (byteAt args 0) = i := by rw [hi]; exact Fin.ofNat_val_eq_self i
  refine (if_neg (not_not_intro hs)).trans ((if_pos ha).trans ?_)
  rw [hch]
  rfl

theorem State.serveTestOutput_badArgument (hs : s.ctl.state = .setup) (ha : ¬ TestArgs args) :
    s.serveTestOutput b args = s.answered [0x3A] :=
  (if_neg (not_not_intro hs)).trans (if_neg ha)

theorem State.serveTestOutput_notInSetup (hs : s.ctl.state ≠ .setup) :
    s.serveTestOutput b args = s.answered [0x1A] :=
  if_pos hs

end

/-- Settles O59: the result by the station's state and the arguments, and hand-ons that in Setup leave the duty under
test. -/
theorem testOutputServed : Obligations.TestOutputServed := by
  intro s n args h hlen
  refine ⟨fun i u c duty ms hs h5 hi hduty hd hms h1 hm hc hu => ?_, fun hs hbad => ?_, fun hs => ?_⟩
  · subst hduty hms hc
    have hargs : TestArgs args := ⟨h5, by omega, hd, h1, hm⟩
    obtain rfl : u = (s.atSlotEnd.answered [0x0A]).enterTest i (wordAt args 1) (wordAt args 3) := by
      rcases hu with ⟨hk, rfl⟩ | ⟨hk, ht, rfl⟩ | ⟨hk, ht, rfl⟩
      · exact (State.enterTest_motor (s.atSlotEnd.answered [0x0A]) _ _ hk).symm
      · exact (State.enterTest_again (s.atSlotEnd.answered [0x0A]) _ _ hk ht).symm
      · exact (State.enterTest_entered (s.atSlotEnd.answered [0x0A]) _ _ hk ht).symm
    have hsetup : ((s.atSlotEnd.answered [0x0A]).enterTest i (wordAt args 1) (wordAt args 3)).ctl.state = .setup := by
      rw [State.enterTest_ctl]
      exact (State.atSlotEnd_state s).trans hs
    refine ⟨?_, State.settle_handedOn _ _ _, ?_, ?_⟩
    · rw [execTestOutput_next h hlen, State.serveTestOutput_driven s ((State.atSlotEnd_state s).trans hs) hargs hi]
    · obtain ⟨-, -, -, hstill⟩ := State.settle_still (State.drives_setup hsetup) s false
      rw [(hstill i).duty, State.enterTest_duty]
    · rw [State.settle_ctl_setup _ _ hsetup, hsetup]
  · rw [execTestOutput_next h hlen, State.serveTestOutput_badArgument s ((State.atSlotEnd_state s).trans hs)]
    rintro ⟨k5, k7, kd, k1, km⟩
    omega
  · rw [execTestOutput_next h hlen, State.serveTestOutput_notInSetup s (by rwa [State.atSlotEnd_state])]

end Sys2Proof.Machine
end

section
/-! PROOFS. The hand-ons and the flash cycle (R107, R109 to R111, R117 to R119): the cycle starts, restarts and stops as the
effective side set changes. -/

namespace Sys2Proof.Machine

/-! ## The entry to On by a change of the side set (R107, R109, R118) -/

/-- How a cycle enters On when its side set changes: a start from Idle, a change from On and Off. -/
def Flasher.followEntry (f : Flasher) : OnEntry := if f.phase = .idle then .start else .change

/-- The memory with which a changed side set enters On: a new cycle from Idle and Off (R118). -/
def Flasher.followMemory (f : Flasher) : BulbMemory := if f.phase = .on then f.memory else f.memory.push

/-- The cycle with the reported flags of its session, which are clear at a start (R110). -/
def Flasher.inSession (f : Flasher) : Flasher :=
  { f with reportedLeft := if f.phase = .idle then false else f.reportedLeft
           reportedRight := if f.phase = .idle then false else f.reportedRight }

theorem Flasher.followEntry_idle {f : Flasher} (h : f.phase = .idle) : f.followEntry = .start := if_pos h

theorem Flasher.followEntry_running {f : Flasher} (h : f.phase ≠ .idle) : f.followEntry = .change := if_neg h

theorem Flasher.followMemory_running {f : Flasher} (h : f.phase ≠ .idle) :
    (if decide (f.phase = .off) then f.memory.push else f.memory) = f.followMemory := by
  unfold Flasher.followMemory
  cases hp : f.phase with
  | idle => exact absurd hp h
  | on => rfl
  | off => rfl

theorem Flasher.inSession_idle {f : Flasher} (h : f.phase = .idle) :
    f.inSession = { f with reportedLeft := false, reportedRight := false } := by
  unfold Flasher.inSession; rw [if_pos h, if_pos h]

theorem Flasher.inSession_running {f : Flasher} (h : f.phase ≠ .idle) : f.inSession = f := by
  unfold Flasher.inSession; rw [if_neg h, if_neg h]

theorem PeerTable.bulb_left_iff (t : PeerTable) : t.bulb .left = true ↔ ∃ r ∈ t.records, r.Counted ∧ r.bulbLeft = true := by
  simp [PeerTable.bulb, PeerRecord.counts_iff]

theorem PeerTable.bulb_right_iff (t : PeerTable) : t.bulb .right = true ↔ ∃ r ∈ t.records, r.Counted ∧ r.bulbRight = true := by
  simp [PeerTable.bulb, PeerRecord.counts_iff]

/-- The rate of a side whose set has changed: by the memory, and at a start by the peers' flags too (R119). -/
theorem sideFast_follow (t : PeerTable) (m : BulbMemory) (f : Flasher) (d : Side) :
    sideFast t m f.followEntry d = true ↔
      (m.before.own d || m.earlier.own d || m.before.received d || m.earlier.received d) = true ∨
        (f.phase = .idle ∧ t.bulb d = true) := by
  unfold sideFast
  rw [Bool.or_eq_true]
  refine or_congr_right ?_
  by_cases h : f.phase = .idle
  · rw [Flasher.followEntry_idle h]; exact (and_iff_right h).symm
  · rw [Flasher.followEntry_running h]; exact iff_of_false nofun fun k => h k.1

/-- The state in On with a side set, a memory and a rate, before the FLASH of the entry is queued. -/
def State.enteredOn (s : State) (x : SideSet) (m : BulbMemory) (fast : Bool) : State :=
  (s.armMarks x).withFlash { s.flash with
    phase := .on, sides := some x, fast := fast, half := some (halfPeriod s.cfg.flashPeriod fast), memory := m }

theorem State.enteredOn_flash (s : State) (x : SideSet) (m : BulbMemory) (fast : Bool) : (s.enteredOn x m fast).flash = {
    s.flash with
    phase := .on, sides := some x, fast := fast, half := some (halfPeriod s.cfg.flashPeriod fast), memory := m } := rfl

/-- Conditions 1 to 3 of R119 make an entry to On by a changed side set fast. -/
def State.FollowsFast (s : State) (x : SideSet) (m : BulbMemory) : Prop :=
  (x ≠ .right ∧ ((m.before.ownLeft || m.earlier.ownLeft || m.before.receivedLeft || m.earlier.receivedLeft) = true ∨
    (s.flash.phase = .idle ∧ ∃ r ∈ s.peers.records, r.Counted ∧ r.bulbLeft = true))) ∨
  (x ≠ .left ∧ ((m.before.ownRight || m.earlier.ownRight || m.before.receivedRight || m.earlier.receivedRight) = true ∨
    (s.flash.phase = .idle ∧ ∃ r ∈ s.peers.records, r.Counted ∧ r.bulbRight = true)))

theorem State.followsFast_iff (s : State) (x : SideSet) (m : BulbMemory) :
    ((x.has .left && sideFast s.peers m s.flash.followEntry .left)
      || (x.has .right && sideFast s.peers m s.flash.followEntry .right)) = true ↔ s.FollowsFast x m := by
  rw [Bool.or_eq_true, Bool.and_eq_true, Bool.and_eq_true, sideFast_follow, sideFast_follow, SideSet.has_left_iff,
    SideSet.has_right_iff, PeerTable.bulb_left_iff, PeerTable.bulb_right_iff]
  rfl

theorem State.enterFlashOn_follow {s : State} {x : SideSet} {fast : Bool}
    (hf : fast = true ↔ s.FollowsFast x s.flash.followMemory) :
    s.enterFlashOn x s.flash.followEntry = (s.enteredOn x s.flash.followMemory fast).requestFlash x := by
  have hfast := Bool.eq_iff_iff.mpr ((s.followsFast_iff x s.flash.followMemory).trans hf.symm)
  rw [← hfast]
  by_cases hi : s.flash.phase = .idle
  · have hpush : s.flash.followMemory = s.flash.memory.push := if_neg (by rw [hi]; nofun)
    rw [hpush, Flasher.followEntry_idle hi]
    rfl
  · rw [Flasher.followEntry_running hi, ← Flasher.followMemory_running hi]
    rfl

/-! ## The Flasher's hand-on (R107, R109, R110) -/

section
variable {s : State} (hd : s.drives = true)
include hd

theorem State.stageFlasher_stops
    (hx : sideSetFrom (effFlashL s.res.union s.res.ign) (effFlashR s.res.union s.res.ign) = none) (hne : s.flash.sides ≠ none) :
    s.stageFlasher = (s.flashIdle, false) := by
  unfold State.stageFlasher
  rw [hx]
  exact if_neg (not_or.mpr ⟨by simp [hd], hne.symm⟩)

theorem State.stageFlasher_enters {x : SideSet} {fast : Bool}
    (hx : sideSetFrom (effFlashL s.res.union s.res.ign) (effFlashR s.res.union s.res.ign) = some x)
    (hne : s.flash.sides ≠ some x) (hf : fast = true ↔ s.FollowsFast x s.flash.followMemory) :
    s.stageFlasher = (((s.withFlash s.flash.inSession).enteredOn x s.flash.followMemory fast).requestFlash x, true) := by
  have hentry := State.enterFlashOn_follow (s := s.withFlash s.flash.inSession) hf
  refine Eq.trans ?_ (congrArg (·, true) hentry)
  unfold State.stageFlasher
  rw [hx]
  refine (if_neg (not_or.mpr ⟨by simp [hd], hne.symm⟩)).trans ?_
  dsimp only [State.withFlash_flash]
  by_cases hp : s.flash.phase = .idle
  · rw [if_pos hp, Flasher.inSession_idle hp, Flasher.followEntry_idle (by exact hp)]
  · rw [if_neg hp, Flasher.inSession_running hp, Flasher.followEntry_running hp]
    rfl

end

/-- The FLASH that a Joined station queues for its cycle, bit by bit (R111, R117). -/
theorem State.requestFlash_mem {s : State} (hj : s.line.sub = .joined) (x : SideSet) :
    ∃ e ∈ (s.requestFlash x).line.queue.flash,
      e.content = [BitVec.ofBool (decide (x ≠ .left)) ++ BitVec.ofBool (decide (x ≠ .right)) ++
        BitVec.ofBool (s.flash.memory.current.ownLeft || s.flash.memory.before.ownLeft) ++
        BitVec.ofBool (s.flash.memory.current.ownRight || s.flash.memory.before.ownRight) ++
        BitVec.ofBool s.flash.fast ++ 0#3] := by
  unfold State.requestFlash
  rw [if_pos hj, ← flashPayload_bits]
  exact Line.putFlash_mem _ _

/-- Settles O39: the Flasher's hand-on leaves the cycle, stops it or enters On, and no other hand-on changes the cycle or
the queued FLASH entries. -/
theorem flashCycleFollowsSides : Obligations.FlashCycleFollowsSides := by
  intro s before fresh sides hd _ hsides
  have hdrives : (s.stageUnion.stageSupply s.res.ign).drives = true := (State.drives_stageSupply s s.res.ign).trans hd
  have hflash : (s.stageUnion.stageSupply s.res.ign).flash = s.flash := by simp
  have hasked : sideSetFrom
      (effFlashL (s.stageUnion.stageSupply s.res.ign).res.union (s.stageUnion.stageSupply s.res.ign).res.ign)
      (effFlashR (s.stageUnion.stageSupply s.res.ign).res.union (s.stageUnion.stageSupply s.res.ign).res.ign) = sides := by
    rw [State.stageSupply_res]; exact hsides.symm
  refine ⟨fun hsame => ?_, fun hnone hrun => ?_, fun x m fast hx hne hm hfast => ?_⟩
  · exact (State.settle_agrees (fun _ => hsides.symm.trans hsame) before fresh).1
  · rw [State.settle_flash, State.stageFlasher_stops hdrives (hasked.trans hnone) (by rwa [hflash]), ← hflash]
    rfl
  · have hmemory : s.flash.followMemory = m := hm.symm
    have hrate : fast = true ↔ (s.stageUnion.stageSupply s.res.ign).FollowsFast x
        (s.stageUnion.stageSupply s.res.ign).flash.followMemory := by
      rw [hfast, hflash, hmemory]
      unfold State.FollowsFast
      rw [hflash, State.stageSupply_peers, State.stageUnion_peers]
    have hstage := State.stageFlasher_enters hdrives (hasked.trans hx) (by rwa [hflash]) hrate
    rw [hflash, hmemory] at hstage
    rw [State.settle_flash, State.settle_flash_queue, hstage, State.requestFlash_flash]
    refine ⟨?_, fun hj => State.requestFlash_mem (s := State.enteredOn _ x m fast) ?_ x⟩
    · rw [State.enteredOn_flash, State.withFlash_cfg, State.stageSupply_cfg]
      rfl
    · show (s.stageUnion.stageSupply s.res.ign).line.sub = .joined
      rw [State.stageSupply_line]; exact hj

end Sys2Proof.Machine
end

section
/-! PROOFS. The Supply Manager under the hand-ons and at its own commands (R126 to R133, R135, R137 to R140): IGN's effect on the
contributors, crank hold, the energize holds, and the persistence timers. -/

namespace Sys2Proof.Machine

/-! ## Persistence timers (R126) -/

theorem PTimer.judge_eq (t : PTimer) (meets : Bool) :
    t.judge meets = if meets = false then .stopped else if t = .stopped then .running else t := by
  cases meets <;> rfl

section
variable (u : Supply)

theorem Supply.timer_judge (p q : PersTimer) (meets : Bool) :
    (u.judge p meets).timer q = if p = q then (u.timer q).judge meets else u.timer q := by
  unfold Supply.judge
  rw [Supply.timer_setTimer]
  split
  · rename_i h; rw [h]
  · rfl

/-- Contributor (a)'s timers are judged by the supply average, each against its own threshold (R127). -/
theorem Supply.timer_judgeSupply {c : WorkingConfig} {v : Int} {p : PersTimer} {meets : Bool}
    (h : (p = .entry1 ∧ (meets = true ↔ v < c.t1)) ∨ (p = .entry2 ∧ (meets = true ↔ v < c.t2)) ∨
      (p = .entry3 ∧ (meets = true ↔ v < c.t3)) ∨ (p = .exit1 ∧ (meets = true ↔ (c.t1 : Int) + c.hyst ≤ v)) ∨
      (p = .exit2 ∧ (meets = true ↔ (c.t2 : Int) + c.hyst ≤ v)) ∨
      (p = .exit3 ∧ (meets = true ↔ (c.t3 : Int) + c.hyst ≤ v))) :
    (u.judgeSupply c v).timer p = (u.timer p).judge meets := by
  unfold Supply.judgeSupply
  rcases h with ⟨rfl, hm⟩ | ⟨rfl, hm⟩ | ⟨rfl, hm⟩ | ⟨rfl, hm⟩ | ⟨rfl, hm⟩ | ⟨rfl, hm⟩ <;>
    simp [Supply.timer_judge, ← hm]

/-- Contributor (b)'s timers are judged by the battery current (R128). -/
theorem Supply.timer_judgeBattery {c : WorkingConfig} {v : Int} {p : PersTimer} {meets : Bool}
    (h : (p = .raise1 ∧ (meets = true ↔ v < -(c.d1 : Int))) ∨ (p = .raise2 ∧ (meets = true ↔ v < -(c.d2 : Int))) ∨
      (p = .lower1 ∧ (meets = true ↔ -((c.d2 : Int) - 10) < v)) ∨
      (p = .lower0 ∧ (meets = true ↔ -((c.d1 : Int) - 10) < v))) :
    (u.judgeBattery c v).timer p = (u.timer p).judge meets := by
  unfold Supply.judgeBattery
  rcases h with ⟨rfl, hm⟩ | ⟨rfl, hm⟩ | ⟨rfl, hm⟩ | ⟨rfl, hm⟩ <;> simp only [Supply.timer_judge, ← hm] <;> simp

/-- Contributor (d)'s timers are judged by the harness load (R130). -/
theorem Supply.timer_judgeLoad {capacity harness : Nat} {p : PersTimer} {meets : Bool}
    (h : (p = .overCapacity ∧ (meets = true ↔ capacity < harness)) ∨
      (p = .underCapacity ∧ (meets = true ↔ (harness : Int) < roundDiv ((capacity : Int) * 9) 10))) :
    (u.judgeLoad capacity harness).timer p = (u.timer p).judge meets := by
  unfold Supply.judgeLoad
  rcases h with ⟨rfl, hm⟩ | ⟨rfl, hm⟩ <;> simp [Supply.timer_judge, ← hm]

theorem Supply.timer_judgeLoad_other (capacity harness : Nat) {p : PersTimer} (ho : p ≠ .overCapacity)
    (hu : p ≠ .underCapacity) : (u.judgeLoad capacity harness).timer p = u.timer p := by
  unfold Supply.judgeLoad
  rw [Supply.timer_judge, if_neg hu.symm, Supply.timer_judge, if_neg ho.symm]

/-! ## IGN and the contributors (R128, R130 to R132) -/

/-- IGN's effect on the contributors, the accumulator and its tick. -/
def Supply.followIgn (was now : Bool) : Supply :=
  if was = true ∧ now = false then u.ignOff else if was = false ∧ now = true then u.ignOn else u

theorem Supply.followIgn_same (b : Bool) : u.followIgn b b = u := by cases b <;> rfl

theorem Supply.followIgn_off : u.followIgn true false = u.ignOff := rfl

theorem Supply.followIgn_on : u.followIgn false true = u.ignOn := rfl

theorem Supply.ignOff_frame :
    ∃ timers, u.ignOff = { u with b := 0, d := 0, drainTick := some 1000, timers := timers } := by
  simp only [Supply.ignOff, Supply.setTimer]
  exact ⟨_, rfl⟩

theorem Supply.ignOff_timer (p : PersTimer) : u.ignOff.timer p = if persOfSupply p then u.timer p else .stopped := by
  have hset (v : Supply) (b d : Nat) (tick : Timer) :
      Supply.timer { v with b := b, d := d, drainTick := tick } p = v.timer p := rfl
  unfold Supply.ignOff
  rw [hset]
  simp only [Supply.timer_setTimer]
  cases p <;> rfl

/-- IGN leaves all but contributors (b) to (d), the timers, and the accumulator with its flag and tick. -/
theorem Supply.followIgn_frame (was now : Bool) : ∃ b c d timers drain drainOver drainTick, u.followIgn was now = { u with
    b := b, c := c, d := d, timers := timers, drain := drain, drainOver := drainOver, drainTick := drainTick } := by
  unfold Supply.followIgn
  split
  · obtain ⟨timers, h⟩ := u.ignOff_frame
    exact ⟨_, _, _, timers, _, _, _, h⟩
  · split <;> exact ⟨_, _, _, _, _, _, _, rfl⟩

/-- IGN leaves contributor (a)'s timers. -/
theorem Supply.followIgn_timer_ofSupply (was now : Bool) {p : PersTimer} (hp : persOfSupply p = true) :
    (u.followIgn was now).timer p = u.timer p := by
  unfold Supply.followIgn
  split
  · rw [Supply.ignOff_timer, if_pos hp]
  · split <;> rfl

/-- IGN that is on leaves every timer (R128, R130). -/
theorem Supply.followIgn_timer_on (was : Bool) (p : PersTimer) : (u.followIgn was true).timer p = u.timer p := by
  cases was <;> rfl

/-! ## Crank hold (R135) -/

theorem Supply.judgeCrank_eq (condition : Bool) : u.judgeCrank condition = { u with
    crank := condition || u.crank
    release := if condition = true then none else if u.crank = true ∧ u.release = none then some 500 else u.release } := by
  unfold Supply.judgeCrank
  cases condition with
  | true => rfl
  | false =>
    by_cases h : u.crank = true ∧ u.release = none
    · simp [h]
    · simp [h]

end

/-- When the crank condition holds (R135). -/
theorem State.crankCondition_iff (s : State) : s.crankCondition = true ↔ s.res.ign = true ∧
    (s.res.union.getLsbD 14 = true ∨
      (s.meas.supply.valid = true ∧ s.meas.supply.avg < if s.straps.sixVolt then 450 else 900)) := by
  have h : s.crankCondition = true ↔ s.res.ign = true ∧ (s.res.union.getLsbD 14 = true ∨
      (s.meas.supply.valid = true ∧ s.meas.supply.avg < s.crankThreshold)) := by
    simp [State.crankCondition, hasFn, fnStart]
  exact h

/-! ## The hand-ons -/

/-- The holds as the class orders change (R138 to R140). -/
def State.holdsOrdered (s : State) (orders : Classes Order) : Classes Hold :=
  ⟨s.supply.holds.one.ordered (decide (s.ctl.state = .starting)) s.stagger s.supply.orders.one orders.one,
    s.supply.holds.two.ordered (decide (s.ctl.state = .starting)) s.stagger s.supply.orders.two orders.two,
    s.supply.holds.three.ordered (decide (s.ctl.state = .starting)) s.stagger s.supply.orders.three orders.three⟩

theorem State.holdsOrdered_get (s : State) (orders : Classes Order) (cls : HeldClass) : (s.holdsOrdered orders).get cls =
    (s.supply.holds.get cls).ordered (decide (s.ctl.state = .starting)) s.stagger (s.supply.orders.get cls)
      (orders.get cls) := by
  cases cls <;> rfl

/-- The Supply Manager's stage: IGN's effect, the crank condition, the levels and orders with the holds. -/
theorem State.stageSupply_supply (s : State) (was : Bool) : ∃ localLevel effective orders, (s.stageSupply was).supply =
    { (s.supply.followIgn was s.res.ign).judgeCrank s.crankCondition with
      localLevel := localLevel, effective := effective, orders := orders, holds := s.holdsOrdered orders } := by
  obtain ⟨b, c, d, timers, drain, drainOver, drainTick, hu⟩ := s.supply.followIgn_frame was s.res.ign
  have hstage : ∃ localLevel effective, s.stageSupply was = (s.withSupply
      (Supply.judgeCrank { s.supply.followIgn was s.res.ign with localLevel := localLevel, effective := effective }
        s.crankCondition)).stageOrders := ⟨_, _, rfl⟩
  obtain ⟨localLevel, effective, hstage⟩ := hstage
  rw [hstage, Supply.judgeCrank_eq, Supply.judgeCrank_eq, hu]
  exact ⟨localLevel, effective, _, rfl⟩

/-- Contributor (d)'s timers judged while IGN is on (R130). -/
def Supply.followLoad (u : Supply) (ign : Bool) (capacity harness : Nat) : Supply :=
  if ign then u.judgeLoad capacity harness else u

theorem Supply.judgeLoad_frame (u : Supply) (capacity harness : Nat) :
    ∃ timers, u.judgeLoad capacity harness = { u with timers := timers } := by
  simp only [Supply.judgeLoad, Supply.judge, Supply.setTimer]
  exact ⟨_, rfl⟩

theorem Supply.judgeSupply_frame (u : Supply) (c : WorkingConfig) (v : Int) :
    ∃ timers, u.judgeSupply c v = { u with timers := timers } := by
  simp only [Supply.judgeSupply, Supply.judge, Supply.setTimer]
  exact ⟨_, rfl⟩

theorem Supply.judgeBattery_frame (u : Supply) (c : WorkingConfig) (v : Int) :
    ∃ timers, u.judgeBattery c v = { u with timers := timers } := by
  simp only [Supply.judgeBattery, Supply.judge, Supply.setTimer]
  exact ⟨_, rfl⟩

theorem Supply.followLoad_frame (u : Supply) (ign : Bool) (capacity harness : Nat) :
    ∃ timers, u.followLoad ign capacity harness = { u with timers := timers } := by
  cases ign with
  | false => exact ⟨_, rfl⟩
  | true => exact u.judgeLoad_frame capacity harness

theorem Supply.followLoad_timer_other (u : Supply) (ign : Bool) (capacity harness : Nat) {p : PersTimer}
    (ho : p ≠ .overCapacity) (hu : p ≠ .underCapacity) : (u.followLoad ign capacity harness).timer p = u.timer p := by
  cases ign with
  | false => rfl
  | true => exact u.timer_judgeLoad_other capacity harness ho hu

theorem State.settle_crankCondition (s before : State) (fresh : Bool) :
    (s.settle before fresh).crankCondition = s.stageUnion.crankCondition := by
  unfold State.crankCondition State.crankThreshold
  rw [State.settle_res_eq, (State.settle_handedOn s before fresh).meas.supply, State.settle_straps]
  rfl

/-- What the hand-ons make of the Supply Manager: IGN acts on the contributors, crank hold follows its condition, the levels
are recomputed, the holds follow the orders, and contributor (d) is judged last (R124 to R140). -/
theorem State.settle_supply_eq (s before : State) (fresh : Bool) :
    ∃ localLevel effective harness, (s.settle before fresh).supply =
      Supply.followLoad { (s.supply.followIgn s.res.ign (s.settle before fresh).res.ign).judgeCrank
          (s.settle before fresh).crankCondition with
        localLevel := localLevel, effective := effective, harness := harness
        orders := (s.settle before fresh).supply.orders
        holds := s.holdsOrdered (s.settle before fresh).supply.orders }
      (s.settle before fresh).res.ign s.cfg.capacity harness := by
  have hign : (s.settle before fresh).res.ign = s.stageUnion.res.ign := by rw [State.settle_res_eq]
  set u := (s.beforeChannels.stageChannels (s.beginsOn fresh)).stageFan with hu
  obtain ⟨harness, hload⟩ : ∃ harness, u.stageLoad.supply =
      Supply.followLoad { u.supply with harness := harness } u.res.ign u.cfg.capacity harness := ⟨_, rfl⟩
  have hsettle : (s.settle before fresh).supply = u.stageLoad.supply := by
    show ((u.stageLoad.stageControl before.res.eff).stageStatus before).supply = _
    rw [State.stageStatus_supply, State.stageControl_supply]
  have husupply : u.supply = (s.stageUnion.stageSupply s.res.ign).supply := by
    rw [hu, State.stageFan_supply, State.stageChannels_supply]
    show (s.stageUnion.stageSupply s.res.ign).stageFlasher.1.supply = _
    rw [State.stageFlasher_supply]
  have huign : u.res.ign = (s.settle before fresh).res.ign := by
    show _ = ((u.stageLoad.stageControl before.res.eff).stageStatus before).res.ign
    rw [State.stageStatus_res, State.stageControl_res, State.stageLoad_res]
  have hucfg : u.cfg = s.cfg := by
    rw [hu]; simp [State.beforeChannels]
  obtain ⟨localLevel, effective, orders, hstage⟩ := s.stageUnion.stageSupply_supply s.res.ign
  rw [husupply, hstage, huign, hucfg, ← hsettle, ← hign, ← State.settle_crankCondition s before fresh] at hload
  have horders : (s.settle before fresh).supply.orders = orders := by
    rw [hload]
    obtain ⟨timers, h⟩ := Supply.followLoad_frame _ (s.settle before fresh).res.ign s.cfg.capacity harness
    rw [h]
  rw [horders]
  exact ⟨localLevel, effective, harness, hload⟩

/-- What the hand-ons leave in the Supply Manager, field by field. -/
structure SupplyFollows (s t : State) : Prop where
  b         : t.supply.b = (s.supply.followIgn s.res.ign t.res.ign).b
  c         : t.supply.c = (s.supply.followIgn s.res.ign t.res.ign).c
  d         : t.supply.d = (s.supply.followIgn s.res.ign t.res.ign).d
  drain     : t.supply.drain = (s.supply.followIgn s.res.ign t.res.ign).drain
  drainOver : t.supply.drainOver = (s.supply.followIgn s.res.ign t.res.ign).drainOver
  drainTick : t.supply.drainTick = (s.supply.followIgn s.res.ign t.res.ign).drainTick
  crank     : t.supply.crank = (t.crankCondition || s.supply.crank)
  release   : t.supply.release = (if t.crankCondition = true then none
    else if s.supply.crank = true ∧ s.supply.release = none then some 500 else s.supply.release)
  holds     : t.supply.holds = s.holdsOrdered t.supply.orders
  timer     : ∀ p : PersTimer, p ≠ .overCapacity → p ≠ .underCapacity →
    t.supply.timer p = (s.supply.followIgn s.res.ign t.res.ign).timer p
  load      : t.res.ign = true → ∀ (p : PersTimer) (meets : Bool),
    (p = .overCapacity ∧ (meets = true ↔ s.cfg.capacity < t.supply.harness)) ∨
      (p = .underCapacity ∧ (meets = true ↔ (t.supply.harness : Int) < roundDiv ((s.cfg.capacity : Int) * 9) 10)) →
    t.supply.timer p = ((s.supply.followIgn s.res.ign t.res.ign).timer p).judge meets
  idle      : t.res.ign = false → t.supply.timers = (s.supply.followIgn s.res.ign t.res.ign).timers

theorem State.settle_supplyFollows (s before : State) (fresh : Bool) : SupplyFollows s (s.settle before fresh) := by
  obtain ⟨localLevel, effective, harness, h⟩ := s.settle_supply_eq before fresh
  obtain ⟨b, c, d, timers, drain, drainOver, drainTick, hign⟩ :=
    s.supply.followIgn_frame s.res.ign (s.settle before fresh).res.ign
  generalize s.settle before fresh = t at h hign ⊢
  rw [Supply.judgeCrank_eq] at h
  obtain ⟨loaded, hload⟩ := Supply.followLoad_frame { s.supply.followIgn s.res.ign t.res.ign with
    crank := t.crankCondition || (s.supply.followIgn s.res.ign t.res.ign).crank
    release := if t.crankCondition = true then none
      else if (s.supply.followIgn s.res.ign t.res.ign).crank = true ∧
        (s.supply.followIgn s.res.ign t.res.ign).release = none then some 500
      else (s.supply.followIgn s.res.ign t.res.ign).release
    localLevel := localLevel, effective := effective, harness := harness, orders := t.supply.orders
    holds := s.holdsOrdered t.supply.orders } t.res.ign s.cfg.capacity harness
  have hfields := h.trans hload
  have hharness : t.supply.harness = harness := by rw [hfields]
  constructor
  case crank => rw [hfields, hign]
  case release => rw [hfields, hign]
  case holds => exact congrArg Supply.holds hfields
  case timer =>
    intro p ho hu
    rw [h, Supply.followLoad_timer_other _ _ _ _ ho hu]; rfl
  case load =>
    intro hi p meets hp
    rw [hharness] at hp
    rw [h, hi]
    exact Supply.timer_judgeLoad _ hp
  case idle =>
    intro hi
    rw [h, hi]; rfl
  all_goals rw [hfields]

/-! ## The class holds (R133, R138 to R140) -/

theorem Hold.ordered_leaving {h : Hold} {number : Nat} {old new : Order} (ho : old = .shed) (hn : new ≠ .shed) :
    h.ordered false (number * 50) old new = if number = 0 then ⟨false, none⟩ else ⟨true, some (number * 50)⟩ := by
  unfold Hold.ordered
  rw [if_pos ⟨ho, hn⟩, if_neg Bool.false_ne_true]
  exact if_congr (by omega) rfl rfl

theorem Hold.ordered_entering {h : Hold} {delay : Nat} {old new : Order} (ho : old ≠ .shed) (hn : new = .shed) :
    h.ordered false delay old new = ⟨false, none⟩ := by
  unfold Hold.ordered
  rw [if_neg fun k => ho k.1, if_pos ⟨ho, hn⟩, if_neg Bool.false_ne_true]

theorem Hold.ordered_in_starting {h : Hold} {delay : Nat} {old new : Order} (hc : old = .shed ↔ new ≠ .shed) :
    h.ordered true delay old new = { h with timer := none } := by
  unfold Hold.ordered
  by_cases ho : old = .shed
  · rw [if_pos ⟨ho, hc.mp ho⟩, if_pos rfl]
  · rw [if_neg fun k => ho k.1, if_pos ⟨ho, not_not.mp fun hn => ho (hc.mpr hn)⟩, if_pos rfl]

theorem Hold.ordered_unchanged {h : Hold} {starting : Bool} {delay : Nat} {old new : Order}
    (hc : old = .shed ↔ new = .shed) : h.ordered starting delay old new = h := by
  unfold Hold.ordered
  rw [if_neg fun k => k.2 (hc.mp k.1), if_neg fun k => k.1 (hc.mpr k.2)]

/-- Settles O42: the two expiries end their hold and hand on; a class's hold follows its order by `Hold.ordered`. -/
theorem supplyTimersEnd : Obligations.SupplyTimersEnd := by
  intro s hup
  refine ⟨fun u hr hu => ?_, fun u cls holds hcls hu => ?_, fun before t fresh cls h old new ht hh hold hnew => ?_⟩
  · subst hu
    exact ⟨congrArg Host.Outcome.next (if_pos ⟨hup, hr⟩), State.settle_handedOn _ s false⟩
  · obtain ⟨hrun, hholds⟩ : (s.supply.holds.get cls).timer.isSome = true ∧
        holds = s.supply.holds.set cls ⟨false, none⟩ := by
      rcases hcls with ⟨rfl, hrun, hholds⟩ | ⟨rfl, hrun, hholds⟩ | ⟨rfl, hrun, hholds⟩ <;> exact ⟨hrun, hholds⟩
    subst hu hholds
    exact ⟨congrArg Host.Outcome.next (if_pos ⟨hup, hrun⟩), State.settle_handedOn _ s false⟩
  · have hget : t.supply.holds.get cls = h.ordered (decide (s.ctl.state = .starting)) (s.straps.number * 50) old new := by
      rw [hh, hold, hnew, ht, (s.settle_supplyFollows before fresh).holds, State.holdsOrdered_get]
      rfl
    rw [hget]
    refine ⟨fun ho hn hs => ?_, fun ho hn hs => ?_, fun hs hc => ?_, fun hc => Hold.ordered_unchanged hc⟩
    · rw [decide_eq_false hs, Hold.ordered_leaving ho hn]
    · rw [decide_eq_false hs, Hold.ordered_entering ho hn]
    · rw [decide_eq_true hs, Hold.ordered_in_starting hc]

end Sys2Proof.Machine
end

section
/-! PROOFS. The expiry of a persistence timer and the drain tick (R126 to R128, R130 to R132), with what the hand-ons leave in the
Supply Manager where IGN stands. -/

namespace Sys2Proof.Machine

/-! ## IGN that stands -/

/-- Where the resolver's values are up to date the hand-ons leave IGN as it is. -/
theorem State.ResolverOk.settle_ign {s u : State} (h : s.ResolverOk) (hup : s.up = true)
    (hu : ∃ ctl meas supply faults, u = { s with ctl := ctl, meas := meas, supply := supply, faults := faults })
    (before : State) (fresh : Bool) : (u.settle before fresh).res.ign = u.res.ign := by
  obtain ⟨ctl, meas, supply, faults, rfl⟩ := hu
  exact (State.settle_res_ign _ before fresh).trans (h.ign_eq hup)

/-- What the hand-ons leave in the Supply Manager where IGN stands. -/
theorem SupplyFollows.of_ign {s t : State} (h : SupplyFollows s t) (hi : t.res.ign = s.res.ign) :
    t.supply.b = s.supply.b ∧ t.supply.c = s.supply.c ∧ t.supply.d = s.supply.d ∧ t.supply.drain = s.supply.drain ∧
      t.supply.drainOver = s.supply.drainOver ∧ t.supply.drainTick = s.supply.drainTick ∧
      ∀ p : PersTimer, p ≠ .overCapacity → p ≠ .underCapacity → t.supply.timer p = s.supply.timer p := by
  have hsame : s.supply.followIgn s.res.ign t.res.ign = s.supply := by rw [hi, Supply.followIgn_same]
  obtain ⟨hb, hc, hd, hdrain, hover, htick, -, -, -, htimer, -, -⟩ := h
  rw [hsame] at hb hc hd hdrain hover htick htimer
  exact ⟨hb, hc, hd, hdrain, hover, htick, htimer⟩

/-- The hand-ons read nothing of the Supply Manager but what `HandedOn` names. -/
theorem HandedOn.of_withSupply {u t : State} {v w : Supply} (h : HandedOn (u.withSupply v) t) (ha : w.a = v.a)
    (ht : w.thermal = v.thermal) : HandedOn (u.withSupply w) t :=
  { h with level := h.level.trans ha.symm, thermal := h.thermal.trans ht.symm }

/-! ## The persistence timers' expiry (R126) -/

/-- A timer's effect: a raise to the greater, a lower to the lesser (R126 to R128, R130). -/
theorem Supply.effect_levels {u : Supply} {p : PersTimer} {a b d : Nat}
    (h : (p = .entry1 ∧ a = max u.a 1 ∧ b = u.b ∧ d = u.d) ∨ (p = .entry2 ∧ a = max u.a 2 ∧ b = u.b ∧ d = u.d) ∨
      (p = .entry3 ∧ a = max u.a 3 ∧ b = u.b ∧ d = u.d) ∨ (p = .exit1 ∧ a = 0 ∧ b = u.b ∧ d = u.d) ∨
      (p = .exit2 ∧ a = min u.a 1 ∧ b = u.b ∧ d = u.d) ∨ (p = .exit3 ∧ a = min u.a 2 ∧ b = u.b ∧ d = u.d) ∨
      (p = .raise1 ∧ a = u.a ∧ b = max u.b 1 ∧ d = u.d) ∨ (p = .raise2 ∧ a = u.a ∧ b = max u.b 2 ∧ d = u.d) ∨
      (p = .lower1 ∧ a = u.a ∧ b = min u.b 1 ∧ d = u.d) ∨ (p = .lower0 ∧ a = u.a ∧ b = 0 ∧ d = u.d) ∨
      (p = .overCapacity ∧ a = u.a ∧ b = u.b ∧ d = max u.d 1) ∨
      (p = .underCapacity ∧ a = u.a ∧ b = u.b ∧ d = 0)) : u.effect p = { u with a := a, b := b, d := d } := by
  rcases h with h | h | h | h | h | h | h | h | h | h | h | h <;>
    · obtain ⟨rfl, rfl, rfl, rfl⟩ := h
      simp [Supply.effect]

/-- Settles O40: an advancing timer's effect is `Supply.effect`, and where IGN stands the hand-ons leave the contributors. -/
theorem persistenceTimerApplies : Obligations.PersistenceTimerApplies := by
  intro s p a b d hup hr hrun hlevels
  refine ⟨fun hadv => ?_, fun hp hc => ?_⟩
  · have hadvances : s.supply.advances p = true := by
      unfold Supply.advances
      rw [decide_eq_true hrun]
      rcases hadv with h | h <;> simp [h]
    have heffect := Supply.effect_levels (u := s.supply.setTimer p .expired) hlevels
    have hexec : exec (.persistenceTimerExpiry p) s =
        .next ((s.withSupply ((s.supply.setTimer p .expired).effect p)).settle s false) :=
      congrArg Host.Outcome.next (if_pos ⟨hup, hadvances⟩)
    set v : Supply := { s.supply.setTimer p .expired with a := a, b := b, d := d } with hv
    rw [heffect] at hexec
    obtain ⟨hb, hc, hd, hdrain, -, -, htimer⟩ := ((s.withSupply v).settle_supplyFollows s false).of_ign
      (hr.settle_ign hup ⟨_, _, _, _, rfl⟩ s false)
    have hon := State.settle_handedOn (s.withSupply v) s false
    exact ⟨_, hexec, hon.of_withSupply (w := { s.supply with a := a }) rfl rfl, hon.level, hb, hd, hc, hdrain,
      fun ho hu => (htimer p ho hu).trans ((Supply.timer_setTimer s.supply p p .expired).trans (if_pos rfl))⟩
  · refine congrArg Host.Outcome.next (if_neg fun h => ?_)
    have hadv := h.2
    simp [Supply.advances, hp, hc] at hadv

/-! ## The drain tick (R131, R132) -/

/-- A Present peer's battery current is known exactly when one holds it (R60). -/
theorem PeerTable.battery_isSome_iff (t : PeerTable) :
    t.battery.isSome = true ↔ ∃ r ∈ t.records, r.state = .present ∧ r.battery.isSome = true := by
  have hbind : t.battery.isSome = (t.records.find? fun r => r.isPresent && r.battery.isSome).isSome := by
    unfold PeerTable.battery
    cases hf : t.records.find? fun r => r.isPresent && r.battery.isSome with
    | none => rfl
    | some r =>
      have hr := List.find?_some hf
      rw [Bool.and_eq_true] at hr
      exact hr.2
  rw [hbind, List.find?_isSome]
  simp [PeerRecord.isPresent]

theorem State.drainAmount_eq_none_iff (s : State) : s.drainAmount = none ↔
    s.cfg.shunt = false ∧ ∃ r ∈ s.peers.records, r.state = .present ∧ r.battery.isSome = true := by
  rw [← PeerTable.battery_isSome_iff]
  unfold State.drainAmount
  cases s.cfg.shunt <;> cases s.peers.battery.isSome <;> simp

theorem State.drainAmount_eq_some {s : State} {amount : Int}
    (h : (s.cfg.shunt = true ∧ amount = (if s.meas.battery.valid then -s.meas.battery.avg else 0)) ∨
      (s.cfg.shunt = false ∧ (∀ r ∈ s.peers.records, r.state = .present → r.battery = none) ∧
        amount = s.supply.harness)) : s.drainAmount = some amount := by
  rcases h with ⟨hs, rfl⟩ | ⟨hs, hp, rfl⟩
  · unfold State.drainAmount
    rw [if_pos hs]
  · have hb : ¬s.peers.battery.isSome = true := by
      rw [PeerTable.battery_isSome_iff]
      rintro ⟨r, hr, hstate, hsome⟩
      rw [hp r hr hstate] at hsome
      cases hsome
    unfold State.drainAmount
    rw [if_neg (by simp [hs]), if_neg hb]

/-- The accumulator takes an amount between its ends, and its flag marks the top (R131). -/
theorem Supply.takeDrain_eq (u : Supply) (amount : Int) {drain : Nat}
    (h : (drain : Int) = max 0 (min 2147483647 ((u.drain : Int) + amount))) : u.takeDrain amount = { u with
      drain := drain, drainOver := u.drainOver || decide (2147483647 < (u.drain : Int) + amount) } := by
  have hd : min (max ((u.drain : Int) + amount) 0).toNat drainMax = drain := by
    unfold drainMax
    omega
  unfold Supply.takeDrain
  dsimp only
  rw [hd]
  rfl

/-- A drain tick outside case 3 (R131, R132). -/
theorem State.drainStep_some {s : State} {amount : Int} (ha : s.drainAmount = some amount) {drain c : Nat}
    (hd : (drain : Int) = max 0 (min 2147483647 ((s.supply.drain : Int) + amount)))
    (hc : c = if s.cfg.allowance * 36000 < drain then 3 else s.supply.c) : s.drainStep = { s with
      supply := { s.supply with
        drain := drain, c := c, drainOver := s.supply.drainOver || decide (2147483647 < (s.supply.drain : Int) + amount) }
      faults := if s.supply.c = 0 ∧ c = 3 then s.faults.add .drainShed none s.ctl.clock else s.faults } := by
  unfold State.drainStep
  rw [ha]
  dsimp only
  rw [Supply.takeDrain_eq _ _ hd]
  unfold State.allowance
  by_cases hover : s.cfg.allowance * 36000 < drain
  · rw [if_pos hover] at hc
    subst hc
    rw [if_pos hover]
    by_cases hzero : s.supply.c = 0
    · rw [if_pos hzero, if_pos ⟨hzero, rfl⟩]; rfl
    · rw [if_neg hzero, if_neg fun k => hzero k.1]; rfl
  · rw [if_neg hover] at hc
    subst hc
    rw [if_neg hover, if_neg (by omega)]
    rfl

theorem State.drainStep_none {s : State} (h : s.drainAmount = none) :
    s.drainStep = { s with supply := { s.supply with c := 0 } } := by
  unfold State.drainStep
  rw [h]
  rfl

/-- DRAIN_TICK takes its step, reloads, and hands on with IGN as it stands (R131, R132). -/
theorem execDrainTick_handsOn {s : State} (hup : s.up = true) (hr : s.ResolverOk) (ht : s.supply.drainTick.isSome = true)
    {v : Supply} {f : FaultList} (hstep : s.drainStep = { s with supply := v, faults := f }) (ha : v.a = s.supply.a)
    (hth : v.thermal = s.supply.thermal) : ∃ t, exec .drainTick s = .next t ∧ HandedOn { s with faults := f } t ∧
      t.supply.drain = v.drain ∧ t.supply.c = v.c ∧ t.supply.drainTick = some 1000 ∧ t.supply.drainOver = v.drainOver := by
  set u : State := { s with supply := { v with drainTick := some 1000 }, faults := f } with hu
  have hexec : exec .drainTick s = .next (u.settle s false) := by
    refine (congrArg Host.Outcome.next (if_pos ⟨hup, ht⟩)).trans ?_
    dsimp only
    rw [hstep]
    rfl
  obtain ⟨-, hc, -, hdrain, hover, htick, -⟩ := (u.settle_supplyFollows s false).of_ign
    (hr.settle_ign hup ⟨_, _, _, _, rfl⟩ s false)
  have hon : HandedOn (State.withSupply { s with faults := f } { v with drainTick := some 1000 }) (u.settle s false) :=
    State.settle_handedOn u s false
  exact ⟨_, hexec, hon.of_withSupply (w := s.supply) ha.symm hth.symm, hdrain, hc, htick, hover⟩

/-- Settles O41: the two ways a drain tick goes, by the amount it takes. -/
theorem drainTickAccumulates : Obligations.DrainTickAccumulates := by
  intro s hup hr ht
  refine ⟨fun amount drain c hamount hdrain hc => ?_, fun r hmem hshunt hpresent hbattery => ?_⟩
  · have hstep := State.drainStep_some (State.drainAmount_eq_some hamount) hdrain hc
    exact execDrainTick_handsOn hup hr ht hstep rfl rfl
  · have hnone := s.drainAmount_eq_none_iff.mpr ⟨hshunt, r, hmem, hpresent, hbattery⟩
    exact execDrainTick_handsOn hup hr ht (State.drainStep_none hnone) rfl rfl

end Sys2Proof.Machine
end

section
/-! PROOFS. What the completed supply, die-temperature and battery-shunt blocks make of the Supply Manager (R126 to R128, R135,
R137), and IGN's and the harness load's part in the hand-ons (R128 to R132). -/

namespace Sys2Proof.Machine

/-! ## The samples that complete a block -/

section
variable {s : State}

theorem execSample_supply (hup : s.up = true) (hs : s.meas.slot = some 0) (hc : 15 ≤ s.meas.supply.count) (x : Int) :
    ∃ m b, exec (.sample x) s = .next ((s.withMeas m).supplyCompleted.settle b false) ∧ m.supply.valid = true ∧
      m.supply.avg = roundDiv (s.meas.supply.sum + max 0 (min 2000 x)) 16 := by
  have htake := Record.take_completed (r := s.meas.supply) (len := 16) (by omega)
  have hrun (next : Option Nat) (v : Int) (beyond : Bool) : ∃ m, (s.onSlot next).sampleInput .supply v beyond =
      (s.withMeas m).supplyCompleted.settle (s.onSlot next) false ∧ m.supply = (s.meas.supply.take 16 v beyond).1 :=
    ⟨_, if_pos (congrArg Prod.snd (htake v beyond)), rfl⟩
  obtain ⟨m, hm, hrec⟩ := hrun _ _ _
  rw [htake] at hrec
  exact ⟨m, _, (execSample_next hup hs (by decide) x).trans (congrArg Host.Outcome.next hm), by rw [hrec], by rw [hrec]; rfl⟩

theorem execSample_die (hup : s.up = true) (hs : s.meas.slot = some 1) (hc : 15 ≤ s.meas.die.count) (x : Int) :
    ∃ m b, exec (.sample x) s = .next ((s.withMeas m).judgeThermal.settle b false) ∧
      m.die.avg = roundDiv (s.meas.die.sum + max (-40) (min 160 x)) 16 := by
  have htake := Record.take_completed (r := s.meas.die) (len := 16) (by omega)
  have hrun (next : Option Nat) (v : Int) (beyond : Bool) : ∃ m, (s.onSlot next).sampleInput .die v beyond =
      (s.withMeas m).judgeThermal.settle (s.onSlot next) false ∧ m.die = (s.meas.die.take 16 v beyond).1 :=
    ⟨_, if_pos (congrArg Prod.snd (htake v beyond)), rfl⟩
  obtain ⟨m, hm, hrec⟩ := hrun _ _ _
  rw [htake] at hrec
  exact ⟨m, _, (execSample_next hup hs (by decide) x).trans (congrArg Host.Outcome.next hm), by rw [hrec]; rfl⟩

theorem execSample_battery (hup : s.up = true) (hs : s.meas.slot = some 2) (hshunt : s.cfg.shunt = true)
    (hc : 15 ≤ s.meas.battery.count) {x v : Int}
    (hv : v = roundDiv (s.meas.battery.sum + max (-600) (min 600 x)) 16) : ∃ m b, exec (.sample x) s = .next
      (State.settle { s with
        meas := m, supply := if s.res.ign then s.supply.judgeBattery s.cfg v else s.supply } b false) := by
  have htake := Record.take_completed (r := s.meas.battery) (len := 16) (by omega)
  have hrun (next : Option Nat) (y : Int) (beyond : Bool) (hy : v = roundDiv (s.meas.battery.sum + y) 16) :
      ∃ m, (s.onSlot next).sampleInput .battery y beyond = State.settle { s with
        meas := m, supply := if s.res.ign then s.supply.judgeBattery s.cfg v else s.supply } (s.onSlot next) false := by
    have havg : (s.meas.battery.take 16 y beyond).1.avg = v := by rw [htake, hy]; rfl
    rw [← havg]
    exact ⟨_, (if_pos hshunt).trans (if_pos (congrArg Prod.snd (htake y beyond)))⟩
  obtain ⟨m, hm⟩ := hrun _ _ _ hv
  exact ⟨m, _, (execSample_next hup hs (by decide) x).trans (congrArg Host.Outcome.next hm)⟩

/-! ## The readers of those blocks -/

theorem Supply.judgeCrank_timer (u : Supply) (condition : Bool) (p : PersTimer) :
    (u.judgeCrank condition).timer p = u.timer p := by rw [Supply.judgeCrank_eq]; rfl

/-- A completed supply block leaves contributor (a)'s timers in crank hold, the condition judged first (R127, R135). -/
theorem State.supplyCompleted_held (h : (s.crankCondition || s.supply.crank) = true) :
    s.supplyCompleted.supply = s.supply.judgeCrank s.crankCondition := by
  have hcrank : (s.supply.judgeCrank s.crankCondition).crank = true := by rw [Supply.judgeCrank_eq]; exact h
  exact if_pos hcrank

/-- Outside crank hold a completed supply block judges contributor (a)'s timers (R127). -/
theorem State.supplyCompleted_judged (h : (s.crankCondition || s.supply.crank) = false) :
    s.supplyCompleted.supply = (s.supply.judgeCrank s.crankCondition).judgeSupply s.cfg s.meas.supply.avg := by
  have hcrank : (s.supply.judgeCrank s.crankCondition).crank = false := by rw [Supply.judgeCrank_eq]; exact h
  exact if_neg (Bool.eq_false_iff.mp hcrank)

theorem State.supplyCompleted_a (s : State) : s.supplyCompleted.supply.a = s.supply.a := by
  have hcrank : (s.supply.judgeCrank s.crankCondition).a = s.supply.a := (s.supply.judgeCrank_kept _).1
  cases h : s.crankCondition || s.supply.crank with
  | true => rw [State.supplyCompleted_held h, hcrank]
  | false =>
    obtain ⟨timers, hjudge⟩ := (s.supply.judgeCrank s.crankCondition).judgeSupply_frame s.cfg s.meas.supply.avg
    rw [State.supplyCompleted_judged h, hjudge, hcrank]

theorem State.judgeThermal_eq (s : State) : s.judgeThermal = { s with
    supply := { s.supply with
      thermal := if s.supply.thermal = true then decide (125 ≤ s.meas.die.avg) else decide (140 ≤ s.meas.die.avg) }
    faults := if s.supply.thermal = false ∧ 140 ≤ s.meas.die.avg then s.faults.add .thermal none s.ctl.clock
      else s.faults } := by
  unfold State.judgeThermal
  dsimp only
  cases hthermal : s.supply.thermal with
  | true =>
    have hnone : ¬(true = false ∧ 140 ≤ s.meas.die.avg) := fun k => Bool.noConfusion k.1
    rw [if_pos rfl, if_pos rfl, if_neg hnone]
    by_cases hv : s.meas.die.avg < 125
    · rw [if_pos hv, decide_eq_false (by omega)]; rfl
    · rw [if_neg hv, decide_eq_true (by omega), ← hthermal]
  | false =>
    rw [if_neg Bool.false_ne_true, if_neg Bool.false_ne_true]
    by_cases hv : 140 ≤ s.meas.die.avg
    · rw [if_pos hv, if_pos ⟨rfl, hv⟩, decide_eq_true hv]; rfl
    · rw [if_neg hv, if_neg fun k => hv k.2, decide_eq_false hv, ← hthermal]

end

/-! ## The hand-ons -/

/-- The hand-ons leave contributor (a)'s timers (R127). -/
theorem State.settle_timer_ofSupply (s before : State) (fresh : Bool) {p : PersTimer} (hp : persOfSupply p = true) :
    (s.settle before fresh).supply.timer p = s.supply.timer p := by
  rw [(s.settle_supplyFollows before fresh).timer p (by rintro rfl; cases hp) (by rintro rfl; cases hp),
    Supply.followIgn_timer_ofSupply _ _ _ hp]

theorem State.settle_supply_ignOff {s before : State} {fresh : Bool} (hs : s.res.ign = false) {t : State}
    (h : t = s.settle before fresh) (ht : t.res.ign = false) : t.supply = { s.supply with
      localLevel := t.supply.localLevel, effective := t.supply.effective, harness := t.supply.harness
      orders := t.supply.orders, holds := t.supply.holds, crank := t.supply.crank, release := t.supply.release } := by
  obtain ⟨localLevel, effective, harness, hsupply⟩ := s.settle_supply_eq before fresh
  rw [← h, hs, ht, Supply.followIgn_same, Supply.judgeCrank_eq] at hsupply
  generalize t.supply.orders = orders at hsupply
  rw [hsupply]
  rfl

/-- The sample that completes a supply block (R127, R135). -/
theorem execSample_supply_judged {s : State} {x v : Int} {crank : Bool} (hup : s.up = true) (hslot : s.meas.slot = some 0)
    (hcount : 15 ≤ s.meas.supply.count) (hv : v = roundDiv (s.meas.supply.sum + max 0 (min 2000 x)) 16)
    (hcrank : crank = true ↔ s.supply.crank = true ∨
      (s.res.ign = true ∧ (s.res.union.getLsbD 14 = true ∨ v < (if s.straps.sixVolt then 450 else 900)))) :
    ∃ t u : State, exec (.sample x) s = .next t ∧ t.supply.a = s.supply.a ∧ t.faults = s.faults ∧
      (∀ p, persOfSupply p = true → t.supply.timer p = u.supply.timer p) ∧
      (crank = true → ∀ p, u.supply.timer p = s.supply.timer p) ∧
      (crank = false → ∃ w : Supply, (∀ p, w.timer p = s.supply.timer p) ∧ u.supply = w.judgeSupply s.cfg v) := by
  obtain ⟨m, b, hexec, hvalid, havg⟩ := execSample_supply hup hslot hcount x
  rw [← hv] at havg
  have hjudged : ((s.withMeas m).crankCondition || (s.withMeas m).supply.crank) = crank := by
    rw [Bool.eq_iff_iff, Bool.or_eq_true, State.crankCondition_iff, hcrank, State.withMeas_meas, hvalid, havg, or_comm]
    exact or_congr_right (and_congr_right fun _ => or_congr_right ⟨fun h => h.2, fun h => ⟨rfl, h⟩⟩)
  have hon := State.settle_handedOn (s.withMeas m).supplyCompleted b false
  refine ⟨_, (s.withMeas m).supplyCompleted, hexec, hon.level.trans (State.supplyCompleted_a _), hon.faults,
    fun p hp => State.settle_timer_ofSupply _ b false hp, fun hc p => ?_, fun hc => ?_⟩
  · rw [State.supplyCompleted_held (hjudged.trans hc), Supply.judgeCrank_timer]; rfl
  · have h := State.supplyCompleted_judged (hjudged.trans hc)
    rw [State.withMeas_meas, havg] at h
    exact ⟨_, fun p => Supply.judgeCrank_timer _ _ p, h⟩

/-- The sample that completes a die-temperature block (R137). -/
theorem execSample_die_judged {s : State} {x v : Int} (hup : s.up = true) (hslot : s.meas.slot = some 1)
    (hcount : 15 ≤ s.meas.die.count) (hv : v = roundDiv (s.meas.die.sum + max (-40) (min 160 x)) 16) :
    ∃ t, exec (.sample x) s = .next t ∧
      t.supply.thermal = (if s.supply.thermal = true then decide (125 ≤ v) else decide (140 ≤ v)) ∧
      t.faults = if s.supply.thermal = false ∧ 140 ≤ v then s.faults.add .thermal none s.ctl.clock else s.faults := by
  obtain ⟨m, b, hexec, havg⟩ := execSample_die hup hslot hcount x
  have hon := State.settle_handedOn (s.withMeas m).judgeThermal b false
  rw [hv, ← havg]
  exact ⟨_, hexec, hon.thermal.trans (by rw [State.judgeThermal_eq]; rfl),
    hon.faults.trans (by rw [State.judgeThermal_eq]; rfl)⟩

/-- The sample that completes a battery-shunt block (R128). -/
theorem execSample_battery_judged {s : State} {x v : Int} (hup : s.up = true) (hr : s.ResolverOk)
    (hslot : s.meas.slot = some 2) (hshunt : s.cfg.shunt = true) (hcount : 15 ≤ s.meas.battery.count)
    (hv : v = roundDiv (s.meas.battery.sum + max (-600) (min 600 x)) 16) :
    ∃ t, exec (.sample x) s = .next t ∧ t.supply.a = s.supply.a ∧
      (s.res.ign = true → t.supply.b = s.supply.b ∧ ∀ p : PersTimer, p ≠ .overCapacity → p ≠ .underCapacity →
        t.supply.timer p = (s.supply.judgeBattery s.cfg v).timer p) ∧
      (s.res.ign = false → t.supply = { s.supply with
        localLevel := t.supply.localLevel, effective := t.supply.effective, harness := t.supply.harness
        orders := t.supply.orders, holds := t.supply.holds, crank := t.supply.crank, release := t.supply.release }) := by
  obtain ⟨m, b, hexec⟩ := execSample_battery hup hslot hshunt hcount hv
  obtain ⟨timers, hframe⟩ := s.supply.judgeBattery_frame s.cfg v
  set w : Supply := if s.res.ign then s.supply.judgeBattery s.cfg v else s.supply with hw
  set u : State := { s with meas := m, supply := w } with hu
  have hign : (u.settle b false).res.ign = s.res.ign := hr.settle_ign hup ⟨s.ctl, m, w, s.faults, rfl⟩ b false
  refine ⟨_, hexec, ?_, fun hi => ?_, fun hi => ?_⟩
  · refine (State.settle_handedOn u b false).level.trans ?_
    show w.a = _
    rw [hw]
    split
    · rw [hframe]
    · rfl
  · have hjudged : w = s.supply.judgeBattery s.cfg v := if_pos hi
    obtain ⟨hb, -, -, -, -, -, htimer⟩ := (u.settle_supplyFollows b false).of_ign hign
    refine ⟨hb.trans ?_, fun p ho hl => (htimer p ho hl).trans (congrArg (Supply.timer · p) hjudged)⟩
    show w.b = _
    rw [hjudged, hframe]
  · have hkept : w = s.supply := if_neg (Bool.eq_false_iff.mp hi)
    have h := State.settle_supply_ignOff (s := u) (before := b) (fresh := false) hi rfl (hign.trans hi)
    have husupply : u.supply = s.supply := hkept
    rw [husupply] at h
    exact h

/-- Settles O33: each block's readers by their own lemma, and the hand-ons by `SupplyFollows`. -/
theorem supplyAndThermalJudged : Obligations.SupplyAndThermalJudged := by
  refine ⟨fun s x v start crank hup hslot hcount hv hstart hcrank => ?_,
    fun s x v hup hslot hcount hv => execSample_die_judged hup hslot hcount hv,
    fun s x v hup hr hslot hshunt hcount hv => ?_, fun s before t fresh condition ht hcondition => ?_,
    fun s before t fresh ht => ?_⟩
  · subst hstart
    obtain ⟨t, u, hexec, ha, hfaults, htimer, hheld, hfree⟩ := execSample_supply_judged hup hslot hcount hv hcrank
    refine ⟨t, hexec, fun hc p hp => (htimer p hp).trans (hheld hc p), fun hc p meets hp => ?_, ha, hfaults⟩
    have hofSupply : persOfSupply p = true := by
      rcases hp with ⟨rfl, -⟩ | ⟨rfl, -⟩ | ⟨rfl, -⟩ | ⟨rfl, -⟩ | ⟨rfl, -⟩ | ⟨rfl, -⟩ <;> rfl
    obtain ⟨w, hw, hjudge⟩ := hfree hc
    rw [← PTimer.judge_eq, htimer p hofSupply, hjudge, Supply.timer_judgeSupply w hp, hw]
  · obtain ⟨t, hexec, ha, hon, hoff⟩ := execSample_battery_judged hup hr hslot hshunt hcount hv
    refine ⟨t, hexec, ha, fun hi => ⟨(hon hi).1, fun p meets hp => ?_⟩, hoff⟩
    have hload : p ≠ .overCapacity ∧ p ≠ .underCapacity := by
      rcases hp with ⟨rfl, -⟩ | ⟨rfl, -⟩ | ⟨rfl, -⟩ | ⟨rfl, -⟩ <;> decide
    rw [← PTimer.judge_eq, (hon hi).2 p hload.1 hload.2, Supply.timer_judgeBattery _ hp]
  · have hfollows := s.settle_supplyFollows before fresh
    have hcrank : t.crankCondition = condition := by
      rw [Bool.eq_iff_iff, State.crankCondition_iff, hcondition, ht, (State.settle_handedOn s before fresh).meas.supply,
        State.settle_straps]
    rw [← hcrank, ht]
    exact ⟨hfollows.crank, hfollows.release⟩
  · have hfollows : SupplyFollows s t := ht ▸ s.settle_supplyFollows before fresh
    refine ⟨fun hs hi => ?_, fun hs hi => ?_, fun hi => ?_, fun hs hi => ?_, fun hi p meets hp => ?_, fun hi p ho hl => ?_⟩
    · obtain ⟨timers, hoff⟩ := s.supply.ignOff_frame
      obtain ⟨hb, hc, hd, hdrain, hover, htick, -, -, -, -, -, hidle⟩ := hfollows
      rw [hs, hi, Supply.followIgn_off] at hb hc hd hdrain hover htick hidle
      rw [hoff] at hb hc hd hdrain hover htick
      exact ⟨hb, hd, hc, hdrain, hover, htick, fun p =>
        (congrArg (fun ts : Vector PTimer 12 => ts[persIndex p]) (hidle rfl)).trans (s.supply.ignOff_timer p)⟩
    · obtain ⟨hb, hc, hd, hdrain, hover, htick, -, -, -, -, -, -⟩ := hfollows
      rw [hs, hi, Supply.followIgn_on] at hb hc hd hdrain hover htick
      exact ⟨hb, hd, hc, hdrain, hover, htick⟩
    · obtain ⟨hb, hc, hd, hdrain, hover, htick, -⟩ := hfollows.of_ign hi.symm
      exact ⟨hb, hd, hc, hdrain, hover, htick⟩
    · rw [hfollows.idle hi, hs, hi, Supply.followIgn_same]
    · subst ht
      rw [← PTimer.judge_eq, hfollows.load hi p meets hp, hi, Supply.followIgn_timer_on]
    · rw [hfollows.timer p ho hl, hi, Supply.followIgn_timer_on]

end Sys2Proof.Machine
end

section
/-! PROOFS. The load of the configuration record, field by field (R43, R49, R52, R79, R82, R120, R127, R128, R130, R132, R144,
R157, R158, R178, R191), and the default configuration. -/

namespace Sys2Proof.Machine

/-! ## Bytes and pieces of the record -/

theorem byteAt_lt (p : List Byte) (i : Nat) : byteAt p i < 256 := (p.getD i 0).isLt

theorem wordAt_lt (p : List Byte) (i : Nat) : wordAt p i < 65536 := by
  have h := byteAt_lt p i
  have h' := byteAt_lt p (i + 1)
  unfold wordAt
  omega

theorem clampNat_eq_max_min {lo hi : Nat} (h : lo ≤ hi) (n : Nat) : clampNat lo hi n = max lo (min hi n) := by
  unfold clampNat
  split
  · omega
  · split <;> omega

/-- The `size` bytes of `b` from offset `o` on. -/
def piece (b : List Byte) (o size : Nat) : List Byte := (b.drop o).take size

theorem pieces_eq (size n : Nat) (b : List Byte) (o : Nat) :
    pieces size n (b.drop o) = (List.range n).map fun i => piece b (o + size * i) size := by
  induction n generalizing o with
  | zero => rfl
  | succ n ih =>
    rw [pieces, List.drop_drop, ih, List.range_succ_eq_map, List.map_cons, List.map_map]
    refine congrArg₂ List.cons rfl (List.map_congr_left fun i _ => ?_)
    simp only [Function.comp, Nat.mul_succ, Nat.add_comm size, Nat.add_assoc]

section
variable (b : List Byte) (o : Nat) {size j : Nat}

theorem getD_piece (h : j < size) : (piece b o size).getD j 0 = b.getD (o + j) 0 := by
  simp [piece, List.getD_eq_getElem?_getD, h]

theorem byteAt_piece (h : j < size) : byteAt (piece b o size) j = byteAt b (o + j) := by
  rw [byteAt, getD_piece b o h]; rfl

theorem wordAt_piece (h : j + 1 < size) : wordAt (piece b o size) j = wordAt b (o + j) := by
  rw [wordAt, byteAt_piece b o (by omega), byteAt_piece b o h]; rfl

end

theorem vector4_get {α : Type} (l : List (Counted α)) (d : α) (i : Fin 4) : (vector4 l d)[i] = (l.map Prod.fst).getD i d := by
  match i with
  | 0 | 1 | 2 | 3 => rfl

theorem vector8_get {α : Type} (l : List (Counted α)) (d : α) (i : Fin 8) : (vector8 l d)[i] = (l.map Prod.fst).getD i d := by
  match i with
  | 0 | 1 | 2 | 3 | 4 | 5 | 6 | 7 => rfl

/-- The `i`-th entry of those loaded one by one from consecutive pieces. -/
theorem getD_load_pieces {α : Type} (load : List Byte → Counted α) (size n : Nat) (b : List Byte) (o : Nat) (d : α)
    {i : Nat} (h : i < n) :
    (((pieces size n (b.drop o)).map load).map Prod.fst).getD i d = (load (piece b (o + size * i) size)).1 := by
  rw [pieces_eq]
  simp [List.getD_eq_getElem?_getD, h]

/-! ## Switches and gauges (R43, R157) -/

theorem flagBit_eq_zero_iff (b : Bool) : flagBit b = 0 ↔ b = false := by cases b <;> decide

theorem loadSwitch_loadedFrom (b : List Byte) (o : Nat) : (loadSwitch (piece b o 4)).1.LoadedFrom b o := by
  have h0 : (piece b o 4).getD 0 0 = b.getD o 0 := getD_piece b o (by decide)
  have h1 : byteAt (piece b o 4) 1 = byteAt b (o + 1) := byteAt_piece b o (by decide)
  have h2 : byteAt (piece b o 4) 2 = byteAt b (o + 2) := byteAt_piece b o (by decide)
  have h3 : byteAt (piece b o 4) 3 = byteAt b (o + 3) := byteAt_piece b o (by decide)
  unfold loadSwitch
  rw [h0, h1, h2, h3]
  exact {
    enabled := by simp [and_assoc]
    flags := ⟨rfl, rfl⟩
    codes := ⟨rfl, rfl⟩
    hold := (clampNat_eq_max_min (by decide) _).trans (Nat.zero_max _) }

/-- The fields that name a gauge's source (R157). -/
theorem badSource_eq_zero_iff (type number slot : Nat) : badSource type number slot = 0 ↔
    (type = 0 ∧ number ≤ 3) ∨ (type = 1 ∧ number ≤ 15 ∧ slot ≤ 1) ∨ type = 2 ∨ type = 3 := by
  rcases type with _ | _ | _ | _ | type <;> simp [badSource, flagBit_eq_zero_iff]

theorem gaugeKindOf_eq (n : Nat) : gaugeKindOf n = [GaugeKind.off, .thermal, .coilEnd, .coilCentre].getD n .off := by
  rcases n with _ | _ | _ | _ | n <;> rfl

theorem loadGauge_loadedFrom (b : List Byte) (o : Nat) : (loadGauge (piece b o 14)).1.LoadedFrom b o := by
  have hbyte {j : Nat} (h : j < 14) := byteAt_piece b o h
  have hword {j : Nat} (h : j + 1 < 14) := wordAt_piece b o h
  have h0 : byteAt (piece b o 14) 0 = byteAt b o := hbyte (by decide)
  unfold loadGauge
  rw [h0, hbyte (j := 1) (by decide), hbyte (j := 2) (by decide), hbyte (j := 3) (by decide),
    hword (j := 4) (by decide), hword (j := 6) (by decide), hword (j := 8) (by decide), hword (j := 10) (by decide),
    hword (j := 12) (by decide)]
  have hspan (n : Nat) : clampNat 0 2000 n = min 2000 n :=
    (clampNat_eq_max_min (by decide) n).trans (Nat.zero_max _)
  refine ⟨?_, ⟨rfl, rfl, rfl⟩, ⟨?_, ?_, ?_⟩, ?_⟩
  · dsimp only
    rw [gaugeKindOf_eq, if_congr (badSource_eq_zero_iff _ _ _) rfl rfl, ← ite_not]
    exact if_congr (by tauto) rfl rfl
  · exact clampNat_eq_max_min (by decide) _
  · exact clampNat_eq_max_min (by decide) _
  · exact clampNat_eq_max_min (by decide) _
  · rintro lo hi rfl rfl
    simp only [hspan, counted]
    refine ⟨fun h => ?_, fun h h' => ?_, fun h h' => ?_⟩
    · rw [if_neg (by omega), if_neg (by omega)]; exact ⟨rfl, rfl⟩
    · rw [if_neg (by omega), if_pos h, if_neg (by omega)]; exact ⟨rfl, rfl⟩
    · rw [if_pos ⟨h, h'⟩, if_pos h, if_pos h']; exact ⟨rfl, rfl⟩

/-! ## Channels (R81, R82) -/

theorem channelKindOf_eq_iff (n : Nat) : (channelKindOf n = .lamp ↔ n = 1) ∧ (channelKindOf n = .flashLamp ↔ n = 2) ∧
    (channelKindOf n = .stopTurn ↔ n = 3) ∧ (channelKindOf n = .plain ↔ n = 4) ∧ (channelKindOf n = .motor ↔ n = 5) := by
  rcases n with _ | _ | _ | _ | _ | _ | n <;> simp [channelKindOf]

/-- The kind that a channel entry is loaded with before the rule of the second Motor (R82). -/
theorem loadChannel_kind_iff (b : List Byte) (o : Nat) {k : ChannelKind} (hk : k ≠ .off) {code : Nat}
    (hcode : ∀ n, channelKindOf n = k ↔ n = code) :
    (loadChannel (piece b o 19)).1.kind = k ↔ byteAt b o = code ∧ byteAt b (o + 1) ≤ 18 := by
  have h0 : byteAt (piece b o 19) 0 = byteAt b o := byteAt_piece b o (by decide)
  have h1 : byteAt (piece b o 19) 1 = byteAt b (o + 1) := byteAt_piece b o (by decide)
  unfold loadChannel
  dsimp only
  rw [h0, h1, ← hcode]
  split
  · rename_i h; exact (and_iff_left h).symm
  · rename_i h; exact ⟨fun e => absurd e.symm hk, fun e => absurd e.2 h⟩

theorem loadChannel_motor_iff (b : List Byte) (o : Nat) : (loadChannel (piece b o 19)).1.kind = .motor ↔
    byteAt b o = 5 ∧ byteAt b (o + 1) ≤ 18 := loadChannel_kind_iff b o (by decide) fun n => (channelKindOf_eq_iff n).2.2.2.2

/-- A loaded channel entry, its kind as loaded or Off for a Motor. -/
theorem loadChannel_loadedFrom (b : List Byte) (o : Nat) {k : ChannelKind}
    (hk : k = (loadChannel (piece b o 19)).1.kind ∨ ((loadChannel (piece b o 19)).1.kind = .motor ∧ k = .off)) :
    ChannelEntry.LoadedFrom b o { (loadChannel (piece b o 19)).1 with kind := k } := by
  have hkind (x : ChannelKind) (hx : x ≠ .off) (hm : x ≠ .motor) : k = x ↔ (loadChannel (piece b o 19)).1.kind = x := by
    rcases hk with rfl | ⟨h, rfl⟩
    · exact Iff.rfl
    · rw [h]; exact ⟨fun e => absurd e.symm hx, fun e => absurd e.symm hm⟩
  have hcode := fun n => channelKindOf_eq_iff n
  have hbyte {j : Nat} (h : j < 19) := byteAt_piece b o h
  have hword {j : Nat} (h : j + 1 < 19) := wordAt_piece b o h
  have h0 : byteAt (piece b o 19) 0 = byteAt b o := hbyte (by decide)
  have hzero (hi n : Nat) : clampNat 0 hi n = min hi n := (clampNat_eq_max_min (Nat.zero_le _) n).trans (Nat.zero_max _)
  refine ⟨⟨?_, ?_, ?_, ?_, ?_⟩, hbyte (by decide), ?_, ?_, ⟨?_, ?_⟩, ⟨?_, ?_, ?_, ?_⟩, ?_, ?_, ?_⟩
  · exact (hkind .lamp (by decide) (by decide)).trans (loadChannel_kind_iff b o (by decide) fun n => (hcode n).1)
  · exact (hkind .flashLamp (by decide) (by decide)).trans (loadChannel_kind_iff b o (by decide) fun n => (hcode n).2.1)
  · exact (hkind .stopTurn (by decide) (by decide)).trans (loadChannel_kind_iff b o (by decide) fun n => (hcode n).2.2.1)
  · exact (hkind .plain (by decide) (by decide)).trans (loadChannel_kind_iff b o (by decide) fun n => (hcode n).2.2.2.1)
  · intro h
    rcases hk with rfl | ⟨-, rfl⟩
    · exact (loadChannel_motor_iff b o).mp h
    · cases h
  · dsimp only [loadChannel]
    rw [hbyte (j := 2) (by decide)]
    split <;> simp_all
  · dsimp only [loadChannel, loadNat, counted]
    rw [h0, hbyte (j := 3) (by decide), hzero]
    exact if_congr (by simp) rfl rfl
  · dsimp only [loadChannel, loadNat, counted]
    rw [hword (by decide), clampNat_eq_max_min (by decide)]
  · dsimp only [loadChannel, loadNat, counted]
    rw [hword (by decide), hzero]
  · dsimp only [loadChannel, loadNat, counted]
    rw [hword (by decide), clampNat_eq_max_min (by decide)]
  · dsimp only [loadChannel, loadNat, counted]
    rw [hword (by decide), clampNat_eq_max_min (by decide)]
  · dsimp only [loadChannel, loadNat, counted]
    rw [hword (by decide), clampNat_eq_max_min (by decide)]
  · dsimp only [loadChannel, loadNat, counted]
    rw [hword (by decide), hzero]
  · dsimp only [loadChannel, loadNat, counted]
    rw [hbyte (by decide), hzero]
  · dsimp only [loadChannel, loadNat, counted]
    rw [hbyte (by decide), hzero]
  · dsimp only [loadChannel]
    rw [hbyte (j := 18) (by decide)]
    split <;> simp_all

/-- A channel entry once the Motor entries below it are known: it is Off when it is a second Motor (R82). -/
def ChannelEntry.afterMotors (e : ChannelEntry) (seen : Bool) : ChannelEntry :=
  if e.kind = .motor ∧ seen = true then { e with kind := .off } else e

theorem loadMotors_cons (seen : Bool) (e : ChannelEntry) (n : Nat) (t : List (Counted ChannelEntry)) :
    (loadMotors seen ((e, n) :: t)).map Prod.fst =
      e.afterMotors seen :: (loadMotors (seen || decide (e.kind = .motor)) t).map Prod.fst := by
  rw [loadMotors]
  unfold ChannelEntry.afterMotors
  by_cases he : e.kind = .motor
  · cases seen <;> simp [he]
  · simp [he]

/-- Only the lowest-numbered Motor entry keeps its kind (R82). -/
theorem loadMotors_getElem? (seen : Bool) (l : List (Counted ChannelEntry)) (n : Nat) :
    ((loadMotors seen l).map Prod.fst)[n]? = (l.map Prod.fst)[n]?.map fun e =>
      e.afterMotors (seen || ((l.map Prod.fst).take n).any fun m => decide (m.kind = .motor)) := by
  induction l generalizing seen n with
  | nil => rfl
  | cons x t ih =>
    rw [loadMotors_cons, List.map_cons]
    cases n with
    | zero => simp
    | succ n => rw [List.getElem?_cons_succ, ih, List.getElem?_cons_succ, List.take_succ_cons, List.any_cons, Bool.or_assoc]

/-! ## Senders (R49, R52, R158) -/

/-- A Resistive sender's entry names a publish slot. -/
def SenderEntry.names (e : SenderEntry) (slot : Nat) : Bool := decide (e.mode = .resistive) && decide (e.publish = slot)

/-- A sender entry once it is known whether slots A and B are taken below it (R158). -/
def SenderEntry.afterSlots (e : SenderEntry) (a b : Bool) : SenderEntry :=
  { e with publish := if (e.names 1 && !a || e.names 2 && !b) = true then e.publish else 0 }

theorem loadSlots_cons (a b : Bool) (e : SenderEntry) (n : Nat) (t : List (Counted SenderEntry)) :
    (loadSlots a b ((e, n) :: t)).map Prod.fst =
      e.afterSlots a b :: (loadSlots (a || e.names 1) (b || e.names 2) t).map Prod.fst := by
  obtain ⟨mode, target, publish, count, words⟩ := e
  rw [loadSlots]
  unfold SenderEntry.afterSlots SenderEntry.names
  by_cases hr : mode = .resistive
  · subst hr
    rcases publish with _ | _ | _ | publish
    · simp
    · cases a <;> simp
    · cases b <;> simp
    · simp
  · by_cases h0 : publish = 0
    · simp [h0, hr]
    · simp [h0, hr]

/-- A publish slot goes to the lowest-numbered Resistive sender that names it (R158). -/
theorem loadSlots_getElem? (a b : Bool) (l : List (Counted SenderEntry)) (n : Nat) :
    ((loadSlots a b l).map Prod.fst)[n]? = (l.map Prod.fst)[n]?.map fun e =>
      e.afterSlots (a || ((l.map Prod.fst).take n).any (·.names 1)) (b || ((l.map Prod.fst).take n).any (·.names 2)) := by
  induction l generalizing a b n with
  | nil => rfl
  | cons x t ih =>
    rw [loadSlots_cons, List.map_cons]
    cases n with
    | zero => simp
    | succ n =>
      rw [List.getElem?_cons_succ, ih, List.getElem?_cons_succ, List.take_succ_cons, List.any_cons, List.any_cons,
        Bool.or_assoc, Bool.or_assoc]

/-- The sixteen two-byte fields of a sender entry as the record holds them. -/
def senderWords (b : List Byte) (o : Nat) : List Nat := (List.range 16).map fun j => wordAt b (o + 4 + 2 * j)

theorem limitWords_map (limit f : Nat → Nat) (k n : Nat) : (limitWords limit k ((List.range' k n).map f)).1 =
    (List.range' k n).map fun j => min (f j) (limit j) := by
  induction n generalizing k with
  | zero => rfl
  | succ n ih => rw [List.range'_succ, List.map_cons, limitWords, ih, List.map_cons]

theorem limitWords_senderWords (limit : Nat → Nat) (b : List Byte) (o : Nat) :
    (limitWords limit 0 (senderWords b o)).1 = (List.range 16).map fun j => min (wordAt b (o + 4 + 2 * j)) (limit j) := by
  rw [senderWords, List.range_eq_range', limitWords_map]

theorem ascending_iff (l : List Nat) : ascending l = true ↔ ∀ j, (h : j + 1 < l.length) → l[j] < l[j + 1] := by
  rw [← List.isChain_iff_getElem]
  induction l with
  | nil => simp [ascending]
  | cons a t ih =>
    cases t with
    | nil => simp [ascending]
    | cons b t => simp [ascending, ih]

theorem descending_iff (l : List Nat) : descending l = true ↔ ∀ j, (h : j + 1 < l.length) → l[j + 1] < l[j] := by
  rw [← List.isChain_iff_getElem (R := fun a b => b < a)]
  induction l with
  | nil => simp [descending]
  | cons a t ih =>
    cases t with
    | nil => simp [descending]
    | cons b t => simp [descending, ih]

/-- When the R values of a table are strictly monotone along it (R158). -/
theorem monotone_wordPairs_iff {n : Nat} {l : List Nat} (h : 2 * n ≤ l.length) : monotone (wordPairs n l) = true ↔
    (∀ j, j + 1 < n → l.getD (2 * j) 0 < l.getD (2 * (j + 1)) 0) ∨
      (∀ j, j + 1 < n → l.getD (2 * (j + 1)) 0 < l.getD (2 * j) 0) := by
  rw [monotone, Bool.or_eq_true, ascending_iff, descending_iff]
  simp only [List.length_map, wordPairs_length h, List.getElem_map, wordPairs_getElem h]

section
variable (b : List Byte) (o : Nat)

theorem senderWords_piece : (List.range 16).map (fun j => wordAt (piece b o 36) (4 + 2 * j)) = senderWords b o := by
  refine List.map_congr_left fun j hj => ?_
  rw [wordAt_piece b o (by rw [List.mem_range] at hj; omega), Nat.add_assoc]

variable {b o}

theorem loadSender_resistive (h : byteAt b o = 1) {c : Nat} {w : List Nat} (hc : c = clampNat 2 8 (byteAt b (o + 3)))
    (hw : w = (limitWords (pointLimit c) 0 (senderWords b o)).1) : (loadSender (piece b o 36)).1 =
      ⟨if monotone (wordPairs c w) = true then .resistive else .off, byteAt b (o + 1), byteAt b (o + 2), c, w⟩ := by
  have h0 : byteAt (piece b o 36) 0 = 1 := (byteAt_piece b o (by decide)).trans h
  unfold loadSender
  rw [h0, senderWords_piece, byteAt_piece b o (j := 1) (by decide), byteAt_piece b o (j := 2) (by decide),
    byteAt_piece b o (j := 3) (by decide)]
  by_cases hm : monotone (wordPairs c w) = true
  · rw [if_pos hm]; subst hc hw
    exact congrArg Prod.fst (if_pos hm)
  · rw [if_neg hm]; subst hc hw
    exact congrArg Prod.fst (if_neg hm)

theorem loadSender_switch (h : byteAt b o = 2) : (loadSender (piece b o 36)).1 =
    ⟨if byteAt b (o + 1) ≤ 15 then .switch else .off, byteAt b (o + 1), byteAt b (o + 2), byteAt b (o + 3),
      senderWords b o⟩ := by
  have h0 : byteAt (piece b o 36) 0 = 2 := (byteAt_piece b o (by decide)).trans h
  unfold loadSender
  rw [h0, senderWords_piece, byteAt_piece b o (j := 1) (by decide), byteAt_piece b o (j := 2) (by decide),
    byteAt_piece b o (j := 3) (by decide)]
  by_cases ht : byteAt b (o + 1) ≤ 15
  · rw [if_pos ht]
    exact congrArg Prod.fst (if_pos ht)
  · rw [if_neg ht]
    exact congrArg Prod.fst (if_neg ht)

theorem loadSender_ladder (h : byteAt b o = 3) {c : Nat} {w : List Nat} (hc : c = clampNat 1 4 (byteAt b (o + 3)))
    (hw : w = (limitWords (ladderLimit c) 0 (senderWords b o)).1) : (loadSender (piece b o 36)).1 =
      ⟨if byteAt b (o + 1) = 0 ∨ (byteAt b (o + 1) = 1 ∧ w.getD 8 0 ≠ w.getD 9 0) then .ladder else .off,
        byteAt b (o + 1), byteAt b (o + 2), c, w⟩ := by
  have h0 : byteAt (piece b o 36) 0 = 3 := (byteAt_piece b o (by decide)).trans h
  unfold loadSender
  rw [h0, senderWords_piece, byteAt_piece b o (j := 1) (by decide), byteAt_piece b o (j := 2) (by decide),
    byteAt_piece b o (j := 3) (by decide)]
  by_cases ht : 1 < byteAt b (o + 1) ∨ (byteAt b (o + 1) = 1 ∧ w.getD 8 0 = w.getD 9 0)
  · rw [if_neg (by omega)]; subst hc hw
    exact congrArg Prod.fst (if_pos ht)
  · rw [if_pos (by omega)]; subst hc hw
    exact congrArg Prod.fst (if_neg ht)

theorem loadSender_off (h1 : byteAt b o ≠ 1) (h2 : byteAt b o ≠ 2) (h3 : byteAt b o ≠ 3) :
    (loadSender (piece b o 36)).1 =
      ⟨.off, byteAt b (o + 1), byteAt b (o + 2), byteAt b (o + 3), senderWords b o⟩ := by
  have h0 : byteAt (piece b o 36) 0 = byteAt b o := byteAt_piece b o (by decide)
  unfold loadSender
  rw [h0, senderWords_piece, byteAt_piece b o (j := 1) (by decide), byteAt_piece b o (j := 2) (by decide),
    byteAt_piece b o (j := 3) (by decide)]
  generalize byteAt b o = mode at h1 h2 h3
  rcases mode with _ | _ | _ | _ | mode
  · rfl
  · exact absurd rfl h1
  · exact absurd rfl h2
  · exact absurd rfl h3
  · rfl

end

theorem ite_mode_eq_iff {p : Prop} [Decidable p] {x y z : SenderMode} (h : y ≠ z) :
    (if p then x else y) = z ↔ p ∧ x = z := by
  split
  · rename_i hp; exact (and_iff_right hp).symm
  · rename_i hp; exact ⟨fun e => absurd e h, fun e => absurd e.1 hp⟩

/-- A loaded sender entry, whatever its publish slot (R49, R52, R158). -/
theorem loadSender_loadedFrom (b : List Byte) (o publish : Nat) :
    SenderEntry.LoadedFrom b o { (loadSender (piece b o 36)).1 with publish := publish } := by
  have hword (j : Nat) : min (wordAt b (o + 4 + 2 * j)) 65535 = wordAt b (o + 4 + 2 * j) :=
    Nat.min_eq_left (Nat.le_of_lt_succ (wordAt_lt b _))
  by_cases h1 : byteAt b o = 1
  · obtain ⟨c, hc⟩ : ∃ c, c = clampNat 2 8 (byteAt b (o + 3)) := ⟨_, rfl⟩
    have hrange : c = max 2 (min 8 (byteAt b (o + 3))) := hc.trans (clampNat_eq_max_min (by decide) _)
    rw [loadSender_resistive h1 hc rfl, limitWords_senderWords]
    refine ⟨rfl, ?_, List.map_congr_left fun j _ => ?_, ?_, ?_, ?_⟩
    · rw [if_pos h1]; exact hrange
    · by_cases hj : j < 2 * c
      · rw [pointLimit, if_pos hj]
        exact (if_pos ⟨h1, hj⟩).symm
      · rw [pointLimit, if_neg hj, hword]
        exact ((if_neg fun k => hj k.2).trans (if_neg (by omega))).symm
    · dsimp only
      rw [ite_mode_eq_iff (by decide), and_iff_left rfl, monotone_wordPairs_iff (by simp; omega), and_iff_right h1]
    · dsimp only
      rw [ite_mode_eq_iff (by decide), h1]; simp
    · dsimp only
      rw [ite_mode_eq_iff (by decide), h1]; simp
  by_cases h2 : byteAt b o = 2
  · rw [loadSender_switch h2]
    refine ⟨rfl, ?_, List.map_congr_left fun j _ => ?_, ?_, ?_, ?_⟩
    · exact ((if_neg h1).trans (if_neg (by omega))).symm
    · exact ((if_neg (by omega)).trans (if_neg (by omega))).symm
    · dsimp only
      rw [ite_mode_eq_iff (by decide), h2]; simp
    · dsimp only
      rw [ite_mode_eq_iff (by decide), and_iff_left rfl, and_iff_right h2]
    · dsimp only
      rw [ite_mode_eq_iff (by decide), h2]; simp
  by_cases h3 : byteAt b o = 3
  · obtain ⟨c, hc⟩ : ∃ c, c = clampNat 1 4 (byteAt b (o + 3)) := ⟨_, rfl⟩
    have hrange : c = max 1 (min 4 (byteAt b (o + 3))) := hc.trans (clampNat_eq_max_min (by decide) _)
    rw [loadSender_ladder h3 hc rfl, limitWords_senderWords]
    refine ⟨rfl, ?_, List.map_congr_left fun j _ => ?_, ?_, ?_, ?_⟩
    · rw [if_neg h1, if_pos h3]; exact hrange
    · refine Eq.trans ?_ (if_neg (by omega)).symm
      by_cases hj : j < 2 * c ∨ j = 8 ∨ j = 9
      · rw [ladderLimit, if_pos hj]
        exact (if_pos ⟨h3, hj⟩).symm
      · rw [ladderLimit, if_neg hj, hword]
        exact (if_neg fun k => hj k.2).symm
    · dsimp only
      rw [ite_mode_eq_iff (by decide), h3]; simp
    · dsimp only
      rw [ite_mode_eq_iff (by decide), h3]; simp
    · dsimp only
      rw [ite_mode_eq_iff (by decide), and_iff_left rfl, and_iff_right h3]
  · rw [loadSender_off h1 h2 h3]
    constructor <;> simp [h1, h2, h3, senderWords]

theorem loadSender_publish (b : List Byte) (o : Nat) : (loadSender (piece b o 36)).1.publish = byteAt b (o + 2) := by
  by_cases h1 : byteAt b o = 1
  · rw [loadSender_resistive h1 rfl rfl]
  by_cases h2 : byteAt b o = 2
  · rw [loadSender_switch h2]
  by_cases h3 : byteAt b o = 3
  · rw [loadSender_ladder h3 rfl rfl]
  · rw [loadSender_off h1 h2 h3]

/-! ## The entries of a loaded record (R82, R158) -/

/-- Sender `n`'s entry as its own bytes give it. -/
def senderRead (b : List Byte) (n : Nat) : SenderEntry := (loadSender (piece b (62 + 36 * n) 36)).1

/-- Channel `i`'s entry as its own bytes give it. -/
def channelRead (b : List Byte) (i : Nat) : ChannelEntry := (loadChannel (piece b (206 + 19 * i) 19)).1

section
variable (b : List Byte)

theorem map_load_pieces {α : Type} (load : List Byte → Counted α) (size n o : Nat) :
    ((pieces size n (b.drop o)).map load).map Prod.fst =
      (List.range n).map fun i => (load (piece b (o + size * i) size)).1 := by
  rw [pieces_eq, List.map_map, List.map_map]; rfl

theorem loadRecord_switches (i : Fin 8) :
    (loadRecord b).switches[i] = (loadSwitch (piece b (30 + 4 * i.val) 4)).1 :=
  (vector8_get _ _ i).trans (getD_load_pieces loadSwitch 4 8 b 30 _ i.isLt)

theorem loadRecord_gauges (g : Fin 4) :
    (loadRecord b).gauges[g] = (loadGauge (piece b (358 + 14 * g.val) 14)).1 :=
  (vector4_get _ _ g).trans (getD_load_pieces loadGauge 14 4 b 358 _ g.isLt)

theorem loadRecord_senders (n : Fin 4) : (loadRecord b).senders[n] = (senderRead b n.val).afterSlots
    ((List.range n.val).any fun m => (senderRead b m).names 1) ((List.range n.val).any fun m => (senderRead b m).names 2) := by
  refine (vector4_get _ _ n).trans ?_
  rw [List.getD_eq_getElem?_getD, loadSlots_getElem?, map_load_pieces, List.getElem?_map, List.getElem?_range n.isLt,
    ← List.map_take, List.take_range, Nat.min_eq_left n.isLt.le, List.any_map, List.any_map]
  rfl

theorem loadRecord_channels (i : Fin 8) : (loadRecord b).channels[i] = (channelRead b i.val).afterMotors
    ((List.range i.val).any fun m => decide ((channelRead b m).kind = .motor)) := by
  refine (vector8_get _ _ i).trans ?_
  rw [List.getD_eq_getElem?_getD, loadMotors_getElem?, map_load_pieces, List.getElem?_map, List.getElem?_range i.isLt,
    ← List.map_take, List.take_range, Nat.min_eq_left i.isLt.le, List.any_map]
  rfl

theorem loadRecord_sender_loadedFrom (n : Fin 4) : (loadRecord b).senders[n].LoadedFrom b (62 + 36 * n.val) := by
  rw [loadRecord_senders]
  exact loadSender_loadedFrom b _ _

theorem senderRead_names_iff (n slot : Nat) :
    (senderRead b n).names slot = true ↔ (senderRead b n).mode = .resistive ∧ byteAt b (64 + 36 * n) = slot := by
  have hp : (senderRead b n).publish = byteAt b (64 + 36 * n) :=
    (loadSender_publish b _).trans (congrArg (byteAt b) (by omega))
  rw [SenderEntry.names, Bool.and_eq_true, decide_eq_true_iff, decide_eq_true_iff, hp]

theorem any_range_eq_false_iff (n : Nat) (p : Nat → Bool) : (List.range n).any p = false ↔ ∀ m, m < n → ¬p m = true := by
  simp

/-- A publish slot is the lowest-numbered Resistive sender's that names it (R158). -/
theorem loadRecord_publish (n : Fin 4) : (loadRecord b).senders[n].publish =
    if (loadRecord b).senders[n].mode = .resistive ∧
      (byteAt b (64 + 36 * n.val) = 1 ∨ byteAt b (64 + 36 * n.val) = 2) ∧
      (∀ m : Fin 4, m < n → ¬((loadRecord b).senders[m].mode = .resistive ∧
        byteAt b (64 + 36 * m.val) = byteAt b (64 + 36 * n.val)))
    then byteAt b (64 + 36 * n.val) else 0 := by
  have hmode (m : Fin 4) : (loadRecord b).senders[m].mode = (senderRead b m.val).mode := by
    rw [loadRecord_senders]; rfl
  have hpublish : (senderRead b n.val).publish = byteAt b (64 + 36 * n.val) :=
    (loadSender_publish b _).trans (congrArg (byteAt b) (by omega))
  have hfree (slot : Nat) : (!(List.range n.val).any fun m => (senderRead b m).names slot) = true ↔
      ∀ m : Fin 4, m < n → ¬((loadRecord b).senders[m].mode = .resistive ∧ byteAt b (64 + 36 * m.val) = slot) := by
    rw [Bool.not_eq_true', any_range_eq_false_iff]
    constructor
    · intro h m hm
      rw [hmode, ← senderRead_names_iff]
      exact h m.val hm
    · intro h m hm
      have := h ⟨m, by omega⟩ hm
      rwa [hmode, ← senderRead_names_iff] at this
  have hsenders := congrArg SenderEntry.publish (loadRecord_senders b n)
  rw [hsenders]
  unfold SenderEntry.afterSlots
  dsimp only
  rw [hpublish]
  refine if_congr ?_ rfl rfl
  rw [Bool.or_eq_true, Bool.and_eq_true, Bool.and_eq_true, hfree, hfree, senderRead_names_iff, senderRead_names_iff, ← hmode]
  constructor
  · rintro (⟨⟨hr, hs⟩, hm⟩ | ⟨⟨hr, hs⟩, hm⟩)
    · exact ⟨hr, .inl hs, hs ▸ hm⟩
    · exact ⟨hr, .inr hs, hs ▸ hm⟩
  · rintro ⟨hr, hs | hs, hm⟩
    · exact .inl ⟨⟨hr, hs⟩, hs ▸ hm⟩
    · exact .inr ⟨⟨hr, hs⟩, hs ▸ hm⟩

theorem channelRead_motor_iff (i : Nat) :
    (channelRead b i).kind = .motor ↔ byteAt b (206 + 19 * i) = 5 ∧ byteAt b (207 + 19 * i) ≤ 18 := by
  rw [channelRead, loadChannel_motor_iff, (by omega : 206 + 19 * i + 1 = 207 + 19 * i)]

theorem ChannelEntry.afterMotors_kind_iff (e : ChannelEntry) (seen : Bool) :
    (e.afterMotors seen).kind = .motor ↔ e.kind = .motor ∧ seen = false := by
  unfold ChannelEntry.afterMotors
  by_cases he : e.kind = .motor
  · cases seen <;> simp [he]
  · simp [he]

/-- The kind Motor is the lowest-numbered entry's (R82). -/
theorem loadRecord_motor (i : Fin 8) : (loadRecord b).channels[i].kind = .motor ↔
    byteAt b (206 + 19 * i.val) = 5 ∧ byteAt b (207 + 19 * i.val) ≤ 18 ∧
      ∀ j : Fin 8, j < i → ¬(byteAt b (206 + 19 * j.val) = 5 ∧ byteAt b (207 + 19 * j.val) ≤ 18) := by
  rw [loadRecord_channels, ChannelEntry.afterMotors_kind_iff, channelRead_motor_iff, any_range_eq_false_iff, and_assoc]
  refine and_congr_right fun _ => and_congr_right fun _ => ?_
  simp only [decide_eq_true_iff, channelRead_motor_iff]
  exact ⟨fun h j hj => h j.val hj, fun h j hj => h ⟨j, by omega⟩ hj⟩

theorem loadRecord_channel_loadedFrom (i : Fin 8) : (loadRecord b).channels[i].LoadedFrom b (206 + 19 * i.val) := by
  rw [loadRecord_channels]
  unfold ChannelEntry.afterMotors
  split
  · rename_i h
    exact loadChannel_loadedFrom b _ (.inr ⟨h.1, rfl⟩)
  · exact loadChannel_loadedFrom b _ (.inl rfl)

/-! ## The record (R79, R120, R127, R128, R130, R132, R144, R178, R191) -/

theorem loadNi_spec (raw : Nat) : loadNi raw ∈ [1, 2, 4, 8] ∧ loadNi raw ≤ max 1 raw ∧
    ∀ m ∈ [1, 2, 4, 8], m ≤ max 1 raw → m ≤ loadNi raw := by
  unfold loadNi
  split
  · exact ⟨by decide, by omega, by intro m hm; omega⟩
  · split
    · exact ⟨by decide, by omega, by intro m hm hle; simp at hm; omega⟩
    · split
      · exact ⟨by decide, by omega, by intro m hm hle; simp at hm; omega⟩
      · exact ⟨by decide, by omega, by intro m hm hle; simp at hm; omega⟩

theorem loadRecord_loadedFrom : (loadRecord b).LoadedFrom b := by
  have hclamp (lo hi n : Nat) (h : lo ≤ hi) : clampNat lo hi n = max lo (min hi n) := clampNat_eq_max_min h n
  have hzero (hi n : Nat) : clampNat 0 hi n = min hi n := (hclamp 0 hi n (Nat.zero_le _)).trans (Nat.zero_max _)
  have hbyte (n : Nat) : min 255 (byteAt b n) = byteAt b n := Nat.min_eq_right (Nat.le_of_lt_succ (byteAt_lt b n))
  have hd1 : (loadRecord b).d1 ≤ 600 := (clampNat_within (by decide) _).2
  have hv1 : (loadRecord b).v1 ≤ 1800 := (clampNat_within (by decide) _).2
  have hv2 : (loadRecord b).v2 ≤ 1800 := (clampNat_within hv1 _).2
  exact {
    flags := ⟨rfl, rfl⟩
    ni := loadNi_spec _
    flashPeriod := congrArg (· / 10 * 10) (hclamp 600 900 _ (by decide))
    quiet := ⟨(hclamp 5 255 _ (by decide)).trans (congrArg (max 5) (hbyte 4)), hclamp 1 50 _ (by decide)⟩
    thresholds := ⟨hzero 2000 _, hzero _ _, hzero _ _, hzero 200 _⟩
    currents := ⟨hclamp 10 600 _ (by decide), hclamp _ 600 _ hd1, hclamp 10 4095 _ (by decide)⟩
    fan := ⟨hclamp 100 1800 _ (by decide), hclamp _ 1800 _ hv1, hclamp _ 1800 _ hv2, hclamp 10 600 _ (by decide),
      hclamp 10 400 _ (by decide)⟩
    switches := fun i => loadRecord_switches b i ▸ loadSwitch_loadedFrom b _
    senders := loadRecord_sender_loadedFrom b
    publish := loadRecord_publish b
    channels := loadRecord_channel_loadedFrom b
    motor := loadRecord_motor b
    gauges := fun g => loadRecord_gauges b g ▸ loadGauge_loadedFrom b _
    source := ⟨rfl, rfl, Nat.min_le_left _ _⟩ }

end

end Sys2Proof.Machine
end

section
/-! PROOFS. The configuration in force after a load, and the record that the staging image takes from it (R188, R191). -/

namespace Sys2Proof.Machine

/-! ## Which record is accepted (R191) -/

section
variable (m : Memory)

theorem Memory.byteAt_bytes {n a : Nat} (h : a < n) : byteAt (m.bytes n) a = (m.read a).toNat := by
  simp [byteAt, Memory.bytes, h]

theorem Memory.take_bytes {k n : Nat} (h : k ≤ n) : (m.bytes n).take k = m.bytes k := by
  rw [Memory.bytes, ← List.map_take, List.take_range, Nat.min_eq_left h]; rfl

theorem Memory.accepted_iff : recordAccepted (m.bytes 512) = true ↔ (∃ a, a < 512 ∧ m.read a ≠ 0xFF) ∧
    (m.read 510).toNat * 256 + (m.read 511).toNat = (crc16 (m.bytes 510)).toNat := by
  have hblank : (!(m.bytes 512).all fun x => decide (x = 0xFF)) = true ↔ ∃ a, a < 512 ∧ m.read a ≠ 0xFF := by
    simp [Memory.bytes]
  have hword : wordAt (m.bytes 512) 510 = (m.read 510).toNat * 256 + (m.read 511).toNat := by
    rw [wordAt, m.byteAt_bytes (by decide), m.byteAt_bytes (by decide)]
  have hlt := wordAt_lt (m.bytes 512) 510
  rw [recordAccepted, Bool.and_eq_true, hblank, m.take_bytes (by decide), decide_eq_true_iff, ← hword,
    ← BitVec.toNat_inj, BitVec.toNat_ofNat, Nat.mod_eq_of_lt hlt, eq_comm (a := (crc16 _).toNat)]

end

theorem WorkingConfig.default_spec (sixVolt : Bool) : (WorkingConfig.default sixVolt).Default sixVolt where
  flags := ⟨rfl, rfl⟩
  numbers := ⟨rfl, rfl, rfl, rfl, rfl, rfl, rfl, rfl, rfl⟩
  volts12 := by
    rintro rfl
    exact ⟨rfl, rfl, rfl, rfl, rfl, rfl, rfl, by decide⟩
  volts6 := by
    rintro rfl
    exact ⟨rfl, rfl, rfl, rfl, rfl, rfl, rfl, by decide⟩
  switches i := Vector.getElem_replicate i.isLt
  senders n := Vector.getElem_replicate n.isLt
  channels i := Vector.getElem_replicate i.isLt
  gauges i := by
    have h : (WorkingConfig.default sixVolt).gauges[i] = GaugeEntry.default sixVolt := Vector.getElem_replicate i.isLt
    rw [h]
    exact ⟨rfl, rfl, rfl, rfl, rfl, rfl, rfl⟩
  source := ⟨rfl, rfl, rfl⟩

theorem loadedConfig_of_accepted {m : Memory} (h : recordAccepted (m.bytes 512) = true) (sixVolt : Bool) :
    loadedConfig (some m) sixVolt = loadRecord (m.bytes 512) := by
  rw [loadedConfig, if_pos h]

theorem loadedConfig_of_refused {m : Memory} (h : ¬recordAccepted (m.bytes 512) = true) (sixVolt : Bool) :
    loadedConfig (some m) sixVolt = WorkingConfig.default sixVolt := by
  rw [loadedConfig, if_neg h]

/-- A load gives the default configuration or that of an accepted record (R191). -/
theorem loadedConfig_cases (store : Option Memory) (sixVolt : Bool) :
    loadedConfig store sixVolt = WorkingConfig.default sixVolt ∨ ∃ b, loadedConfig store sixVolt = loadRecord b := by
  unfold loadedConfig
  split
  · exact .inl rfl
  · split
    · exact .inr ⟨_, rfl⟩
    · exact .inl rfl

/-! ## What the staging image can hold (R188) -/

/-- The fields of a Switch Map entry in force are ones that its four bytes load again. -/
structure SwitchEntry.Storable (e : SwitchEntry) : Prop where
  mode    : e.mode < 256
  target  : e.target < 256
  hold    : e.hold ≤ 60
  enabled : e.enabled = true → e.mode ≤ 2 ∧ e.target ≤ 15

/-- The fields of a sender entry in force are ones that its thirty-six bytes load again, but for the publish slot. -/
structure SenderEntry.Storable (e : SenderEntry) : Prop where
  target    : e.target < 256
  publish   : e.publish < 256
  count     : e.count < 256
  length    : e.words.length = 16
  words     : ∀ w ∈ e.words, w < 65536
  switch    : e.mode = .switch → e.target ≤ 15
  resistive : e.mode = .resistive → 2 ≤ e.count ∧ e.count ≤ 8 ∧ monotone e.points = true ∧
    ∀ k, k < 16 → e.words.getD k 0 ≤ pointLimit e.count k
  ladder    : e.mode = .ladder → 1 ≤ e.count ∧ e.count ≤ 4 ∧ e.target ≤ 1 ∧ (e.target = 1 → e.rzero ≠ e.rfull) ∧
    ∀ k, k < 16 → e.words.getD k 0 ≤ ladderLimit e.count k

/-- The fields of a Channel Map entry in force are ones that its nineteen bytes load again, but for the second Motor. -/
structure ChannelEntry.Storable (e : ChannelEntry) : Prop where
  function   : e.function < 256
  named      : e.kind ≠ .off → e.function ≤ 18
  cls        : e.cls ≤ 3
  unclassed  : e.kind = .flashLamp ∨ e.kind = .stopTurn → e.cls = 0
  level      : 1 ≤ e.level ∧ e.level ≤ 1000
  tail       : e.tail ≤ 1000
  hardLimit  : 10 ≤ e.hardLimit ∧ e.hardLimit ≤ 400
  overLimit  : 1 ≤ e.overLimit ∧ e.overLimit ≤ 400
  overTime   : 100 ≤ e.overTime ∧ e.overTime ≤ 5000
  openLimit  : e.openLimit ≤ 400
  inrush     : e.inrush ≤ 250
  retryLimit : e.retryLimit ≤ 7

/-- The fields of a Gauge Map entry in force are ones that its fourteen bytes load again. -/
structure GaugeEntry.Storable (e : GaugeEntry) : Prop where
  sourceType : e.sourceType < 256
  number     : e.number < 256
  slot       : e.slot < 256
  dfs        : 1 ≤ e.dfs ∧ e.dfs ≤ 1000
  k          : 1 ≤ e.k ∧ e.k ≤ 256
  fs         : 50 ≤ e.fs ∧ e.fs ≤ 600
  span       : e.vlo < e.vhi ∧ e.vhi ≤ 2000
  named      : e.kind ≠ .off → badSource e.sourceType e.number e.slot = 0

/-- A configuration in force is one that its 512 bytes load again. -/
structure WorkingConfig.Storable (c : WorkingConfig) : Prop where
  ni          : c.ni ∈ [1, 2, 4, 8]
  flashPeriod : 600 ≤ c.flashPeriod ∧ c.flashPeriod ≤ 900 ∧ c.flashPeriod % 10 = 0
  quiet       : 5 ≤ c.quiet ∧ c.quiet ≤ 255
  allowance   : 1 ≤ c.allowance ∧ c.allowance ≤ 50
  thresholds  : c.t1 ≤ 2000 ∧ c.t2 ≤ c.t1 ∧ c.t3 ≤ c.t2 ∧ c.hyst ≤ 200
  currents    : (10 ≤ c.d1 ∧ c.d1 ≤ 600) ∧ (c.d1 ≤ c.d2 ∧ c.d2 ≤ 600) ∧ (10 ≤ c.capacity ∧ c.capacity ≤ 4095)
  voltages    : (100 ≤ c.v1 ∧ c.v1 ≤ 1800) ∧ (c.v1 ≤ c.v2 ∧ c.v2 ≤ 1800) ∧ (c.v2 ≤ c.v3 ∧ c.v3 ≤ 1800)
  fan         : (10 ≤ c.rampRate ∧ c.rampRate ≤ 600) ∧ (10 ≤ c.stallLimit ∧ c.stallLimit ≤ 400)
  switches    : ∀ i : Fin 8, c.switches[i].Storable
  senders     : ∀ n : Fin 4, c.senders[n].Storable
  publish     : ∀ n : Fin 4, c.senders[n].publish ≠ 0 → c.senders[n].mode = .resistive ∧
    (c.senders[n].publish = 1 ∨ c.senders[n].publish = 2) ∧
    ∀ m : Fin 4, m < n → ¬(c.senders[m].mode = .resistive ∧ c.senders[m].publish = c.senders[n].publish)
  channels    : ∀ i : Fin 8, c.channels[i].Storable
  motor       : ∀ i j : Fin 8, j < i → c.channels[i].kind = .motor → c.channels[j].kind ≠ .motor
  gauges      : ∀ g : Fin 4, c.gauges[g].Storable

theorem WorkingConfig.default_storable (sixVolt : Bool) : (WorkingConfig.default sixVolt).Storable := by
  have hswitch (i : Fin 8) : (WorkingConfig.default sixVolt).switches[i] = SwitchEntry.default :=
    Vector.getElem_replicate i.isLt
  have hsender (n : Fin 4) : (WorkingConfig.default sixVolt).senders[n] = SenderEntry.default :=
    Vector.getElem_replicate n.isLt
  have hchannel (i : Fin 8) : (WorkingConfig.default sixVolt).channels[i] = ChannelEntry.default :=
    Vector.getElem_replicate i.isLt
  have hgauge (g : Fin 4) : (WorkingConfig.default sixVolt).gauges[g] = GaugeEntry.default sixVolt :=
    Vector.getElem_replicate g.isLt
  constructor
  case switches => intro i; rw [hswitch]; constructor <;> decide
  case senders =>
    intro n; rw [hsender]
    refine ⟨by decide, by decide, by decide, by decide, by decide, nofun, nofun, nofun⟩
  case publish => intro n h; rw [hsender] at h; exact absurd rfl h
  case channels => intro i; rw [hchannel]; constructor <;> decide
  case motor => intro i j _ h; rw [hchannel] at h; cases h
  case gauges => intro g; rw [hgauge]; cases sixVolt <;> constructor <;> decide
  all_goals cases sixVolt <;> decide

section
variable {b : List Byte}

theorem SwitchEntry.LoadedFrom.storable {o : Nat} {e : SwitchEntry} (h : e.LoadedFrom b o) : e.Storable where
  mode := h.codes.1 ▸ byteAt_lt b _
  target := h.codes.2 ▸ byteAt_lt b _
  hold := h.hold ▸ Nat.min_le_left _ _
  enabled he := by
    rw [h.codes.1, h.codes.2]
    exact (h.enabled.mp he).2

theorem GaugeEntry.LoadedFrom.storable {o : Nat} {e : GaugeEntry} (h : e.LoadedFrom b o) : e.Storable where
  sourceType := h.source.1 ▸ byteAt_lt b _
  number := h.source.2.1 ▸ byteAt_lt b _
  slot := h.source.2.2 ▸ byteAt_lt b _
  dfs := by rw [h.scale.1]; omega
  k := by rw [h.scale.2.1]; omega
  fs := by rw [h.scale.2.2]; omega
  span := by
    obtain ⟨hlt, hle, htop⟩ := h.span _ _ rfl rfl
    rcases Nat.lt_or_ge (min 2000 (wordAt b (o + 10))) (min 2000 (wordAt b (o + 12))) with hc | hc
    · obtain ⟨hlo, hhi⟩ := hlt hc; omega
    · rcases Nat.lt_or_ge (min 2000 (wordAt b (o + 10))) 2000 with hd | hd
      · obtain ⟨hlo, hhi⟩ := hle hc hd; omega
      · obtain ⟨hlo, hhi⟩ := htop hc (by omega); omega
  named hk := by
    rw [h.source.1, h.source.2.1, h.source.2.2, badSource_eq_zero_iff]
    by_contra hbad
    exact hk (h.kind.trans (if_pos (by tauto)))

theorem ChannelEntry.LoadedFrom.storable {o : Nat} {e : ChannelEntry} (h : e.LoadedFrom b o) : e.Storable where
  function := h.function ▸ byteAt_lt b _
  named hk := by
    obtain ⟨hlamp, hflash, hstop, hplain, hmotor⟩ := h.kind
    rw [h.function]
    cases hkind : e.kind with
    | off => exact absurd hkind hk
    | lamp => exact (hlamp.mp hkind).2
    | flashLamp => exact (hflash.mp hkind).2
    | stopTurn => exact (hstop.mp hkind).2
    | plain => exact (hplain.mp hkind).2
    | motor => exact (hmotor hkind).2
  cls := by rw [h.cls]; split <;> omega
  unclassed hk := by
    obtain ⟨-, hflash, hstop, -, -⟩ := h.kind
    exact h.cls.trans (if_pos (hk.imp (fun k => (hflash.mp k).1) fun k => (hstop.mp k).1))
  level := by rw [h.level.1]; omega
  tail := by rw [h.level.2]; omega
  hardLimit := by rw [h.limits.1]; omega
  overLimit := by rw [h.limits.2.1]; omega
  overTime := by rw [h.limits.2.2.1]; omega
  openLimit := by rw [h.limits.2.2.2]; omega
  inrush := by rw [h.inrush]; omega
  retryLimit := by rw [h.retryLimit]; omega

theorem SenderEntry.LoadedFrom.length {o : Nat} {e : SenderEntry} (h : e.LoadedFrom b o) : e.words.length = 16 := by
  rw [h.words]; simp

theorem SenderEntry.LoadedFrom.word {o : Nat} {e : SenderEntry} (h : e.LoadedFrom b o) {k : Nat} (hk : k < 16) :
    e.words.getD k 0 = if byteAt b o = 1 ∧ k < 2 * e.count then
        min (wordAt b (o + 4 + 2 * k)) (if k % 2 = 0 then 1023 else 1000)
      else if byteAt b o = 3 ∧ (k < 2 * e.count ∨ k = 8 ∨ k = 9) then min (wordAt b (o + 4 + 2 * k)) 1023
      else wordAt b (o + 4 + 2 * k) := by
  have hwords := congrArg (fun l : List Nat => l.getD k 0) h.words
  refine hwords.trans ?_
  simp [List.getD_eq_getElem?_getD, hk]

theorem SenderEntry.LoadedFrom.word_le {o : Nat} {e : SenderEntry} (h : e.LoadedFrom b o) {k : Nat} (hk : k < 16) :
    e.words.getD k 0 ≤ wordAt b (o + 4 + 2 * k) := by
  rw [h.word hk]
  split
  · exact Nat.min_le_left _ _
  · split
    · exact Nat.min_le_left _ _
    · exact le_rfl

theorem SenderEntry.LoadedFrom.storable {o : Nat} {e : SenderEntry} (h : e.LoadedFrom b o) (hp : e.publish < 256) :
    e.Storable where
  target := h.target ▸ byteAt_lt b _
  publish := hp
  count := by
    have hb := byteAt_lt b (o + 3)
    rw [h.count]
    split
    · omega
    · split <;> omega
  length := h.length
  words w hw := by
    obtain ⟨k, hk, rfl⟩ := List.getElem_of_mem hw
    have hle := h.word_le (h.length ▸ hk)
    rw [List.getD_eq_getElem _ _ hk] at hle
    exact hle.trans_lt (wordAt_lt b _)
  switch hm := (h.switch.mp hm).2
  resistive hm := by
    obtain ⟨hb, hmono⟩ := h.resistive.mp hm
    have hc : e.count = max 2 (min 8 (byteAt b (o + 3))) := h.count.trans (if_pos hb)
    refine ⟨by omega, by omega, (monotone_wordPairs_iff (by rw [h.length]; omega)).mpr hmono, fun k hk => ?_⟩
    have hw := wordAt_lt b (o + 4 + 2 * k)
    have hle := h.word_le hk
    unfold pointLimit
    by_cases hj : k < 2 * e.count
    · rw [if_pos hj, h.word hk, if_pos ⟨hb, hj⟩]
      exact Nat.min_le_right _ _
    · rw [if_neg hj]; omega
  ladder hm := by
    obtain ⟨hb, htarget⟩ := h.ladder.mp hm
    have hc : e.count = max 1 (min 4 (byteAt b (o + 3))) := h.count.trans ((if_neg (by omega)).trans (if_pos hb))
    refine ⟨by omega, by omega, by omega, fun ht => ?_, fun k hk => ?_⟩
    · rcases htarget with h0 | ⟨-, hspan⟩
      · omega
      · exact hspan
    · have hw := wordAt_lt b (o + 4 + 2 * k)
      have hle := h.word_le hk
      unfold ladderLimit
      by_cases hj : k < 2 * e.count ∨ k = 8 ∨ k = 9
      · rw [if_pos hj, h.word hk, if_neg (by omega), if_pos ⟨hb, hj⟩]
        exact Nat.min_le_right _ _
      · rw [if_neg hj]; omega

theorem WorkingConfig.LoadedFrom.storable {c : WorkingConfig} (h : c.LoadedFrom b) : c.Storable where
  ni := h.ni.1
  flashPeriod := by rw [h.flashPeriod]; omega
  quiet := by
    have hb := byteAt_lt b 4
    rw [h.quiet.1]; omega
  allowance := by rw [h.quiet.2]; omega
  thresholds := by
    obtain ⟨h1, h2, h3, h4⟩ := h.thresholds
    omega
  currents := by
    obtain ⟨h1, h2, h3⟩ := h.currents
    omega
  voltages := by
    obtain ⟨h1, h2, h3, -, -⟩ := h.fan
    omega
  fan := by
    obtain ⟨-, -, -, h4, h5⟩ := h.fan
    omega
  switches i := (h.switches i).storable
  senders n := (h.senders n).storable (by
    have hb := byteAt_lt b (64 + 36 * n.val)
    rw [h.publish n]
    split <;> omega)
  publish n hn := by
    have hraw := h.publish n
    by_cases hc : c.senders[n].mode = .resistive ∧
        (byteAt b (64 + 36 * n.val) = 1 ∨ byteAt b (64 + 36 * n.val) = 2) ∧
        (∀ m : Fin 4, m < n → ¬(c.senders[m].mode = .resistive ∧
          byteAt b (64 + 36 * m.val) = byteAt b (64 + 36 * n.val)))
    · rw [if_pos hc] at hraw
      obtain ⟨hr, hslot, hlower⟩ := hc
      refine ⟨hr, hraw ▸ hslot, fun m hm hsame => hlower m hm ⟨hsame.1, ?_⟩⟩
      have hm' := h.publish m
      rw [hsame.2, hraw] at hm'
      split at hm'
      · exact hm'.symm
      · omega
    · exact absurd (hraw.trans (if_neg hc)) hn
  channels i := (h.channels i).storable
  motor i j hj hi hjm := by
    obtain ⟨hcode, hname, -⟩ := (h.motor j).mp hjm
    exact ((h.motor i).mp hi).2.2 j hj ⟨hcode, hname⟩
  gauges g := (h.gauges g).storable

end

theorem loadedConfig_storable (store : Option Memory) (sixVolt : Bool) : (loadedConfig store sixVolt).Storable := by
  rcases loadedConfig_cases store sixVolt with h | ⟨b, h⟩
  · rw [h]; exact WorkingConfig.default_storable sixVolt
  · rw [h]; exact (loadRecord_loadedFrom b).storable

end Sys2Proof.Machine
end

section
/-! PROOFS. The 512 bytes of the staging image load the configuration again (R188), and what the resets and the wakes leave in the
Supply Manager (R142, R181, R190, R191). -/

namespace Sys2Proof.Machine

/-! ## The places of the entries in the image (section 11.5) -/

theorem piece_flatMap {α : Type} {f : α → List Byte} {size : Nat} {l : List α} (hf : ∀ e ∈ l, (f e).length = size)
    (p rest : List Byte) {o : Nat} (ho : o = p.length) {i : Nat} (hi : i < l.length) :
    piece (p ++ (l.flatMap f ++ rest)) (o + size * i) size = f l[i] := by
  subst ho
  rw [piece, List.drop_append]
  simp only [Nat.add_sub_cancel_left, List.drop_eq_nil_of_le (Nat.le_add_right _ _), List.nil_append]
  induction l generalizing i with
  | nil => cases hi
  | cons e t ih =>
    have he : (f e).length = size := hf e List.mem_cons_self
    rw [List.flatMap_cons, List.append_assoc]
    cases i with
    | zero => rw [Nat.mul_zero, List.drop_zero, List.getElem_cons_zero, ← he, List.take_left]
    | succ i =>
      rw [Nat.mul_succ, Nat.add_comm, ← List.drop_drop, ← he, List.drop_left, he, List.getElem_cons_succ]
      exact ih (fun x hx => hf x (List.mem_cons_of_mem e hx)) (by simpa using hi)

theorem length_flatMap_of_length {α : Type} {f : α → List Byte} {size : Nat} {l : List α}
    (hf : ∀ e ∈ l, (f e).length = size) : (l.flatMap f).length = l.length * size := by
  rw [List.length_flatMap, List.map_congr_left hf, List.map_const', List.sum_replicate, smul_eq_mul]

theorem SwitchEntry.bytes_length (e : SwitchEntry) : e.bytes.length = 4 := rfl

theorem SenderEntry.bytes_length {e : SenderEntry} (h : e.words.length = 16) : e.bytes.length = 36 := by
  rw [SenderEntry.bytes, List.length_append, length_flatMap_of_length (size := 2) fun w _ => putWord_length w, h]
  rfl

theorem ChannelEntry.bytes_length (e : ChannelEntry) : e.bytes.length = 19 := rfl

theorem GaugeEntry.bytes_length (e : GaugeEntry) : e.bytes.length = 14 := rfl

/-- The six bytes before the limits. -/
def WorkingConfig.leading (c : WorkingConfig) : List Byte :=
  [putByte (pack [(flagBit c.ignFromLine, 1), (flagBit c.shunt, 1)]), putByte c.ni] ++ putWord c.flashPeriod
    ++ [putByte c.quiet, putByte c.allowance]

/-- The limits before the maps, two bytes each. -/
def WorkingConfig.limits (c : WorkingConfig) : List Nat :=
  [c.t1, c.t2, c.t3, c.hyst, c.d1, c.d2, c.capacity, c.v1, c.v2, c.v3, c.rampRate, c.stallLimit]

/-- The thirty bytes before the maps. -/
def WorkingConfig.header (c : WorkingConfig) : List Byte := c.leading ++ c.limits.flatMap putWord

section
variable (c : WorkingConfig)

theorem WorkingConfig.header_length : c.header.length = 30 := rfl

theorem WorkingConfig.bytes_eq : c.bytes = c.header ++ (c.switches.toList.flatMap SwitchEntry.bytes ++
    (c.senders.toList.flatMap SenderEntry.bytes ++ (c.channels.toList.flatMap ChannelEntry.bytes ++
      (c.gauges.toList.flatMap GaugeEntry.bytes ++ (List.replicate 96 0 ++ putWord c.checksum.toNat))))) := by
  simp only [WorkingConfig.bytes, WorkingConfig.header, WorkingConfig.leading, WorkingConfig.limits, List.append_assoc]

theorem WorkingConfig.piece_switch (i : Fin 8) : piece c.bytes (30 + 4 * i.val) 4 = c.switches[i].bytes := by
  rw [WorkingConfig.bytes_eq]
  exact piece_flatMap (fun e _ => e.bytes_length) _ _ rfl (by simp)

end

theorem SenderEntry.names_iff (e : SenderEntry) (slot : Nat) :
    e.names slot = true ↔ e.mode = .resistive ∧ e.publish = slot := by
  rw [SenderEntry.names, Bool.and_eq_true, decide_eq_true_iff, decide_eq_true_iff]

/-- A sender that names no slot, or one that is free, keeps it. -/
theorem SenderEntry.afterSlots_eq {e : SenderEntry} {a b : Bool} (h : e.publish ≠ 0 →
    e.mode = .resistive ∧ (e.publish = 1 ∧ a = false ∨ e.publish = 2 ∧ b = false)) : e.afterSlots a b = e := by
  have hp : (if (e.names 1 && !a || e.names 2 && !b) = true then e.publish else 0) = e.publish := by
    by_cases h0 : e.publish = 0
    · rw [h0, ite_self]
    · obtain ⟨hm, ⟨hs, rfl⟩ | ⟨hs, rfl⟩⟩ := h h0
      · rw [(e.names_iff 1).mpr ⟨hm, hs⟩]; rfl
      · rw [(e.names_iff 2).mpr ⟨hm, hs⟩]; exact if_pos (Bool.or_true _)
  rw [SenderEntry.afterSlots, hp]

theorem putWord_word (n : Nat) : (putByte (n / 256)).toNat * 256 + (putByte n).toNat = n % 65536 := by
  rw [putByte_toNat, putByte_toNat]; omega

theorem WorkingConfig.piece_limit (c : WorkingConfig) {i : Nat} (hi : i < c.limits.length) :
    piece c.bytes (6 + 2 * i) 2 = putWord c.limits[i] := by
  rw [WorkingConfig.bytes_eq, WorkingConfig.header, List.append_assoc]
  exact piece_flatMap (fun n _ => putWord_length n) _ _ rfl hi

theorem WorkingConfig.wordAt_limit (c : WorkingConfig) {i : Nat} (hi : i < c.limits.length) :
    wordAt c.bytes (6 + 2 * i) = c.limits[i] % 65536 := by
  have hw := wordAt_piece c.bytes (6 + 2 * i) (j := 0) (size := 2) (by decide)
  rw [c.piece_limit hi] at hw
  exact hw.symm.trans (putWord_word _)

theorem WorkingConfig.load_flags (c : WorkingConfig) :
    (loadRecord c.bytes).ignFromLine = c.ignFromLine ∧ (loadRecord c.bytes).shunt = c.shunt := by
  have hign : (loadRecord c.bytes).ignFromLine =
      (putByte (pack [(flagBit c.ignFromLine, 1), (flagBit c.shunt, 1)])).getLsbD 0 := rfl
  have hshunt : (loadRecord c.bytes).shunt =
      (putByte (pack [(flagBit c.ignFromLine, 1), (flagBit c.shunt, 1)])).getLsbD 1 := rfl
  rw [hign, hshunt, putByte_getLsbD _ (by decide), putByte_getLsbD _ (by decide), testBit_pack_flag_zero,
    testBit_pack_flag_succ, testBit_pack_flag_zero]
  exact ⟨rfl, rfl⟩

section
variable {c : WorkingConfig} (h : c.Storable)
include h

theorem WorkingConfig.Storable.sender_length : ∀ e ∈ c.senders.toList, e.bytes.length = 36 := by
  intro e he
  obtain ⟨n, hn, rfl⟩ := List.getElem_of_mem he
  exact SenderEntry.bytes_length (h.senders ⟨n, by simpa using hn⟩).length

theorem WorkingConfig.Storable.bytes_lengths : (c.switches.toList.flatMap SwitchEntry.bytes).length = 32 ∧
    (c.senders.toList.flatMap SenderEntry.bytes).length = 144 ∧
    (c.channels.toList.flatMap ChannelEntry.bytes).length = 152 ∧
    (c.gauges.toList.flatMap GaugeEntry.bytes).length = 56 := by
  refine ⟨?_, ?_, ?_, ?_⟩
  · rw [length_flatMap_of_length fun e _ => e.bytes_length, Vector.length_toList]
  · rw [length_flatMap_of_length h.sender_length, Vector.length_toList]
  · rw [length_flatMap_of_length fun e _ => e.bytes_length, Vector.length_toList]
  · rw [length_flatMap_of_length fun e _ => e.bytes_length, Vector.length_toList]

theorem WorkingConfig.Storable.bytes_length : c.bytes.length = 512 := by
  obtain ⟨hs, hn, hc, hg⟩ := h.bytes_lengths
  rw [WorkingConfig.bytes_eq]
  simp only [List.length_append, hs, hn, hc, hg, WorkingConfig.header_length, List.length_replicate, putWord_length]

theorem WorkingConfig.Storable.piece_sender (n : Fin 4) : piece c.bytes (62 + 36 * n.val) 36 = c.senders[n].bytes := by
  obtain ⟨hs, -, -, -⟩ := h.bytes_lengths
  rw [WorkingConfig.bytes_eq, ← List.append_assoc]
  exact piece_flatMap h.sender_length _ _ (by rw [List.length_append, hs]; rfl) (by simp)

theorem WorkingConfig.Storable.piece_channel (i : Fin 8) : piece c.bytes (206 + 19 * i.val) 19 = c.channels[i].bytes := by
  obtain ⟨hs, hn, -, -⟩ := h.bytes_lengths
  rw [WorkingConfig.bytes_eq, ← List.append_assoc, ← List.append_assoc]
  exact piece_flatMap (fun e _ => e.bytes_length) _ _ (by rw [List.length_append, List.length_append, hs, hn]; rfl) (by simp)

theorem WorkingConfig.Storable.piece_gauge (g : Fin 4) : piece c.bytes (358 + 14 * g.val) 14 = c.gauges[g].bytes := by
  obtain ⟨hs, hn, hc, -⟩ := h.bytes_lengths
  rw [WorkingConfig.bytes_eq, ← List.append_assoc, ← List.append_assoc, ← List.append_assoc]
  exact piece_flatMap (fun e _ => e.bytes_length) _ _
    (by rw [List.length_append, List.length_append, List.length_append, hs, hn, hc]; rfl) (by simp)

theorem WorkingConfig.Storable.checksum_word : wordAt c.bytes 510 = c.checksum.toNat := by
  obtain ⟨l, hbytes⟩ : ∃ l : List Byte, c.bytes = l ++ putWord c.checksum.toNat := ⟨_, rfl⟩
  have hlen : l.length = 510 := by
    have h512 := h.bytes_length
    rw [hbytes, List.length_append, putWord_length] at h512
    omega
  rw [hbytes, ← hlen, ← List.append_nil (putWord _), wordAt_putWord, Nat.mod_eq_of_lt c.checksum.isLt]

/-! ## The maps loaded again -/

theorem WorkingConfig.Storable.load_switch (i : Fin 8) : (loadRecord c.bytes).switches[i] = c.switches[i] := by
  obtain ⟨hm, ht, hh, he⟩ := h.switches i
  rw [loadRecord_switches, c.piece_switch, loadSwitch_bytes _ hm ht hh he]

theorem WorkingConfig.Storable.load_gauge (g : Fin 4) : (loadRecord c.bytes).gauges[g] = c.gauges[g] := by
  obtain ⟨hty, hnum, hslot, hdfs, hk, hfs, hspan, hnamed⟩ := h.gauges g
  rw [loadRecord_gauges, h.piece_gauge, loadGauge_bytes _ hty hnum hslot hdfs hk hfs hspan hnamed]

theorem WorkingConfig.Storable.senderRead_eq (n : Fin 4) : senderRead c.bytes n.val = c.senders[n] := by
  obtain ⟨ht, hp, hc, hl, hw, hsw, hre, hla⟩ := h.senders n
  rw [senderRead, h.piece_sender, loadSender_bytes _ ht hp hc hl hw hsw hre hla]

theorem WorkingConfig.Storable.channelRead_eq (i : Fin 8) : channelRead c.bytes i.val = c.channels[i] := by
  obtain ⟨h1, h2, h3, h4, h5, h6, h7, h8, h9, h10, h11, h12⟩ := h.channels i
  rw [channelRead, h.piece_channel, loadChannel_bytes _ h1 h2 h3 h4 h5 h6 h7 h8 h9 h10 h11 h12]

theorem WorkingConfig.Storable.load_sender (n : Fin 4) : (loadRecord c.bytes).senders[n] = c.senders[n] := by
  rw [loadRecord_senders, h.senderRead_eq]
  refine SenderEntry.afterSlots_eq fun h0 => ?_
  obtain ⟨hmode, hslot, hlower⟩ := h.publish n h0
  have hfree : ((List.range n.val).any fun m => (senderRead c.bytes m).names c.senders[n].publish) = false := by
    rw [any_range_eq_false_iff]
    intro m hm hnamed
    rw [h.senderRead_eq ⟨m, hm.trans n.isLt⟩, SenderEntry.names_iff] at hnamed
    exact hlower ⟨m, hm.trans n.isLt⟩ hm hnamed
  refine ⟨hmode, hslot.imp (fun h1 => ⟨h1, ?_⟩) fun h2 => ⟨h2, ?_⟩⟩
  · rwa [h1] at hfree
  · rwa [h2] at hfree

theorem WorkingConfig.Storable.load_channel (i : Fin 8) : (loadRecord c.bytes).channels[i] = c.channels[i] := by
  have hfree : ¬(c.channels[i].kind = .motor ∧
      ((List.range i.val).any fun m => decide ((channelRead c.bytes m).kind = .motor)) = true) := by
    rintro ⟨hi, hany⟩
    obtain ⟨m, hm, hmotor⟩ := List.any_eq_true.mp hany
    have hlt : m < i.val := List.mem_range.mp hm
    have hread := h.channelRead_eq ⟨m, hlt.trans i.isLt⟩
    rw [decide_eq_true_iff, hread] at hmotor
    exact h.motor i ⟨m, hlt.trans i.isLt⟩ hlt hi hmotor
  rw [loadRecord_channels, h.channelRead_eq, ChannelEntry.afterMotors, if_neg hfree]

/-! ## The whole record -/

theorem WorkingConfig.Storable.byteAt_header :
    byteAt c.bytes 1 = c.ni ∧ byteAt c.bytes 4 = c.quiet ∧ byteAt c.bytes 5 = c.allowance := by
  have hbyte (n : Nat) (hn : n < 256) : (putByte n).toNat = n := by rw [putByte_toNat, Nat.mod_eq_of_lt hn]
  obtain ⟨-, hquiet⟩ := h.quiet
  obtain ⟨-, hallowance⟩ := h.allowance
  have hni : c.ni ≤ 8 := (by decide : ∀ n ∈ [1, 2, 4, 8], n ≤ 8) _ h.ni
  exact ⟨hbyte c.ni (by omega), hbyte c.quiet (by omega), hbyte c.allowance (by omega)⟩

theorem WorkingConfig.Storable.wordAt_header : wordAt c.bytes 2 = c.flashPeriod ∧
    wordAt c.bytes 6 = c.t1 ∧ wordAt c.bytes 8 = c.t2 ∧ wordAt c.bytes 10 = c.t3 ∧ wordAt c.bytes 12 = c.hyst ∧
    wordAt c.bytes 14 = c.d1 ∧ wordAt c.bytes 16 = c.d2 ∧ wordAt c.bytes 18 = c.capacity ∧
    wordAt c.bytes 20 = c.v1 ∧ wordAt c.bytes 22 = c.v2 ∧ wordAt c.bytes 24 = c.v3 ∧
    wordAt c.bytes 26 = c.rampRate ∧ wordAt c.bytes 28 = c.stallLimit := by
  have hword (i : Nat) (hi : i < 12) (hn : c.limits[i] < 65536) : wordAt c.bytes (6 + 2 * i) = c.limits[i] :=
    (c.wordAt_limit hi).trans (Nat.mod_eq_of_lt hn)
  obtain ⟨-, hperiod, -⟩ := h.flashPeriod
  obtain ⟨ht1, ht2, ht3, hhyst⟩ := h.thresholds
  obtain ⟨⟨-, hd1⟩, ⟨-, hd2⟩, -, hcapacity⟩ := h.currents
  obtain ⟨⟨-, hv1⟩, ⟨-, hv2⟩, -, hv3⟩ := h.voltages
  obtain ⟨⟨-, hramp⟩, -, hstall⟩ := h.fan
  exact ⟨(putWord_word c.flashPeriod).trans (Nat.mod_eq_of_lt (by omega)),
    hword 0 (by decide) (show c.t1 < 65536 by omega), hword 1 (by decide) (show c.t2 < 65536 by omega),
    hword 2 (by decide) (show c.t3 < 65536 by omega), hword 3 (by decide) (show c.hyst < 65536 by omega),
    hword 4 (by decide) (show c.d1 < 65536 by omega), hword 5 (by decide) (show c.d2 < 65536 by omega),
    hword 6 (by decide) (show c.capacity < 65536 by omega), hword 7 (by decide) (show c.v1 < 65536 by omega),
    hword 8 (by decide) (show c.v2 < 65536 by omega), hword 9 (by decide) (show c.v3 < 65536 by omega),
    hword 10 (by decide) (show c.rampRate < 65536 by omega), hword 11 (by decide) (show c.stallLimit < 65536 by omega)⟩

/-- The record read back field by field; each field's load-time rule leaves a value that meets it (R188). -/
theorem WorkingConfig.Storable.loadRecord_bytes :
    ∃ n, loadRecord c.bytes = { c with isDefault := false, clamped := n } := by
  obtain ⟨hign, hshunt⟩ := c.load_flags
  obtain ⟨hbni, hbquiet, hballowance⟩ := h.byteAt_header
  obtain ⟨hwperiod, hwt1, hwt2, hwt3, hwhyst, hwd1, hwd2, hwcapacity, hwv1, hwv2, hwv3, hwramp, hwstall⟩ := h.wordAt_header
  have hswitches : (loadRecord c.bytes).switches = c.switches := Vector.ext fun i hi => h.load_switch ⟨i, hi⟩
  have hsenders : (loadRecord c.bytes).senders = c.senders := Vector.ext fun n hn => h.load_sender ⟨n, hn⟩
  have hchannels : (loadRecord c.bytes).channels = c.channels := Vector.ext fun i hi => h.load_channel ⟨i, hi⟩
  have hgauges : (loadRecord c.bytes).gauges = c.gauges := Vector.ext fun g hg => h.load_gauge ⟨g, hg⟩
  have hchecksum : (loadRecord c.bytes).checksum = c.checksum := by
    show BitVec.ofNat 16 (wordAt c.bytes 510) = _
    rw [h.checksum_word, BitVec.ofNat_toNat, BitVec.setWidth_eq]
  have hload := loadRecord_loadedFrom c.bytes
  have hvoltages : (loadRecord c.bytes).v1 = c.v1 ∧ (loadRecord c.bytes).v2 = c.v2 ∧ (loadRecord c.bytes).v3 = c.v3 := by
    obtain ⟨⟨hv1, hv1'⟩, ⟨hv2, hv2'⟩, hv3, hv3'⟩ := h.voltages
    obtain ⟨hlv1, hlv2, hlv3, -, -⟩ := hload.fan
    omega
  have hni : (loadRecord c.bytes).ni = c.ni := by
    obtain ⟨hmem, hle, hgreatest⟩ := hload.ni
    have hpos : 1 ≤ c.ni := (by decide : ∀ n ∈ [1, 2, 4, 8], 1 ≤ n) _ h.ni
    rw [hbni, Nat.max_eq_right hpos] at hle hgreatest
    exact Nat.le_antisymm hle (hgreatest _ h.ni le_rfl)
  have hperiod : (loadRecord c.bytes).flashPeriod = c.flashPeriod := by
    obtain ⟨hlow, hhigh, hten⟩ := h.flashPeriod
    rw [hload.flashPeriod]; omega
  have hquiet : (loadRecord c.bytes).quiet = c.quiet ∧ (loadRecord c.bytes).allowance = c.allowance := by
    obtain ⟨hlquiet, hlallowance⟩ := hload.quiet
    obtain ⟨⟨hq, -⟩, ha1, ha2⟩ := And.intro h.quiet h.allowance
    omega
  have hthresholds : (loadRecord c.bytes).t1 = c.t1 ∧ (loadRecord c.bytes).t2 = c.t2 ∧ (loadRecord c.bytes).t3 = c.t3 ∧
      (loadRecord c.bytes).hyst = c.hyst := by
    obtain ⟨ht1, ht2, ht3, hhyst⟩ := h.thresholds
    obtain ⟨hlt1, hlt2, hlt3, hlhyst⟩ := hload.thresholds
    omega
  have hcurrents : (loadRecord c.bytes).d1 = c.d1 ∧ (loadRecord c.bytes).d2 = c.d2 ∧
      (loadRecord c.bytes).capacity = c.capacity := by
    obtain ⟨⟨hd1, hd1'⟩, ⟨hd2, hd2'⟩, hc, hc'⟩ := h.currents
    obtain ⟨hld1, hld2, hlcapacity⟩ := hload.currents
    omega
  have hfan : (loadRecord c.bytes).rampRate = c.rampRate ∧ (loadRecord c.bytes).stallLimit = c.stallLimit := by
    obtain ⟨⟨hr, hr'⟩, hs, hs'⟩ := h.fan
    obtain ⟨-, -, -, hlramp, hlstall⟩ := hload.fan
    omega
  obtain ⟨hquiet, hallowance⟩ := hquiet
  obtain ⟨ht1, ht2, ht3, hhyst⟩ := hthresholds
  obtain ⟨hd1, hd2, hcapacity⟩ := hcurrents
  obtain ⟨hv1, hv2, hv3⟩ := hvoltages
  obtain ⟨hramp, hstall⟩ := hfan
  have hdefault : (loadRecord c.bytes).isDefault = false := rfl
  refine ⟨(loadRecord c.bytes).clamped, ?_⟩
  generalize loadRecord c.bytes = d at *
  rw [← hign, ← hshunt, ← hni, ← hperiod, ← hquiet, ← hallowance, ← ht1, ← ht2, ← ht3, ← hhyst, ← hd1, ← hd2, ← hcapacity,
    ← hv1, ← hv2, ← hv3, ← hramp, ← hstall, ← hswitches, ← hsenders, ← hchannels, ← hgauges, ← hdefault, ← hchecksum]

end

/-! ## The Supply Manager after a wake (R142, R181) -/

theorem exec_wake_entered {s : State} {c : Instr} (h : (c = .lineWake ∧ s.sleeping = true) ∨
    (c = .wakeWaitExpiry ∧ s.live = true ∧ s.ctl.state = .asleep ∧ s.ctl.wake = .wait)) :
    ∃ t : State, exec c s = .next t ∧ t.cfg = s.cfg ∧ t.supply = { Supply.init with
      c := s.supply.c, drain := s.supply.drain, drainOver := s.supply.drainOver
      localLevel := s.supply.c, effective := s.supply.c
      orders := ⟨orderOf s.supply.c false false 1, orderOf s.supply.c false false 2, orderOf s.supply.c false false 3⟩
      drainTick := some 1000, holds := ⟨⟨true, none⟩, ⟨true, none⟩, ⟨true, none⟩⟩ } := by
  obtain ⟨cause, index, hx⟩ : ∃ cause index, exec c s = .next (s.wakeUp cause index) := by
    rcases h with ⟨rfl, hs⟩ | ⟨rfl, hl, ha, hw⟩
    · exact ⟨.line, none, congrArg Host.Outcome.next (if_pos hs)⟩
    · exact ⟨_, _, exec_wakeWaitExpiry hl ha hw⟩
  obtain ⟨capped, out, line, ht, -, -, -⟩ := (s.atWake_fresh cause index).entered
  rw [hx, State.wakeUp_eq, State.enterStarting_eq, if_neg (by decide), ht]
  exact ⟨_, rfl, rfl, rfl⟩

/-- Settles O47: the loads by the facts about `loadRecord`, the resets and the wakes by what entry to Starting leaves of
the Supply Manager. -/
theorem resetsSetSupply : Obligations.ResetsSetSupply := by
  refine ⟨fun store sixVolt h => ?_, fun m sixVolt hblank hcheck => ?_, fun store sixVolt c hc => ?_, fun s p => ?_,
    fun s p hp ho => ?_, fun s c _ h => ?_⟩
  · cases store with
    | none => exact WorkingConfig.default_spec sixVolt
    | some m =>
      have hrefused : ¬recordAccepted (m.bytes 512) = true := by
        rw [m.accepted_iff]
        rintro ⟨⟨a, ha, hne⟩, hcheck⟩
        exact (h m rfl).elim (fun hall => hne (hall a ha)) fun hbad => hbad hcheck
      rw [loadedConfig_of_refused hrefused]
      exact WorkingConfig.default_spec sixVolt
  · rw [loadedConfig_of_accepted (m.accepted_iff.mpr ⟨hblank, hcheck⟩)]
    exact loadRecord_loadedFrom _
  · have hstorable : c.Storable := hc ▸ loadedConfig_storable store sixVolt
    exact ⟨hstorable.bytes_length, hstorable.loadRecord_bytes⟩
  · obtain ⟨status, announce, ht⟩ := s.powerDown.takeReset_entered p .powerOn (supply := Supply.init) rfl
    rw [exec_powerOnReset, ht]
    exact ⟨_, rfl, rfl, rfl⟩
  · obtain ⟨status, announce, ht⟩ := s.takeReset_entered p .service
      (supply := { Supply.init with drain := s.supply.drain, drainOver := s.supply.drainOver }) rfl
    rw [exec_serviceRestart hp ho, ht]
    exact ⟨_, rfl, rfl, rfl⟩
  · obtain ⟨t, hx, hcfg, hsupply⟩ := exec_wake_entered h
    rw [hx]
    refine ⟨t, rfl, hcfg, ?_⟩
    rw [hsupply]
    refine ⟨rfl, rfl, rfl, rfl, rfl, rfl, rfl, rfl, rfl, rfl, rfl, fun h3 => ?_, fun h0 => ?_⟩
    · rw [h3]; rfl
    · rw [h0]; rfl

end Sys2Proof.Machine
end

section
/-! PROOFS. The Fan Drive in the hand-ons (R145, R147 to R155): the target and the cap it takes, what it does by its state, and
the duty and retry count of the Motor channel. -/

namespace Sys2Proof.Machine

set_option Elab.async false

/-- The Motor channel turns: it is Ramping or Running (R147). -/
abbrev Fan.Turns (f : Fan) : Prop := f.state = .ramping ∨ f.state = .running

theorem State.motor_kind {s : State} {m : Fin 8} (h : s.motor = some m) : s.cfg.channels[m].kind = .motor :=
  of_decide_eq_true (List.find?_some h :)

/-! ## What the fan does by its state (R148 to R155) -/

section
variable {f : Fan} {before : Nat} {shed crank hold falls : Bool}

/-- The target becomes 0, as the model's test says it. -/
theorem Fan.falls_eq (hf : falls = true ↔ f.target = 0 ∧ before ≠ 0) :
    falls = (decide (f.target = 0) && decide (before ≠ 0)) := by
  rw [Bool.eq_iff_iff, hf, Bool.and_eq_true, decide_eq_true_iff, decide_eq_true_iff]

theorem Fan.act_off (h : f.state = .off) : f.act before shed crank hold =
    if 0 < f.target ∧ shed = false ∧ crank = false ∧ hold = false then f.startRamp false else f := by
  unfold Fan.act; rw [h]

theorem Fan.act_turning (h : f.Turns) (hf : falls = true ↔ f.target = 0 ∧ before ≠ 0) : f.act before shed crank hold =
    if crank = true ∨ (shed = true ∧ (f.deferral = none ∨ falls = true)) then f.suspend else f.turn before := by
  obtain rfl := Fan.falls_eq hf
  unfold Fan.act
  rcases h with h | h <;> rw [h]

theorem Fan.act_suspended (h : f.state = .suspended) (hf : falls = true ↔ f.target = 0 ∧ before ≠ 0) :
    f.act before shed crank hold =
      if falls = true then f.rest .off
      else if shed = false ∧ crank = false ∧ hold = false then f.startRamp true
      else { f with remembered := some f.resolved } := by
  obtain rfl := Fan.falls_eq hf
  unfold Fan.act; rw [h]

/-- A Stalled or Locked fan leaves its state as the target becomes 0 alone (R152). -/
theorem Fan.act_barred (h : f.state = .stalled ∨ f.state = .locked) (hf : falls = true ↔ f.target = 0 ∧ before ≠ 0) :
    f.act before shed crank hold = if falls = true then f.rest .off else f := by
  obtain rfl := Fan.falls_eq hf
  unfold Fan.act
  rcases h with h | h <;> rw [h]

theorem Fan.act_tripped (h : f.state = .tripped) (hf : falls = true ↔ f.target = 0 ∧ before ≠ 0) :
    f.act before shed crank hold =
      if falls = true then f.rest .off else if shed = true ∨ crank = true then f.hang else f := by
  obtain rfl := Fan.falls_eq hf
  unfold Fan.act; rw [h]

theorem Fan.act_test (h : f.state = .test) : f.act before shed crank hold = f := by
  unfold Fan.act; rw [h]

/-- A turning fan that no cause suspends follows its target (R149, R155). -/
theorem Fan.turn_eq (h : f.Turns) (before : Nat) : f.turn before = { f with
    deferral := if f.target = 0 ∧ before ≠ 0 then none else f.deferral
    state := if f.target ≠ before then .ramping else f.state
    runTimer := if f.state = .running ∧ f.target ≠ before then none else f.runTimer } := by
  have hdeferral : (if f.target = 0 ∧ before ≠ 0 then { f with deferral := none } else f) =
      { f with deferral := if f.target = 0 ∧ before ≠ 0 then none else f.deferral } := by
    split <;> rfl
  unfold Fan.turn
  rw [hdeferral]
  dsimp only
  by_cases hr : f.state = .running ∧ f.target ≠ before
  · rw [if_pos hr, if_pos hr, if_pos hr.2]
  · have hstate : (if f.target ≠ before then .ramping else f.state) = f.state :=
      ite_eq_right_iff.mpr fun k => (h.resolve_right fun r => hr ⟨r, k⟩).symm
    rw [if_neg hr, if_neg hr, hstate]

/-! ## The fan as its causes allow it (R146, R153, R155) -/

/-- A fan that turns has no crank hold and, with its class ordered shed, a deferral; one that does not turn has no effective
voltage. -/
structure Fan.Allowed (f : Fan) (shed crank : Bool) : Prop where
  crank    : f.Turns → crank = false
  deferred : f.Turns → shed = true → f.deferral.isSome = true
  rest     : ¬f.Turns → f.veff = 0

theorem Fan.Allowed.of_still (h : ¬f.Turns) (hv : f.veff = 0) : f.Allowed shed crank :=
  ⟨fun k => absurd k h, fun k => absurd k h, fun _ => hv⟩

theorem Fan.Allowed.of_free (h : f.Turns) : f.Allowed false false := ⟨fun _ => rfl, fun _ => nofun, fun k => absurd h k⟩

theorem Fan.Allowed.suspend (f : Fan) : f.suspend.Allowed shed crank := by
  unfold Fan.suspend
  split <;> exact .of_still (by rintro (h | h) <;> cases h) rfl

theorem Fan.Allowed.turn (h : f.Turns) (hs : ¬(crank = true ∨ (shed = true ∧ (f.deferral = none ∨
    (f.target = 0 ∧ before ≠ 0))))) : (f.turn before).Allowed shed crank := by
  obtain ⟨hcrank, hshed⟩ := not_or.mp hs
  have hturns : (f.turn before).Turns := by
    rw [Fan.turn_eq h]
    by_cases ht : f.target ≠ before
    · exact .inl (if_pos ht)
    · simpa only [Fan.Turns, if_neg ht] using h
  refine ⟨fun _ => Bool.eq_false_of_not_eq_true hcrank, fun _ k => ?_, fun k => absurd hturns k⟩
  obtain ⟨hdeferral, hfalls⟩ := not_or.mp fun x => hshed ⟨k, x⟩
  rw [Fan.turn_eq h, if_neg hfalls]
  exact Option.isSome_iff_ne_none.mpr hdeferral

/-- Whatever its state, the fan acts so that its causes allow where it stands. -/
theorem Fan.act_allowed (h : ¬f.Turns → f.veff = 0) (before : Nat) (shed crank hold : Bool) :
    (f.act before shed crank hold).Allowed shed crank := by
  have hrest (st : FanState) (hst : st ≠ .ramping ∧ st ≠ .running) : (f.rest st).Allowed shed crank :=
    .of_still (not_or.mpr hst) rfl
  have hstart (resume : Bool) (k : shed = false ∧ crank = false ∧ hold = false) :
      (f.startRamp resume).Allowed shed crank := by
    rw [k.1, k.2.1]; exact .of_free (.inl rfl)
  have hself (hs : f.state ≠ .ramping ∧ f.state ≠ .running) : f.Allowed shed crank :=
    .of_still (not_or.mpr hs) (h (not_or.mpr hs))
  have hfalls : (decide (f.target = 0) && decide (before ≠ 0)) = true ↔ f.target = 0 ∧ before ≠ 0 := by simp
  have hturning (hs : f.Turns) : (f.act before shed crank hold).Allowed shed crank := by
    rw [Fan.act_turning hs hfalls]
    split
    · exact .suspend f
    · rename_i k; rw [hfalls] at k; exact .turn hs k
  cases hs : f.state with
  | off =>
    rw [Fan.act_off hs]
    split
    · rename_i k; exact hstart _ k.2
    · exact hself (by rw [hs]; decide)
  | ramping => exact hturning (.inl hs)
  | running => exact hturning (.inr hs)
  | suspended =>
    rw [Fan.act_suspended hs hfalls]
    split
    · exact hrest .off (by decide)
    · split
      · rename_i k; exact hstart _ k
      · have hself' := hself (by rw [hs]; decide)
        exact ⟨hself'.crank, hself'.deferred, hself'.rest⟩
  | stalled =>
    rw [Fan.act_barred (.inl hs) hfalls]
    split
    · exact hrest .off (by decide)
    · exact hself (by rw [hs]; decide)
  | locked =>
    rw [Fan.act_barred (.inr hs) hfalls]
    split
    · exact hrest .off (by decide)
    · exact hself (by rw [hs]; decide)
  | tripped =>
    rw [Fan.act_tripped hs hfalls]
    split
    · exact hrest .off (by decide)
    · split
      · exact .of_still (by rintro (k | k) <;> cases k) rfl
      · exact hself (by rw [hs]; decide)
  | test => rw [Fan.act_test hs]; exact hself (by rw [hs]; decide)

/-- The fan acts without a change of its target and its cap. -/
theorem Fan.act_target (f : Fan) (before : Nat) (shed crank hold : Bool) :
    (f.act before shed crank hold).target = f.target ∧ (f.act before shed crank hold).capped = f.capped := by
  have hsuspend : f.suspend.target = f.target ∧ f.suspend.capped = f.capped := by
    unfold Fan.suspend; split <;> exact ⟨rfl, rfl⟩
  have hfalls : (decide (f.target = 0) && decide (before ≠ 0)) = true ↔ f.target = 0 ∧ before ≠ 0 := by simp
  have hturning (hs : f.Turns) : (f.act before shed crank hold).target = f.target ∧
      (f.act before shed crank hold).capped = f.capped := by
    rw [Fan.act_turning hs hfalls, Fan.turn_eq hs]
    split
    · exact hsuspend
    · exact ⟨rfl, rfl⟩
  cases hs : f.state with
  | off => rw [Fan.act_off hs]; split <;> exact ⟨rfl, rfl⟩
  | ramping => exact hturning (.inl hs)
  | running => exact hturning (.inr hs)
  | suspended =>
    rw [Fan.act_suspended hs hfalls]
    split
    · exact ⟨rfl, rfl⟩
    · split <;> exact ⟨rfl, rfl⟩
  | stalled => rw [Fan.act_barred (.inl hs) hfalls]; split <;> exact ⟨rfl, rfl⟩
  | locked => rw [Fan.act_barred (.inr hs) hfalls]; split <;> exact ⟨rfl, rfl⟩
  | tripped =>
    rw [Fan.act_tripped hs hfalls]
    split
    · exact ⟨rfl, rfl⟩
    · split <;> exact ⟨rfl, rfl⟩
  | test => rw [Fan.act_test hs]; exact ⟨rfl, rfl⟩

end

/-! ## The fan that the hand-ons leave (R145, R147) -/

/-- The fan takes the resolved step: the cap, the target, and no stall counted as the target falls to 0 (R145, R150). -/
def Fan.retarget (f : Fan) (step : Nat) (order : Order) (crank : Bool) : Fan :=
  { f with
    resolved := step
    target := fanTarget step (f.capNow step order crank)
    stallCount := if fanTarget step (f.capNow step order crank) = 0 ∧ f.target ≠ 0 then 0 else f.stallCount
    capped := f.capNow step order crank }

/-- The fan of a state as it acts on what the hand-ons have resolved and ordered in `t`. -/
def State.fanIn (s t : State) (m : Fin 8) : Fan :=
  let order := t.supply.order s.cfg.channels[m].cls
  let f := s.fan.retarget t.res.fanStep order t.supply.crank
  if s.drives = true
  then f.act s.fan.target (decide (order = .shed)) t.supply.crank (t.supply.held s.cfg.channels[m].cls) else f

theorem State.stageFan_noMotor {s : State} (h : s.motor = none) :
    s.stageFan.fan = { s.fan with resolved := s.res.fanStep } := by
  unfold State.stageFan; rw [h]; rfl

theorem State.stageFan_motor {s : State} {m : Fin 8} (h : s.motor = some m) : s.stageFan = (s.withFan (s.fanIn s m)).driveMotor m
    (decide (fanTarget s.res.fanStep (s.fan.capNow s.res.fanStep (s.supply.order s.cfg.channels[m].cls) s.supply.crank) = 0)
      && decide (s.fan.target ≠ 0)) := by
  unfold State.stageFan State.fanIn Fan.retarget
  rw [h]
  simp

theorem State.driveMotor_channel (s : State) (m : Fin 8) (cleared : Bool) :
    (s.driveMotor m cleared).out.channels[m].retry = (if cleared = true then 0 else s.out.channels[m].retry) ∧
      (s.drives = true → (s.driveMotor m cleared).out.channels[m].duty =
        if s.fan.Turns then fanDuty s.fan.veff (s.vs s.vnom) else 0) := by
  unfold State.driveMotor
  dsimp only
  rw [State.setChannel_get]
  refine ⟨?_, fun hd => by rw [if_pos hd]⟩
  split <;> cases cleared <;> rfl

section
variable (s b : State) (x : Bool)

/-- The state in which the Fan Drive acts, in the hand-ons. -/
def State.beforeFan : State := s.beforeChannels.stageChannels (s.beginsOn x)

theorem State.settle_stageFan : (s.settle b x).fan = (s.beforeFan x).stageFan.fan ∧
    (s.settle b x).out.channels = (s.beforeFan x).stageFan.out.channels := by
  rw [State.settle_eq, State.stageStatus_fan, State.stageStatus_out, State.stageControl_fan, State.stageControl_out]
  exact ⟨State.stageLoad_fan _, State.stageLoad_channels _⟩

theorem State.beforeFan_cfg : (s.beforeFan x).cfg = s.cfg := (State.stageChannels_cfg _ _).trans s.beforeChannels_cfg

theorem State.beforeFan_motor : (s.beforeFan x).motor = s.motor := by
  unfold State.motor
  rw [State.beforeFan_cfg]

theorem State.beforeFan_fan : (s.beforeFan x).fan = s.fan := by
  simp [State.beforeFan, State.beforeChannels]

theorem State.beforeFan_drives : (s.beforeFan x).drives = s.drives :=
  (State.drives_congr (State.stageChannels_straps _ _) (State.stageChannels_ctl _ _)).trans s.beforeChannels_drives

theorem State.beforeFan_res : (s.beforeFan x).res = (s.settle b x).res :=
  (State.stageChannels_res _ _).trans (s.settle_res b x).symm

/-- The fan acts on the orders, the holds and crank hold that the hand-ons end in. -/
theorem State.beforeFan_supply : (s.beforeFan x).supply.orders = (s.settle b x).supply.orders ∧
    (s.beforeFan x).supply.holds = (s.settle b x).supply.holds ∧
    (s.beforeFan x).supply.crank = (s.settle b x).supply.crank := by
  obtain ⟨timers, harness, hsupply⟩ := s.settle_supply b x
  have hstage : (s.beforeFan x).supply = (s.stageUnion.stageSupply s.res.ign).supply := by
    simp [State.beforeFan, State.beforeChannels]
  rw [hstage, hsupply]
  exact ⟨rfl, rfl, rfl⟩

theorem State.beforeFan_vs : (s.beforeFan x).vs (s.beforeFan x).vnom = (s.settle b x).vs (s.settle b x).vnom := by
  have hmeas : (s.beforeFan x).meas.supply = (s.settle b x).meas.supply :=
    ((State.stageChannels_meas _ _).supply.trans s.beforeChannels_supplyRecord).trans
      (State.settle_handedOn s b x).meas.supply.symm
  have hstraps : (s.beforeFan x).straps = (s.settle b x).straps := by simp [State.beforeFan, State.beforeChannels]
  unfold State.vs State.vnom
  rw [hmeas, hstraps]

/-- Commands leave the retry count of a channel of kind Motor (R86). -/
theorem State.beforeFan_retry {m : Fin 8} (h : s.motor = some m) :
    (s.beforeFan x).out.channels[m].retry = s.out.channels[m].retry := by
  have hkind := State.motor_kind h
  obtain ⟨_, _, hchannel, -⟩ := s.beforeChannels.stageChannels_gated (s.beginsOn x) m
  rw [State.followChannel_unfollowed (by rw [State.beforeChannels_cfg, hkind]; rfl), State.beforeChannels_out] at hchannel
  exact (congrArg Channel.retry hchannel).trans rfl

theorem State.fanIn_congr {s t u v : State} (hf : u.fan = s.fan) (hc : u.cfg = s.cfg) (hd : u.drives = s.drives)
    (hr : v.res = t.res) (ho : v.supply.orders = t.supply.orders) (hh : v.supply.holds = t.supply.holds)
    (hk : v.supply.crank = t.supply.crank) (m : Fin 8) : u.fanIn v m = s.fanIn t m := by
  unfold State.fanIn Supply.order Supply.held
  rw [hf, hc, hd, hr, ho, hh, hk]

theorem State.settle_fan_noMotor (h : s.motor = none) :
    (s.settle b x).fan = { s.fan with resolved := (s.settle b x).res.fanStep } := by
  rw [(s.settle_stageFan b x).1, State.stageFan_noMotor ((s.beforeFan_motor x).trans h), s.beforeFan_fan,
    s.beforeFan_res b]

variable {s} {m : Fin 8} (h : s.motor = some m)
include h

theorem State.settle_fan : (s.settle b x).fan = s.fanIn (s.settle b x) m := by
  obtain ⟨horders, hholds, hcrank⟩ := s.beforeFan_supply b x
  rw [(s.settle_stageFan b x).1, State.stageFan_motor ((s.beforeFan_motor x).trans h), State.driveMotor_fan,
    State.withFan_fan]
  exact State.fanIn_congr (s.beforeFan_fan x) (s.beforeFan_cfg x) (s.beforeFan_drives x) (s.beforeFan_res b x) horders
    hholds hcrank m

/-- The Motor channel's retry count returns to 0 as the target falls to 0 (R149, R152, R154). -/
theorem State.settle_motor_retry : (s.settle b x).out.channels[m].retry =
    if fanTarget (s.settle b x).res.fanStep (s.fan.capNow (s.settle b x).res.fanStep
        ((s.settle b x).supply.order s.cfg.channels[m].cls) (s.settle b x).supply.crank) = 0 ∧ s.fan.target ≠ 0
      then 0 else s.out.channels[m].retry := by
  obtain ⟨horders, -, hcrank⟩ := s.beforeFan_supply b x
  rw [(s.settle_stageFan b x).2, State.stageFan_motor ((s.beforeFan_motor x).trans h), (State.driveMotor_channel _ m _).1]
  refine if_congr ?_ rfl (s.beforeFan_retry x h)
  rw [Bool.and_eq_true, decide_eq_true_iff, decide_eq_true_iff, s.beforeFan_fan, s.beforeFan_cfg, s.beforeFan_res b, hcrank]
  unfold Supply.order
  rw [horders]

/-- The Motor channel's duty is that of its effective voltage while it turns, and else 0 (R147). -/
theorem State.settle_motor_duty (hd : s.drives = true) : (s.settle b x).out.channels[m].duty =
    if (s.settle b x).fan.Turns then fanDuty (s.settle b x).fan.veff ((s.settle b x).vs (s.settle b x).vnom) else 0 := by
  obtain ⟨hfan, hout⟩ := s.settle_stageFan b x
  rw [State.stageFan_motor ((s.beforeFan_motor x).trans h)] at hfan hout
  rw [hout, hfan, ← s.beforeFan_vs b]
  exact (State.driveMotor_channel _ m _).2 ((s.beforeFan_drives x).trans hd)

end

end Sys2Proof.Machine
end

section
/-! PROOFS. Every step keeps the fan still under a suspension cause, and its target, its cap and its duty computed (R145 to R147,
R153, R155, R156). -/

namespace Sys2Proof.Machine

set_option Elab.async false

/-! ## The fan that the hand-ons find -/

/-- A fan fit for the hand-ons: it turns only with a Motor channel and where channels act, where they do not it is Off or in
Test, and while it does not turn its effective voltage is 0. -/
structure State.FanReady (s : State) : Prop where
  turning : s.fan.Turns → s.motor.isSome = true ∧ s.drives = true
  still   : s.drives = false → s.fan.state = .off ∨ s.fan.state = .test
  rest    : ¬s.fan.Turns → s.fan.veff = 0

theorem State.FanOk.ready {s : State} (h : s.FanOk) : s.FanReady :=
  ⟨fun k => ⟨(h.turning k).1, (h.turning k).2.2⟩, h.still, h.rest⟩

/-! ## The fan that they leave -/

section
variable (s t : State) (m : Fin 8)

/-- The target is the resolved step under the cap as it now stands (R145). -/
theorem State.fanIn_target : (s.fanIn t m).capped =
      s.fan.capNow t.res.fanStep (t.supply.order s.cfg.channels[m].cls) t.supply.crank ∧
    (s.fanIn t m).target = fanTarget t.res.fanStep (s.fanIn t m).capped := by
  unfold State.fanIn
  dsimp only
  split
  · rw [(Fan.act_target _ _ _ _ _).1, (Fan.act_target _ _ _ _ _).2]; exact ⟨rfl, rfl⟩
  · exact ⟨rfl, rfl⟩

theorem State.fanIn_still (hd : s.drives = false) :
    (s.fanIn t m).state = s.fan.state ∧ (s.fanIn t m).veff = s.fan.veff := by
  unfold State.fanIn
  rw [hd]
  exact ⟨rfl, rfl⟩

variable {s}

theorem State.fanIn_allowed (hd : s.drives = true) (hr : ¬s.fan.Turns → s.fan.veff = 0) :
    (s.fanIn t m).Allowed (decide (t.supply.order s.cfg.channels[m].cls = .shed)) t.supply.crank := by
  unfold State.fanIn
  dsimp only
  rw [if_pos hd]
  refine Fan.act_allowed ?_ _ _ _ _
  exact hr

/-- A fan whose deferral holds a shed cause back goes on (R155). -/
theorem State.fanIn_deferring (hd : s.drives = true) (hf : s.fan.defers t.res.fanStep
    (decide (t.supply.order s.cfg.channels[m].cls = .shed)) t.supply.crank = true) : (s.fanIn t m).Turns := by
  obtain ⟨hturns, hdeferral, -, hcrank, hstep⟩ := (Fan.defers_iff _ _ _ _).mp hf
  have htarget (capped : Bool) : fanTarget t.res.fanStep capped ≠ 0 := by
    unfold fanTarget; split <;> omega
  unfold State.fanIn
  dsimp only
  rw [if_pos hd]
  set f := s.fan.retarget t.res.fanStep (t.supply.order s.cfg.channels[m].cls) t.supply.crank with hfan
  have hf : f.Turns := hturns
  rw [Fan.act_turning (falls := false) hf (iff_of_false nofun fun k => htarget _ k.1), if_neg, Fan.turn_eq hf]
  · by_cases hk : f.target ≠ s.fan.target
    · exact .inl (if_pos hk)
    · simpa only [Fan.Turns, if_neg hk] using hf
  · rw [hcrank]
    rintro (k | ⟨-, k | k⟩)
    · cases k
    · exact Option.isSome_iff_ne_none.mp hdeferral k
    · cases k

end

theorem State.vs_nonneg (s : State) (nominal : Nat) : 0 ≤ s.vs nominal := by
  unfold State.vs
  split
  · exact le_trans (by decide) (clampInt_within (by decide) _).1
  · exact Int.natCast_nonneg _

theorem fanDuty_eq (veff : Nat) {vs : Int} (h : 0 ≤ vs) :
    (fanDuty veff vs : Int) = min 1000 (roundDiv ((veff : Int) * 1000) vs) := by
  have hpos : 0 ≤ roundDiv ((veff : Int) * 1000) vs := roundDiv_nonneg (by omega) h
  unfold fanDuty
  omega

theorem State.settle_motor (s b : State) (x : Bool) : (s.settle b x).motor = s.motor := by
  unfold State.motor
  rw [State.settle_cfg]

section
variable {s : State} (h : s.FanReady) (b : State) (x : Bool)
include h

/-- A station without a Motor channel leaves its fan standing (R144). -/
theorem State.settle_fanOk_noMotor (hm : s.motor = none) : (s.settle b x).FanOk := by
  have hno {p : Prop} {m : Fin 8} (k : (s.settle b x).motor = some m) : p := by
    rw [State.settle_motor, hm] at k; cases k
  have hturns : ¬s.fan.Turns := fun k => by
    have hsome := (h.turning k).1
    rw [hm] at hsome; cases hsome
  have hfan := s.settle_fan_noMotor b x hm
  constructor
  case turning => rw [hfan]; exact fun k => absurd k hturns
  case deferred => exact fun m k => hno k
  case still => rw [State.settle_drives, hfan]; exact h.still
  case rest => rw [hfan]; exact h.rest
  case target => exact fun _ m k => hno k
  case cap => exact fun _ m k => hno k
  case duty => exact fun _ _ m k => hno k

theorem State.settle_fanOk_motor {m : Fin 8} (hm : s.motor = some m) : (s.settle b x).FanOk := by
  have hmotor := (s.settle_motor b x).trans hm
  have hdrives := s.settle_drives b x
  have hcfg := s.settle_cfg b x
  have hduty := State.settle_motor_duty b x hm
  have hfan := State.settle_fan b x hm
  generalize s.settle b x = t at *
  obtain ⟨hcapped, htarget⟩ := s.fanIn_target t m
  have hstill := s.fanIn_still t m
  have hallowed := fun k => State.fanIn_allowed t m k h.rest
  have hdeferring := State.fanIn_deferring (s := s) t m
  rw [← hfan] at hcapped htarget hstill hallowed hdeferring
  have hsame {n : Fin 8} (k : t.motor = some n) : n = m := Option.some.inj (k.symm.trans hmotor)
  have hacts (k : t.fan.Turns) : s.drives = true := by
    by_contra hd
    rw [Fan.Turns, (hstill (Bool.eq_false_of_not_eq_true hd)).1] at k
    exact hd (h.turning k).2
  constructor
  case turning => exact fun k => ⟨by rw [hmotor]; rfl, (hallowed (hacts k)).crank k, hdrives.trans (hacts k)⟩
  case deferred =>
    intro n hn k ho
    rw [hsame hn, hcfg] at ho
    exact (hallowed (hacts k)).deferred k (decide_eq_true ho)
  case still =>
    rw [hdrives]
    intro hd
    rw [(hstill hd).1]
    exact h.still hd
  case rest =>
    intro k
    cases hd : s.drives with
    | true => exact (hallowed hd).rest k
    | false =>
      rw [(hstill hd).2]
      refine h.rest fun r => k ?_
      rwa [(hstill hd).1]
  case target => exact fun _ n _ => htarget
  case cap =>
    intro _ n hn
    rw [hsame hn, hcfg, hcapped]
    cases hdefers : s.fan.defers t.res.fanStep (decide (t.supply.order s.cfg.channels[m].cls = .shed)) t.supply.crank with
    | true =>
      obtain ⟨hturns, -, hshed, -⟩ := (Fan.defers_iff _ _ _ _).mp hdefers
      exact .inl ⟨hdeferring (h.turning hturns).2 hdefers, of_decide_eq_true hshed⟩
    | false =>
      refine .inr ((Fan.capNow_iff _ _ _ _).trans ?_)
      rw [hdefers]
      exact or_iff_left fun k => nomatch k.1
  case duty =>
    intro _ hd n hn
    rw [hsame hn, hduty (hdrives.symm.trans hd)]
    split
    · exact fanDuty_eq _ (t.vs_nonneg _)
    · rfl

/-- The hand-ons leave the fan as `State.FanOk` says, from any fan fit for them. -/
theorem State.settle_fanOk : (s.settle b x).FanOk := by
  cases hm : s.motor with
  | none => exact State.settle_fanOk_noMotor h b x hm
  | some m => exact State.settle_fanOk_motor h b x hm

end

end Sys2Proof.Machine
end

section
namespace Sys2Proof.Machine

set_option Elab.async false

/-! ## What a command does to the fan -/

/-- What `State.FanOk` reads of the fan beside its state. -/
def Fan.course (f : Fan) : Nat × Nat × Timer × Bool := (f.veff, f.target, f.deferral, f.capped)

theorem State.FanOk.of_view {s t : State} (h : s.FanOk) (hv : t.outputView = s.outputView) (hf : t.fan.course = s.fan.course)
    (hu : t.up = true → s.up = true) : t.FanOk := by
  have hcfg : t.cfg = s.cfg := congrArg (·.cfg) hv
  have hstraps : t.straps = s.straps := congrArg (·.straps) hv
  have hctl : t.ctl.state = s.ctl.state := congrArg (·.state) hv
  have hres : t.res = s.res := congrArg (·.res) hv
  have hvalid : t.meas.supply.valid = s.meas.supply.valid := congrArg (·.voltage.1) hv
  have havg : t.meas.supply.avg = s.meas.supply.avg := congrArg (·.voltage.2) hv
  have hduty (i : Fin 8) : t.out.channels[i].duty = s.out.channels[i].duty := congrArg (·.channels i |>.2.2) hv
  have hsupply : t.supply = s.supply := congrArg (·.supply) hv
  have hstate : t.fan.state = s.fan.state := congrArg (·.fan) hv
  have hveff : t.fan.veff = s.fan.veff := congrArg (·.1) hf
  have htarget : t.fan.target = s.fan.target := congrArg (·.2.1) hf
  have hdeferral : t.fan.deferral = s.fan.deferral := congrArg (·.2.2.1) hf
  have hcapped : t.fan.capped = s.fan.capped := congrArg (·.2.2.2) hf
  have hdrives : t.drives = s.drives := by unfold State.drives State.strapInvalid; rw [hstraps, hctl]
  have hmotor : t.motor = s.motor := by unfold State.motor; rw [hcfg]
  have hvnom : t.vnom = s.vnom := by unfold State.vnom; rw [hstraps]
  have hvs (n : Nat) : t.vs n = s.vs n := by unfold State.vs; rw [hvalid, havg]
  constructor <;>
    simp only [hcfg, hres, hduty, hsupply, hstate, hveff, htarget, hdeferral, hcapped, hdrives, hmotor, hvnom, hvs]
  · exact h.turning
  · exact h.deferred
  · exact h.still
  · exact h.rest
  · exact fun k => h.target (hu k)
  · exact fun k => h.cap (hu k)
  · exact fun k => h.duty (hu k)

/-- A command leaves the fan fit for the hand-ons that follow it. -/
def State.FanPrepared (s u : State) : Prop := s.FanReady → u.FanReady

namespace State.FanPrepared

variable {s t u : State}

theorem trans (h : s.FanPrepared t) (k : t.FanPrepared u) : s.FanPrepared u := k ∘ h

theorem either {a b : State} {p : Prop} [Decidable p] (ha : s.FanPrepared a) (hb : s.FanPrepared b) :
    s.FanPrepared (if p then a else b) := by
  split
  · exact ha
  · exact hb

/-- A command of another block, or one that changes timers and counts of the fan alone. -/
theorem aside (hf : (u.fan.state, u.fan.veff) = (s.fan.state, s.fan.veff) := by rfl) (hc : u.cfg = s.cfg := by rfl)
    (hd : u.drives = s.drives := by rfl) : s.FanPrepared u := by
  obtain ⟨hstate, hveff⟩ := Prod.mk.inj hf
  have hmotor : u.motor = s.motor := by unfold State.motor; rw [hc]
  intro h
  constructor <;> simp only [Fan.Turns, hstate, hveff, hmotor, hd]
  · exact h.turning
  · exact h.still
  · exact h.rest

/-- A fan that is put in Off or in Test. -/
theorem stands (hs : u.fan.state = .off ∨ u.fan.state = .test := by exact .inl rfl) (hv : u.fan.veff = 0 := by rfl) :
    s.FanPrepared u := by
  have hno : ¬u.fan.Turns := by rcases hs with h | h <;> simp [Fan.Turns, h]
  exact fun _ => ⟨fun k => absurd k hno, fun _ => hs, fun _ => hv⟩

/-- A fan of a station with a Motor channel whose channels act. -/
theorem driven (hd : s.FanReady → s.motor.isSome = true ∧ s.drives = true) (hr : s.FanReady → ¬u.fan.Turns → u.fan.veff = 0)
    (hc : u.cfg = s.cfg := by rfl) (hs : u.drives = s.drives := by rfl) : s.FanPrepared u := by
  have hmotor : u.motor = s.motor := by unfold State.motor; rw [hc]
  intro h
  obtain ⟨hm, hdrives⟩ := hd h
  refine ⟨fun _ => ⟨by rw [hmotor]; exact hm, hs.trans hdrives⟩, fun k => ?_, hr h⟩
  rw [hs, hdrives] at k; cases k

end State.FanPrepared

/-- Test of the Motor channel puts the fan in Test (R156). -/
theorem State.enterTest_fanPrepared (s : State) (i : Fin 8) (duty ms : Nat) : s.FanPrepared (s.enterTest i duty ms) := by
  unfold State.enterTest
  dsimp only
  split
  · exact .stands (.inr rfl)
  · exact .either .aside .aside

/-- A command keeps the fan still under a suspension cause, and its target, its cap and its duty computed. -/
def FanFollows (s t : State) : Prop := s.FanOk → t.FanOk

namespace FanFollows

variable {s t : State}

theorem trans {u : State} (h : FanFollows s t) (k : FanFollows t u) : FanFollows s u := k ∘ h

/-- A command of another block, which at most stops the station. -/
theorem beside (hv : t.outputView = s.outputView := by rfl) (hf : t.fan.course = s.fan.course := by rfl)
    (hu : t.up = true → s.up = true := by exact id) : FanFollows s t :=
  fun h => h.of_view hv hf hu

theorem refl (s : State) : FanFollows s s := id

theorem settle {u b : State} {x : Bool} (h : s.FanPrepared u) : FanFollows s (u.settle b x) :=
  fun hs => State.settle_fanOk (h hs.ready) b x

/-- Hand-ons over a change of other blocks. -/
theorem settleAside {u b : State} {x : Bool} (hf : (u.fan.state, u.fan.veff) = (s.fan.state, s.fan.veff) := by rfl)
    (hc : u.cfg = s.cfg := by rfl) (hd : u.drives = s.drives := by rfl) : FanFollows s (u.settle b x) :=
  .settle (.aside hf hc hd)

/-- A station that stops puts its fan in Off. -/
theorem stop (hu : t.up = false) (hs : t.fan.state = .off := by rfl) (hv : t.fan.veff = 0 := by rfl) : FanFollows s t := by
  have hno : ¬t.fan.Turns := by simp [Fan.Turns, hs]
  exact fun _ => ⟨fun k => absurd k hno, fun _ _ k => absurd k hno, fun _ => .inl hs, fun _ => hv, State.not_up hu,
    State.not_up hu, State.not_up hu⟩

theorem either {a b : State} {p : Prop} [Decidable p] (ha : FanFollows s a) (hb : FanFollows s b) :
    FanFollows s (if p then a else b) := by
  split
  · exact ha
  · exact hb

theorem ite {a : State} {p : Prop} [Decidable p] (h : p → FanFollows s a) : FanFollows s (if p then a else s) := by
  split
  · exact h ‹_›
  · exact .refl s

/-! ## The line, received frames and the orders of a restart -/

theorem requestStatus (s : State) : FanFollows s s.requestStatus := by
  obtain ⟨_, h⟩ := s.requestStatus_frame
  rw [h]; exact .beside

theorem requestAnnounce (s : State) : FanFollows s s.requestAnnounce := by
  obtain ⟨_, h⟩ := s.requestAnnounce_frame
  rw [h]; exact .beside

theorem reloadQuiet (s : State) : FanFollows s s.reloadQuiet := .ite fun _ => .beside

theorem takeLine (s : State) : FanFollows s s.takeLine := by
  rcases s.takeLine_cases with h | ⟨_, _, _, _, _, _, h⟩ <;> rw [h]
  · exact .refl s
  · exact .beside

theorem raiseObjection (s : State) : FanFollows s s.raiseObjection := .either (.refl s) .beside

theorem findDuplicate (s : State) : FanFollows s s.findDuplicate := by
  obtain ⟨_, _, h⟩ := s.findDuplicate_frame
  rw [h]; exact .beside

theorem orderRestart (s : State) : FanFollows s s.orderRestart :=
  .beside rfl rfl (State.not_up s.orderRestart_up)

theorem orderIfLeft (s : State) (q : Queue) : FanFollows s (s.orderIfLeft q) := .ite fun _ => .orderRestart s

theorem attemptFailed (hu : s.up = true) (f : InFlight) : FanFollows s (s.attemptFailed f) := by
  obtain ⟨_, _, _, _, h⟩ := s.attemptFailed_frame f
  rw [h]; exact .beside rfl rfl fun _ => hu

theorem attempt {g : InFlight → State} (h : s.up = true → ∀ f, FanFollows s (g f)) :
    FanFollows s (match s.line.inFlight with | some f => if s.up then g f else s | none => s) := by
  cases s.line.inFlight with
  | none => exact .refl s
  | some f => exact .ite fun hu => h hu f

/-- A FLASH at the end of its slot aligns the cycle, and the hand-ons follow, or leaves the fan (R112). -/
theorem flashHanded (h : FanFollows s t) (hp : s.FanPrepared t) (b : State) (c : FlashContent) :
    FanFollows s (t.flashHanded b c) := by
  obtain ⟨_, _, ha⟩ := t.alignTo_frame c
  refine .either (.settle (hp.trans ?_)) h
  rw [ha]
  exact .aside

theorem attemptSuccess (s : State) (f : InFlight) : FanFollows s (if f.kind = .flash
    then ((s.withLine (s.line.succeed f)).orderIfLeft s.line.queue).flashHanded s (decodeFlash (f.content.headD 0))
    else (s.withLine (s.line.succeed f)).orderIfLeft s.line.queue) := by
  have hleft : FanFollows s ((s.withLine (s.line.succeed f)).orderIfLeft s.line.queue) :=
    FanFollows.trans .beside (.orderIfLeft _ _)
  exact .either (.flashHanded hleft (.either .aside .aside) _ _) hleft

theorem takeFlash (s b : State) (n : Nat) (byte : Byte) : FanFollows s (s.takeFlash b n byte) := by
  obtain ⟨_, _, h⟩ := s.flashTaken_frame n byte
  rw [State.takeFlash_eq, h]
  exact .settleAside

theorem takeStatus (s b : State) (n : Nat) (p : List Byte) : FanFollows s (s.takeStatus b n p) := by
  refine .ite fun _ => ?_
  split
  · exact .settleAside
  · exact .beside

theorem takeAnnounce (s b : State) (n : Nat) (p : List Byte) : FanFollows s (s.takeAnnounce b n p) := by
  unfold State.takeAnnounce
  split
  · exact .refl s
  · exact .settleAside

theorem receive {hand : State → State} (n : Fin 16) (format : Bool) (h : ∀ t : State, FanFollows t (hand t)) :
    FanFollows s (s.receive n format hand) := by
  have hbusy : FanFollows s (s.setView .busy) := .beside
  rcases s.receive_cases n format hand with ⟨-, e⟩ | ⟨-, -, e⟩ | ⟨-, -, e⟩ <;> rw [e]
  · exact .refl s
  · exact hbusy.trans (.raiseObjection _)
  · obtain ⟨_, _, hd⟩ := (s.setView .busy).duplicateCheck_frame n
    rw [hd]
    exact FanFollows.trans .beside (h _)

/-! ## SERVICE commands -/

theorem service {n : Fin 16} {broadcast : Bool} {args : List Byte} {serve : State → State}
    (h : ∀ t : State, FanFollows t (serve t)) : FanFollows s (s.service n broadcast args fun t => t.withSlot serve) := by
  have hbusy : FanFollows s (s.setView .busy) := .beside
  have hheard : FanFollows s ((s.setView .busy).heard n) := hbusy.trans (.ite fun _ => .reloadQuiet _)
  rcases s.service_cases n broadcast args (fun t => t.withSlot serve) with
    ⟨-, e⟩ | ⟨-, -, e⟩ | ⟨-, -, -, e⟩ | ⟨-, -, -, e⟩ <;> rw [e]
  · exact .refl s
  · exact hbusy.trans (.raiseObjection _)
  · exact hheard
  · exact hheard.trans (.either .beside (h _))

theorem serveIdentify (s : State) (args : List Byte) : FanFollows s (s.serveIdentify args) :=
  .either (FanFollows.trans .beside (.requestAnnounce _)) .beside

theorem serveRead (s : State) (args : List Byte) : FanFollows s (s.serveRead args) := by
  unfold State.serveRead
  split
  · split <;> exact .beside
  · exact .beside

theorem serveFaultCall (s : State) (n : Fin 16) (args : List Byte) : FanFollows s (s.serveFaultCall n args) := by
  refine .either ?_ .beside
  split
  · exact .beside
  · exact .ite fun _ => .beside

theorem serveFaultAck (s : State) (args : List Byte) : FanFollows s (s.serveFaultAck args) := by
  unfold State.serveFaultAck
  split
  · exact .either .beside .beside
  · exact .beside

/-- Entry to Setup puts the fan in Off (R156). -/
theorem serveSetupEnter (s : State) (args : List Byte) : FanFollows s (s.serveSetupEnter args) := by
  have henter : FanFollows s (s.reply 6 .ok []).enterSetup := by
    rw [State.enterSetup_eq]
    exact .settle .stands
  exact .either .beside (.either .beside (.either henter .beside))

theorem serveStoreWrite (s : State) (c base : Nat) (args : List Byte) : FanFollows s (s.serveStoreWrite c base args) := by
  refine .either .beside (.either .beside ?_)
  split <;> exact .beside

theorem serveStoreCommit (s : State) (args : List Byte) : FanFollows s (s.serveStoreCommit args) := by
  refine .either .beside (.either .beside (.either .beside ?_))
  split <;> exact .beside

theorem serveTestOutput (s b : State) (args : List Byte) : FanFollows s (s.serveTestOutput b args) := by
  unfold State.serveTestOutput
  split
  · exact .beside
  · split
    · exact .settle (State.FanPrepared.trans .aside (State.enterTest_fanPrepared _ _ _ _))
    · exact .beside

theorem replyRestart (s : State) (c : Nat) : FanFollows s (s.replyRestart c) :=
  .either (FanFollows.trans .beside (.orderRestart _)) .beside

end FanFollows

end Sys2Proof.Machine
end

section
namespace Sys2Proof.Machine

set_option Elab.async false

/-! ## Trips and samples -/

/-- The Motor channel trips from Test to Off, or while it turns, so that channels act (R103, R151). -/
theorem State.trip_fanPrepared {s : State} {i : Fin 8} (h : s.hardApplies i = true ∨ s.overApplies i = true) :
    s.FanPrepared (s.trip i) := by
  rcases s.trip_ways i with ⟨hm, hf⟩ | ⟨hm, hf⟩ | ⟨hm, hc⟩ | ⟨hm, hc⟩
  · rw [State.trip_motorTest hm hf]; exact .stands
  · rw [State.hardApplies_motor hm, State.overApplies_motor hm] at h
    have hturns : s.fan.Turns := by simpa [hf, or_assoc] using h
    rw [State.trip_motor hm hf]
    refine .driven (fun k => k.turning hturns) fun _ _ => ?_
    unfold Fan.trip
    split <;> rfl
  · rw [State.trip_test hm hc]; exact .aside
  · rw [State.trip_other hm hc]; exact .aside

theorem State.judgeStall_fanPrepared (s : State) (i : Fin 8) : s.FanPrepared (s.judgeStall i) := .either .aside .aside

theorem State.currentCompleted_fanPrepared (s : State) (i : Fin 8) : s.FanPrepared (s.currentCompleted i) := by
  have hbulb (t : State) : t.FanPrepared (t.checkBulb i) := by
    refine .either (.either ?_ .aside) .aside
    rw [State.bulbOut_frame]
    exact .aside
  exact State.FanPrepared.trans .aside ((State.judgeStall_fanPrepared _ i).trans (hbulb _))

theorem State.judgeThermal_fanPrepared (s : State) : s.FanPrepared s.judgeThermal :=
  .either (.either .aside .aside) (.either .aside .aside)

theorem State.drainStep_fanPrepared (s : State) : s.FanPrepared s.drainStep := by
  unfold State.drainStep
  split
  · exact .aside
  · exact .either (.either .aside .aside) .aside

theorem State.senderCompleted_fanPrepared (s : State) (n : Fin 4) : s.FanPrepared (s.senderCompleted n) := by
  have hquiet (t : State) : t.FanPrepared t.reloadQuiet := .either .aside .aside
  have hlocal (t : State) : t.FanPrepared t.recomputeLocal := .aside
  unfold State.senderCompleted
  dsimp only
  refine State.FanPrepared.trans ?_ (hlocal _)
  refine .either (State.FanPrepared.trans ?_ (hquiet _)) ?_ <;> exact .either .aside .aside

/-! ## The fan's own timers (R146, R150 to R152) -/

theorem Fan.rampStep_standing {f : Fan} (h : f.state ≠ .ramping) (target rate : Nat) : f.rampStep target rate = f := if_neg h

theorem Fan.rampStep_ramping {f : Fan} (h : f.state = .ramping) {target rate v : Nat}
    (hv : v = if f.veff < target then min (f.veff + rate) target else max (f.veff - rate) target) :
    f.rampStep target rate =
      if v = target ∧ 0 < target then { f with veff := v, state := .running, runTimer := some 10000 }
      else if v = 0 ∧ target = 0 then f.rest .off else { f with veff := v } := by
  subst hv; exact if_pos h

/-- A ramping fan goes on turning, or stops with no effective voltage (R146). -/
theorem Fan.rampStep_rest {f : Fan} (h : f.state = .ramping) (target rate : Nat) :
    (f.rampStep target rate).Turns ∨ (f.rampStep target rate).veff = 0 := by
  generalize hv : (if f.veff < target then min (f.veff + rate) target else max (f.veff - rate) target) = v
  rw [Fan.rampStep_ramping h hv.symm]
  split
  · exact .inl (.inr rfl)
  · split
    · exact .inr rfl
    · exact .inl (.inl h)

theorem State.rampStep_fanPrepared (s : State) (target rate : Nat) :
    s.FanPrepared (s.withFan { s.fan.rampStep target rate with ramp := some 100 }) := by
  by_cases hs : s.fan.state = .ramping
  · exact .driven (fun h => h.turning (.inl hs)) fun _ => (Fan.rampStep_rest hs target rate).resolve_left
  · rw [Fan.rampStep_standing hs]; exact .aside

theorem Fan.stall_veff (f : Fan) : f.stall.veff = 0 := by
  unfold Fan.stall
  dsimp only
  split <;> rfl

/-- A Stalled or Tripped fan stands where channels act, and a Motor channel alone leaves its wait (R151, R152). -/
theorem State.fanAfterWait_prepared {s : State} (h : s.fan.state = .stalled ∨ s.fan.state = .tripped) :
    s.FanPrepared (s.withFan s.fanAfterWait) := by
  cases hm : s.motor with
  | none =>
    have hsame : s.fanAfterWait = s.fan := by unfold State.fanAfterWait; rw [hm]
    rw [hsame]; exact .aside
  | some m =>
    refine .driven (fun k => ⟨by rw [hm]; rfl, ?_⟩) fun _ _ => ?_
    · by_contra hd
      rcases k.still (Bool.eq_false_of_not_eq_true hd) with r | r <;> rcases h with h | h <;> cases h.symm.trans r
    · rw [State.withFan_fan]
      unfold State.fanAfterWait
      rw [hm]
      dsimp only
      split
      · rfl
      · split <;> rfl

namespace FanFollows

theorem sampleChannel (s : State) (i : Fin 8) (x : Int) (beyond : Bool) : FanFollows s (s.sampleChannel i x beyond) := by
  have hdone (t : State) (trips done : Bool) (ht : done = false → FanFollows s t) (hp : s.FanPrepared t)
      (hl : trips = true → t.hardApplies i = true) : FanFollows s (if trips || done
        then (if done then (if trips then t.trip i else t).currentCompleted i else if trips then t.trip i else t).settle s false
        else if done then (if trips then t.trip i else t).currentCompleted i else if trips then t.trip i else t) := by
    have htrip : s.FanPrepared (if trips then t.trip i else t) := by
      split
      · rename_i k; exact hp.trans (State.trip_fanPrepared (.inl (hl k)))
      · exact hp
    split
    · exact .settle (.either (htrip.trans (State.currentCompleted_fanPrepared _ i)) htrip)
    · rename_i h
      obtain ⟨rfl, rfl⟩ : trips = false ∧ done = false := by simpa using h
      exact ht rfl
  refine hdone (s.withMeas _) _ _ (fun h => .beside (State.setCurrent_view ?_)) .aside fun h => ?_
  · exact Record.take_unfinished (ne_true_of_eq_false h)
  · exact (Bool.and_eq_true_iff.mp h).2

theorem sampleInput (s : State) (input : SlotInput) (x : Int) (beyond : Bool) :
    FanFollows s (s.sampleInput input x beyond) := by
  cases input with
  | supply =>
    show FanFollows s (s.sampleSupply x beyond)
    unfold State.sampleSupply
    dsimp only
    split
    · exact .settleAside
    · rename_i h
      exact .beside (congrArg (fun v => { s.outputView with voltage := v }) (Record.take_unfinished h))
  | die =>
    show FanFollows s (s.sampleDie x beyond)
    unfold State.sampleDie
    dsimp only
    split
    · exact .settle (State.FanPrepared.trans .aside (State.judgeThermal_fanPrepared _))
    · exact .beside
  | battery => exact .ite fun _ => .either .settleAside .beside
  | channel i => exact .sampleChannel s i x beyond
  | sender n =>
    show FanFollows s (s.sampleSender n x beyond)
    unfold State.sampleSender
    dsimp only
    split
    · exact .settle (State.FanPrepared.trans .aside (State.senderCompleted_fanPrepared _ n))
    · exact .beside

theorem halfTimer (s : State) : FanFollows s
    (match s.flash.phase, s.flash.sides with
      | .on, _ => s.enterFlashOff.settle s false
      | .off, some x => (s.enterFlashOn x .expiry).settle s true
      | .off, none => s
      | .idle, _ => s) := by
  split
  · exact .settleAside
  · refine .settleAside (by simp) (by simp) (State.drives_congr (by simp) (by simp))
  · exact .refl s
  · exact .refl s

/-! ## Sleep, resets and wakes -/

theorem enterAsleep (s : State) : FanFollows s s.enterAsleep := by
  rw [State.enterAsleep_eq]
  exact FanFollows.trans (.stop s.asleep_up) (.orderIfLeft _ _)

/-- Entry to Starting from the fan's initial value (R156). -/
theorem enterStarting {u : State} (hf : u.fan = Fan.init) (announce : Bool) : FanFollows s (u.enterStarting announce) := by
  have hsettled : FanFollows s (u.atStart.settle u.atStart false) :=
    .settle (.stands (.inl (congrArg Fan.state hf)) (congrArg Fan.veff hf))
  have hstatus := hsettled.trans (.requestStatus _)
  rw [State.enterStarting_eq]
  exact .either (hstatus.trans (.requestAnnounce _)) hstatus

theorem takeReset (s u : State) (p : StrapPins) (v : Supply) (c : ResumeCause) : FanFollows s (u.takeReset p v c) := by
  rw [State.takeReset_eq]
  exact .enterStarting rfl true

theorem wakeUp (s : State) (c : ResumeCause) (i : Option Nat) : FanFollows s (s.wakeUp c i) := by
  rw [State.wakeUp_eq]
  exact .enterStarting rfl false

/-- The join window ends with the channels acting as before (R156, R176). -/
theorem joinWindow {v : Supply} (h : s.ctl.state = .starting) : FanFollows s
    (((if s.res.ign then (s.withCtl { s.ctl with join := none }).enterAwake
      else (s.withCtl { s.ctl with join := none }).enterStandby).withSupply v).settle s false) := by
  have hacts (t : State) (hn : t.straps = s.straps) (ht : t.ctl.state = .awake ∨ t.ctl.state = .standby) :
      t.drives = s.drives := by
    rcases ht with ht | ht <;> simp [State.drives, State.strapInvalid, hn, ht, h]
  cases s.res.ign with
  | true => exact .settleAside rfl rfl (hacts _ rfl (.inl rfl))
  | false => exact .settleAside rfl rfl (hacts _ rfl (.inr rfl))

end FanFollows

end Sys2Proof.Machine
end

section
namespace Sys2Proof.Machine

set_option Elab.async false

/-! ## Every command -/

/-- Every command leaves what the fan's invariant reads, or is followed by the hand-ons, or stops or starts the station. -/
theorem exec_fanFollows (c : Instr) (s : State) : ∃ t, exec c s = .next t ∧ FanFollows s t := by
  cases c with
  | lineBreak | truncatedFrame | statusSpacingEnd | lineIdle | passTimer | spinUpGraceExpiry | inputWake | ignWake
  | wakePulseEnd | stationClockTick | gaugeUpdate => exact ⟨_, rfl, .ite fun _ => .beside⟩
  | persistenceTimerExpiry | crankReleaseExpiry | holdTimerEnd | deferralEnd | ignDebounceExpiry | holdTimerExpiry
  | retryWaitExpiry => exact ⟨_, rfl, .ite fun _ => .settleAside⟩
  | rampUpdate => exact ⟨_, rfl, .ite fun _ => .settle (s.rampStep_fanPrepared _ _)⟩
  | stallWaitExpiry => exact ⟨_, rfl, .ite fun h => .settle (State.fanAfterWait_prepared (.inl h.2.1))⟩
  | fanRetryWaitExpiry => exact ⟨_, rfl, .ite fun h => .settle (State.fanAfterWait_prepared (.inr h.2.1))⟩
  | stallTimerExpiry =>
    refine ⟨_, rfl, .ite fun h => .settle ?_⟩
    have hstalled (t : State) (hf : t.fan = s.fan.stall := by rfl) (hc : t.cfg = s.cfg := by rfl)
        (hd : t.drives = s.drives := by rfl) : s.FanPrepared t :=
      .driven (fun k => k.turning h.2.1) (fun _ _ => by rw [hf]; exact s.fan.stall_veff) hc hd
    exact .either (hstalled _) (hstalled _)
  | joinWindowExpiry => exact ⟨_, rfl, .ite fun h => .joinWindow h.2.2.1⟩
  | inrushWindowExpiry i => exact ⟨_, rfl, .ite fun _ => .settle (.either .aside .aside)⟩
  | runTimerExpiry i => exact ⟨_, rfl, .ite fun _ => .beside (State.setChannel_view rfl rfl rfl)⟩
  | overTimerExpiry i => exact ⟨_, rfl, .ite fun h => .settle (State.trip_fanPrepared (.inr h.2.1))⟩
  | openLoadTimerExpiry i =>
    refine ⟨_, rfl, .ite fun _ => ?_⟩
    have hflag : FanFollows s (s.setChannel i
        { s.out.channels[i] with openTimer := none, openFlag := !s.out.channels[i].openFlag }) :=
      .beside (State.setChannel_view rfl rfl rfl)
    exact .either hflag (hflag.trans .beside)
  | testDurationExpiry i => exact ⟨_, rfl, .ite fun _ => .settle (.either .stands .aside)⟩
  | fanRunTimerExpiry =>
    refine ⟨_, rfl, .ite fun _ => ?_⟩
    dsimp only
    split
    · exact FanFollows.trans (t := s.withFan { s.fan with runTimer := none }) .beside
        (.beside (State.setChannel_view rfl rfl rfl))
    · exact .beside
  | switchRawChange | ignPinChange => exact ⟨_, rfl, .either .beside .beside⟩
  | debounceExpiry =>
    refine ⟨_, rfl, .ite fun _ => .settle ?_⟩
    have hlocal (t : State) : t.FanPrepared t.recomputeLocal := .aside
    refine State.FanPrepared.trans (.either ?_ .aside) (hlocal _)
    exact State.FanPrepared.trans .aside (.either .aside .aside)
  | joinStartBit => exact ⟨_, rfl, .either .beside (.takeLine s)⟩
  | frameOffer => exact ⟨_, rfl, .takeLine s⟩
  | arbitrationLoss => exact ⟨_, rfl, .attempt fun _ _ => .beside⟩
  | collision =>
    refine ⟨_, rfl, .attempt fun hu f => ?_⟩
    have hf : FanFollows s ((s.withLine s.line.countCollision).attemptFailed f) :=
      FanFollows.trans .beside (.attemptFailed (by exact hu) f)
    exact .either (hf.trans (.findDuplicate _)) hf
  | attemptObjected => exact ⟨_, rfl, .attempt fun hu f => FanFollows.trans .beside (.attemptFailed (by exact hu) f)⟩
  | attemptSuccess => exact ⟨_, rfl, .attempt fun _ f => .attemptSuccess s f⟩
  | objectedFrame =>
    refine ⟨_, rfl, .ite fun _ => ?_⟩
    have hbusy : FanFollows s (s.setView .busy) := .beside
    have hobj (b : Bool) : FanFollows s (if b then (s.setView .busy).raiseObjection else s.setView .busy) :=
      .either (hbusy.trans (.raiseObjection _)) hbusy
    exact .either ((hobj _).trans .beside) (hobj _)
  | statusFrame n p => exact ⟨_, rfl, .receive n _ fun t => .takeStatus t s _ p⟩
  | announceFrame n p => exact ⟨_, rfl, .receive n _ fun t => .takeAnnounce t s _ p⟩
  | flashFrame n p => exact ⟨_, rfl, .receive n _ fun t => .takeFlash t s _ _⟩
  | replyFrame n => exact ⟨_, rfl, .receive n _ fun t => .refl t⟩
  | stuckLine =>
    refine ⟨_, rfl, .ite fun _ => ?_⟩
    dsimp only
    split <;> exact .beside
  | isolationWaitExpiry => exact ⟨_, rfl, .ite fun _ => FanFollows.trans .beside (.requestStatus _)⟩
  | periodicStatusTimer => exact ⟨_, rfl, .ite fun _ => (FanFollows.requestStatus s).trans .beside⟩
  | ageingTimerExpiry n =>
    refine ⟨_, rfl, ?_⟩
    split
    · exact .ite fun _ => .settleAside
    · exact .refl s
  | sample =>
    refine ⟨_, rfl, ?_⟩
    split
    · exact .ite fun _ => FanFollows.trans .beside (.sampleInput _ _ _ _)
    · exact .refl s
  | halfTimerExpiry => exact ⟨_, rfl, .ite fun _ => .halfTimer s⟩
  | drainTick => exact ⟨_, rfl, .ite fun _ => .settle (s.drainStep_fanPrepared.trans .aside)⟩
  | powerFail => exact ⟨_, rfl, .ite fun _ => .stop rfl⟩
  | powerOnReset => exact ⟨_, rfl, .takeReset s _ _ _ _⟩
  | serviceRestart => exact ⟨_, rfl, .ite fun _ => .takeReset s _ _ _ _⟩
  | quietTimerExpiry => exact ⟨_, rfl, .ite fun _ => .either (.enterAsleep s) (.reloadQuiet s)⟩
  | lineWake | wakeWaitExpiry => exact ⟨_, rfl, .ite fun _ => .wakeUp s _ _⟩
  | identify => exact ⟨_, rfl, .service fun t => .serveIdentify t _⟩
  | read => exact ⟨_, rfl, .service fun t => .serveRead t _⟩
  | faultCall => exact ⟨_, rfl, .service fun t => .serveFaultCall t _ _⟩
  | faultAck => exact ⟨_, rfl, .service fun t => .serveFaultAck t _⟩
  | faultClear => exact ⟨_, rfl, .service fun _ => .either .beside .beside⟩
  | setupEnter => exact ⟨_, rfl, .service fun t => .serveSetupEnter t _⟩
  | storeWriteLowHalf | storeWriteHighHalf => exact ⟨_, rfl, .service fun t => .serveStoreWrite t _ _ _⟩
  | storeCommit => exact ⟨_, rfl, .service fun t => .serveStoreCommit t _⟩
  | programmingEnd => exact ⟨_, rfl, .ite fun _ => .either .beside .beside⟩
  | testOutput => exact ⟨_, rfl, .service fun t => .serveTestOutput t s _⟩
  | setupExit => exact ⟨_, rfl, .service fun t => .either .beside (.either .beside (.replyRestart t _))⟩
  | restart => exact ⟨_, rfl, .service fun t => .either .beside (.replyRestart t _)⟩
  | unknownCommand => exact ⟨_, rfl, .either (.refl s) (.service fun _ => .beside)⟩

theorem step_fanFollows {s t : State} (hs : step s = .next t) : FanFollows s t := by
  rcases step_cases s with ⟨-, e⟩ | ⟨c, rest, -, e⟩
  · cases e.symm.trans hs
    exact .refl s
  · obtain ⟨u, hu, hf⟩ := exec_fanFollows c (s.withPending rest)
    cases (e.trans hu).symm.trans hs
    exact FanFollows.trans .beside hf

/-- Settles O12: the hand-ons compute the fan's target, cap and duty and stand it under its causes, and a command without
hand-ons leaves what they rest on. -/
theorem stepKeepsFan : Obligations.StepKeepsFan := fun _ _ h hs => step_fanFollows hs h

end Sys2Proof.Machine
end

section
/-! PROOFS. The ramp update of the fan (R146, R149). -/

namespace Sys2Proof.Machine

set_option Elab.async false

theorem fanVoltage_eq (c : WorkingConfig) (step : Nat) :
    fanVoltage c step = if step = 0 then 0 else if step = 1 then c.v1 else if step = 2 then c.v2 else c.v3 := by
  match step with
  | 0 | 1 | 2 | _ + 3 => rfl

/-- A fan whose update changes nothing of it but the timer, or moves its effective voltage: to its target, to rest or on. -/
theorem Fan.rampStep_cases {f g : Fan} {target rate v : Nat}
    (hv : v = if f.veff < target then min (f.veff + rate) target else max (f.veff - rate) target)
    (h : (f.state ≠ .ramping ∧ g = f) ∨
      (f.state = .ramping ∧ v = target ∧ 0 < target ∧ g = { f with veff := v, state := .running, runTimer := some 10000 }) ∨
      (f.state = .ramping ∧ v = 0 ∧ target = 0 ∧ g = f.rest .off) ∨
      (f.state = .ramping ∧ v ≠ target ∧ g = { f with veff := v })) : f.rampStep target rate = g := by
  rcases h with ⟨hs, hg⟩ | ⟨hs, hreach, hpos, hg⟩ | ⟨hs, hzero, htarget, hg⟩ | ⟨hs, hmoves, hg⟩
  · rw [hg, Fan.rampStep_standing hs]
  · rw [hg, Fan.rampStep_ramping hs hv, if_pos ⟨hreach, hpos⟩]
  · rw [hg, Fan.rampStep_ramping hs hv, if_neg (by omega), if_pos ⟨hzero, htarget⟩]
  · rw [hg, Fan.rampStep_ramping hs hv, if_neg (by omega), if_neg (by omega)]

/-- Settles O43: the four cases of the ramp update, each followed by the hand-ons. -/
theorem rampUpdateMoves : Obligations.RampUpdateMoves := by
  intro s u f target v hup hramp htarget hv hcases hu
  have hstep : s.fan.rampStep (fanVoltage s.cfg s.fan.target) s.cfg.rampRate = f := by
    rw [fanVoltage_eq, ← htarget]
    exact Fan.rampStep_cases hv hcases
  subst hu hstep
  exact ⟨congrArg Host.Outcome.next (if_pos ⟨hup, hramp⟩), State.settle_handedOn _ s false⟩

end Sys2Proof.Machine
end

section
/-! PROOFS. The fan's timers and waits, stall detection, and the fan in the hand-ons by its state (R145, R148 to R155). -/

namespace Sys2Proof.Machine

set_option Elab.async false

/-! ## The run timer and stall detection (R149, R150) -/

theorem execFanRunTimerExpiry_next {s : State} {m : Fin 8} (hup : s.up = true) (hm : s.motor = some m)
    (hrun : s.fan.runTimer.isSome = true) : exec .fanRunTimerExpiry s = .next { s with
      fan := { s.fan with runTimer := none }
      out := { s.out with channels := s.out.channels.set m { s.out.channels[m] with retry := 0 } } } := by
  refine congrArg Host.Outcome.next ((if_pos ⟨hup, hrun⟩).trans ?_)
  dsimp only
  rw [hm]
  rfl

/-- Stall detection in a turning Motor channel: outside the grace the stall timer runs above the stall limit (R150). -/
theorem State.judgeStall_turning {s : State} {m : Fin 8} (hm : s.cfg.channels[m].kind = .motor) (hf : s.fan.Turns)
    {above : Bool} (ha : above = true ↔ (s.cfg.stallLimit : Int) < s.meas.channels[m].base.avg ∨
      s.meas.channels[m].base.overRange = true) :
    s.judgeStall m = s.withFan { s.fan with
      stallTimer := if s.fan.grace.isSome = true then s.fan.stallTimer
        else if above then some (s.fan.stallTimer.getD 1500) else none } := by
  have habove : (s.meas.channels[m].base.overRange || decide ((s.cfg.stallLimit : Int) < s.meas.channels[m].base.avg)) =
      above := by
    rw [Bool.eq_iff_iff, ha, Bool.or_eq_true, decide_eq_true_iff, or_comm]
  unfold State.judgeStall
  dsimp only
  rw [habove]
  by_cases hgrace : s.fan.grace = none
  · rw [if_pos ⟨(s.isMotor_iff m).mpr hm, hf, hgrace⟩, if_neg (by rw [hgrace]; nofun)]
    unfold overTimerAt
    cases s.fan.stallTimer <;> rfl
  · rw [if_neg fun k => hgrace k.2.2, if_pos (Option.isSome_iff_ne_none.mpr hgrace)]
    rfl

/-- A sample that completes the block of a turning Motor channel within its limits (R64 to R66, R150). -/
theorem execSample_turning {s : State} {m : Fin 8} (hup : s.up = true) (hm : s.motor = some m) (hf : s.fan.Turns)
    (hslot : s.meas.slot = some (3 + m.val)) (hlast : s.cfg.ni ≤ s.meas.channels[m].base.count + 1) {x v : Int}
    (hv : v = roundDiv (s.meas.channels[m].base.sum + x) s.cfg.ni) (h0 : 0 ≤ x) (h400 : x ≤ 400)
    (hlimit : x ≤ s.cfg.channels[m].hardLimit)
    (hbulb : s.meas.channels[m].mark = .restarted → (s.cfg.channels[m].openLimit : Int) ≤ v) {above : Bool}
    (ha : above = true ↔ (s.cfg.stallLimit : Int) < v ∨ s.meas.channels[m].base.sumOver = true) :
    exec (.sample x) s = .next (State.settle { s with
      meas := s.meas.currentCompleted m x s.cfg.ni
      fan := { s.fan with stallTimer := if s.fan.grace.isSome = true then s.fan.stallTimer
        else if above then some (s.fan.stallTimer.getD 1500) else none } } s false) := by
  have hx : max 0 (min 400 x) = x := by omega
  have hwithin : ¬(x < 0 ∨ 400 < x ∨ s.cfg.channels[m].hardLimit < x) := by
    rintro (k | k | k)
    · omega
    · omega
    · exact absurd hlimit (not_le.mpr k)
  have hkind := State.motor_kind hm
  have hexec := (execSample_channel hup hslot x (trips := false) (iff_of_false nofun fun k => hwithin k.1)).2 hlast
  rw [if_neg Bool.false_ne_true] at hexec
  obtain ⟨-, havg, hover⟩ := s.meas.currentTaken_get m x s.cfg.ni
  rw [hx, ← hv] at havg
  rw [decide_eq_false (by omega), Bool.or_false] at hover
  set w := s.withMeas (s.meas.currentTaken m x s.cfg.ni)
  have htimed : w.overApplies m = false := by
    rw [← Bool.not_eq_true, State.overApplies_motor (s := w) hkind]
    intro k
    rcases hf with r | r <;> cases r.symm.trans k
  have hstall := State.judgeStall_turning (s := w) (m := m) hkind hf (above := above) (by
    rw [show w.meas.channels[m].base.avg = v from havg, show w.meas.channels[m].base.overRange = _ from hover]; exact ha)
  rw [hexec]
  unfold State.currentCompleted
  rw [State.compareCurrent_inert htimed fun k => absurd hkind k, hstall]
  exact congrArg (fun u : State => Host.Outcome.next (u.settle s false)) (State.checkBulb_taken (s := s.withFan _)
    fun k => by rw [hx, ← hv]; exact hbulb k)

theorem Fan.stall_again {f : Fan} (h : f.stallCount + 1 < 3) :
    f.stall = { f.rest .stalled with stallCount := f.stallCount + 1, stallWait := some 5000 } := by
  have hcount : satInc 3 f.stallCount = f.stallCount + 1 := min_eq_left (by omega)
  unfold Fan.stall
  rw [hcount]
  exact if_neg (by omega)

theorem Fan.stall_last {f : Fan} (h : 3 ≤ f.stallCount + 1) : f.stall = { f.rest .locked with stallCount := 3 } := by
  have hcount : satInc 3 f.stallCount = 3 := min_eq_right h
  unfold Fan.stall
  rw [hcount]
  rfl

theorem execStallTimerExpiry_next {s : State} {m : Fin 8} (hup : s.up = true) (hm : s.motor = some m) (hf : s.fan.Turns)
    (ht : s.fan.stallTimer.isSome = true) : exec .stallTimerExpiry s = .next ((if 3 ≤ s.fan.stallCount + 1
      then (s.withFan s.fan.stall).addFault .fanLocked (some m.val) else s.withFan s.fan.stall).settle s false) := by
  refine congrArg Host.Outcome.next ((if_pos ⟨hup, hf, ht⟩).trans ?_)
  dsimp only
  rw [hm]
  by_cases h : 3 ≤ s.fan.stallCount + 1
  · have hlocked : s.fan.stall.state = .locked := congrArg Fan.state (Fan.stall_last h)
    rw [if_pos h, if_pos hlocked]; rfl
  · rw [if_neg h, if_neg (by rw [Fan.stall_again (by omega)]; nofun)]

/-! ## The waits and the deferral's end (R151, R152, R155) -/

theorem State.fanAfterWait_motor {s : State} {m : Fin 8} (hm : s.motor = some m) : s.fanAfterWait =
    if s.supply.order s.cfg.channels[m].cls = .shed ∨ s.supply.crank = true then s.fan.hang
    else if s.supply.held s.cfg.channels[m].cls then s.fan.rest .off else s.fan.startRamp false := by
  unfold State.fanAfterWait; rw [hm]

theorem execFanWait_next {s : State} {c : Instr} (hup : s.up = true)
    (hc : (c = .stallWaitExpiry ∧ s.fan.state = .stalled ∧ s.fan.stallWait.isSome = true) ∨
      (c = .fanRetryWaitExpiry ∧ s.fan.state = .tripped ∧ s.fan.retryWait.isSome = true)) :
    exec c s = .next ((s.withFan s.fanAfterWait).settle s false) := by
  rcases hc with ⟨rfl, hs, hw⟩ | ⟨rfl, hs, hw⟩ <;> exact congrArg Host.Outcome.next (if_pos ⟨hup, hs, hw⟩)

/-- Crank hold that comes takes no shed order away (R133). -/
theorem orderOf_crank {e cls : Nat} {crank thermal : Bool} (h : orderOf e crank thermal cls = .shed) (condition : Bool) :
    orderOf e (condition || crank) thermal cls = .shed := by
  cases condition with
  | false => exact h
  | true =>
    by_cases hc : 2 ≤ cls
    · simp [orderOf, hc]
    · simpa [orderOf, hc] using h

/-- The hand-ons over a change of the fan alone leave a class ordered shed where it is, and the resolved step no lower. -/
theorem State.settle_fan_stands {s : State} (hup : s.up = true) (hs : s.SupplyOk) (hr : s.ResolverOk) (g : Fan) (b : State)
    (x : Bool) : (∀ cls, s.supply.order cls = .shed → ((s.withFan g).settle b x).supply.order cls = .shed) ∧
      s.res.fanStep ≤ ((s.withFan g).settle b x).res.fanStep := by
  have hfollows := (s.withFan g).settle_supplyFollows b x
  have hhanded := (s.withFan g).settle_handedOn b x
  have hign : ((s.withFan g).settle b x).res.ign = s.res.ign := (State.settle_res_ign _ b x).trans (hr.ign_eq hup)
  have hup' : ((s.withFan g).settle b x).up = true := (State.settle_up _ b x).trans hup
  have hsupply := (s.withFan g).settle_supplyOk b x
  have hresolver := (s.withFan g).settle_resolverOk b x
  generalize (s.withFan g).settle b x = t at *
  obtain ⟨hb, hc, hd, -⟩ := hfollows.of_ign hign
  have hlocal : t.supply.localLevel = s.supply.localLevel := by
    rw [hsupply.localLevel hup', hs.localLevel hup, hhanded.level, hb, hc, hd]; rfl
  have heffective : t.supply.effective = s.supply.effective := by
    rw [← hsupply.effective_eq hup', ← hs.effective_eq hup, hlocal, hhanded.peers]; rfl
  have hcrank : t.supply.crank = (t.crankCondition || s.supply.crank) := hfollows.crank
  have hthermal : t.supply.thermal = s.supply.thermal := hhanded.thermal
  refine ⟨fun cls ho => ?_, ?_⟩
  · have horders := hs.orders_eq hup
    have horders' := hsupply.orders_eq hup'
    rw [heffective, hcrank, hthermal] at horders'
    unfold Supply.order at ho ⊢
    rw [horders] at ho
    rw [horders']
    split at ho
    · exact orderOf_crank ho _
    · exact orderOf_crank ho _
    · exact orderOf_crank ho _
    · cases ho
  · obtain ⟨hown, hpeers, -⟩ := hresolver.fanStep hup'
    rw [hhanded.sw] at hown
    rw [hhanded.peers] at hpeers
    rcases (hr.fanStep hup).2.2 with h | ⟨r, hmem, hcounts, h⟩
    · rw [h]; exact hown
    · rw [h]; exact hpeers r hmem hcounts

/-- A turning fan without a deferral is suspended under a shed order (R153). -/
theorem State.fanIn_suspended {s t : State} {m : Fin 8} (hd : s.drives = true) (hf : s.fan.Turns)
    (hn : s.fan.deferral = none) (hstep : t.res.fanStep ≠ 0) (ho : t.supply.order s.cfg.channels[m].cls = .shed) :
    (s.fanIn t m).state = .suspended := by
  have htarget (capped : Bool) : fanTarget t.res.fanStep capped ≠ 0 := by
    unfold fanTarget; split <;> omega
  have hact (f : Fan) (k : f.Turns) (r : f.deferral = none) (ht : f.target ≠ 0) :
      (f.act s.fan.target true t.supply.crank (t.supply.held s.cfg.channels[m].cls)).state = .suspended := by
    rw [Fan.act_turning (falls := false) k (iff_of_false nofun fun j => ht j.1), if_pos (.inr ⟨rfl, .inl r⟩), Fan.suspend,
      if_neg ht]
    rfl
  unfold State.fanIn
  dsimp only
  rw [if_pos hd, decide_eq_true ho]
  exact hact _ hf hn (htarget _)

/-- As the deferral ends under a shed cause the hand-ons suspend a turning fan (R155). -/
theorem State.deferralEnd_suspends {s : State} {m : Fin 8} (hup : s.up = true) (hm : s.motor = some m) (hs : s.SupplyOk)
    (hr : s.ResolverOk) (hd : s.drives = true) (hf : s.fan.Turns) (hstep : s.res.fanStep ≠ 0)
    (ho : s.supply.order s.cfg.channels[m].cls = .shed) (b : State) (x : Bool) :
    ((s.withFan { s.fan with deferral := none }).settle b x).fan.state = .suspended := by
  obtain ⟨horder, hle⟩ := State.settle_fan_stands hup hs hr { s.fan with deferral := none } b x
  rw [State.settle_fan (s := s.withFan { s.fan with deferral := none }) b x hm]
  exact State.fanIn_suspended hd hf rfl (by omega) (horder _ ho)

/-! ## The fan in the hand-ons -/

/-- What a turning fan does by its causes and its target: it is suspended, comes to rest, or goes on (R149, R153, R155). -/
theorem Fan.act_turning_eq {f : Fan} (hs : f.Turns) {before : Nat} {shed crank hold falls stops : Bool}
    (hfalls : falls = true ↔ f.target = 0 ∧ before ≠ 0)
    (hstops : stops = true ↔ crank = true ∨ (shed = true ∧ (f.deferral = none ∨ falls = true))) :
    f.act before shed crank hold =
      if stops = true ∧ f.target = 0 then f.rest .off
      else if stops = true then f.hang
      else { f with
        deferral := if falls then none else f.deferral
        state := if f.target ≠ before then .ramping else f.state
        runTimer := if f.state = .running ∧ f.target ≠ before then none else f.runTimer } := by
  rw [Fan.act_turning hs hfalls, Fan.turn_eq hs]
  by_cases k : stops = true
  · rw [if_pos (hstops.mp k), if_congr (and_iff_right k) rfl rfl, if_pos k]
    rfl
  · rw [if_neg (mt hstops.mpr k), if_neg (show ¬(stops = true ∧ f.target = 0) from fun r => k r.1),
      if_neg k, if_congr hfalls.symm rfl rfl]

/-- The fan in the hand-ons, its causes, its cap and its target named as the obligations name them (R145, R153, R155). -/
theorem State.settle_fan_act {s t : State} {m : Fin 8} (hm : s.motor = some m) (hd : s.drives = true) {b : State} {x : Bool}
    (ht : t = s.settle b x) {order : Order} (ho : order = t.supply.order s.cfg.channels[m].cls)
    {shed defers capped falls : Bool} {target : Nat} {f : Fan} (hshed : shed = true ↔ order = .shed)
    (hdefers : defers = true ↔ s.fan.Turns ∧ s.fan.deferral.isSome = true ∧ shed = true ∧ t.supply.crank = false ∧
      t.res.fanStep ≠ 0)
    (hcapped : capped = true ↔ order = .limited ∨ (defers = true ∧ s.fan.capped = true))
    (htarget : target = if capped then min t.res.fanStep 1 else t.res.fanStep)
    (hfalls : falls = true ↔ target = 0 ∧ s.fan.target ≠ 0)
    (hf : f = { s.fan with
      resolved := t.res.fanStep, target := target, stallCount := if falls then 0 else s.fan.stallCount
      capped := capped }) :
    t.fan = f.act s.fan.target shed t.supply.crank (t.supply.held s.cfg.channels[m].cls) ∧
      t.out.channels[m].retry = if falls then 0 else s.out.channels[m].retry := by
  have hshed' : shed = decide (order = .shed) := by rw [Bool.eq_iff_iff, hshed, decide_eq_true_iff]
  have hdefers' : defers = s.fan.defers t.res.fanStep shed t.supply.crank := by
    rw [Bool.eq_iff_iff, hdefers, Fan.defers_iff, Nat.pos_iff_ne_zero]
  have hcapped' : capped = s.fan.capNow t.res.fanStep order t.supply.crank := by
    rw [Bool.eq_iff_iff, hcapped, Fan.capNow_iff, hdefers', hshed']
  have htarget' : target = fanTarget t.res.fanStep (s.fan.capNow t.res.fanStep order t.supply.crank) := by
    rw [htarget, hcapped']; rfl
  have hretarget : f = s.fan.retarget t.res.fanStep order t.supply.crank := by
    rw [hf, Fan.retarget, ← htarget', ← hcapped', if_congr hfalls rfl rfl]
  have hfan := State.settle_fan b x hm
  have hretry := State.settle_motor_retry b x hm
  rw [← ht] at hfan hretry
  rw [← ho, ← htarget', if_congr hfalls.symm rfl rfl] at hretry
  refine ⟨?_, hretry⟩
  rw [hfan, State.fanIn, if_pos hd, ← ho, ← hretarget, ← hshed']

/-- Settles O44: the fan's timers and waits and a completed block give the fan's next state, and `Fan.act` says by its state
what the hand-ons make of it. -/
theorem fanTimersExpire : Obligations.FanTimersExpire := by
  refine ⟨fun s m hup hm => ⟨execFanRunTimerExpiry_next hup hm, congrArg Host.Outcome.next (if_pos hup),
    fun u x v above hf hslot hlast hv h0 h400 hlimit hbulb habove hu => ?_, fun u f hf ht hfan hu => ?_, fun u hrun hu => ?_⟩,
    fun s u m f c hup hm hc hfan hu => ?_,
    fun s before t fresh m f still order shed crank hold defers capped falls stops target hd hm ht ho hshed hcrank hhold
      hdefers hcapped htarget hfalls hstops hfan hstill => ?_⟩
  · subst hu
    exact ⟨execSample_turning hup hm hf hslot hlast hv h0 h400 hlimit hbulb habove, State.settle_handedOn _ s false⟩
  · rw [execStallTimerExpiry_next hup hm hf ht]
    subst hfan
    rcases hu with ⟨hcount, rfl⟩ | ⟨hcount, rfl⟩
    · rw [if_neg (by omega), Fan.stall_again hcount]
      exact ⟨rfl, State.settle_handedOn _ s false⟩
    · rw [if_pos hcount, Fan.stall_last hcount]
      exact ⟨rfl, State.settle_handedOn _ s false⟩
  · subst hu
    exact ⟨congrArg Host.Outcome.next (if_pos ⟨hup, hrun⟩), State.settle_handedOn _ s false,
      fun hs hr hd hf hstep ho => State.deferralEnd_suspends hup hm hs hr hd hf hstep ho s false⟩
  · rw [execFanWait_next hup hc, State.fanAfterWait_motor hm]
    subst hfan
    rcases hu with ⟨hcause, rfl⟩ | ⟨hshed, hcrank, hhold, rfl⟩ | ⟨hshed, hcrank, hhold, rfl⟩
    · rw [if_pos hcause]
      exact ⟨rfl, State.settle_handedOn _ s false⟩
    · rw [if_neg (not_or.mpr ⟨hshed, ne_true_of_eq_false hcrank⟩), if_pos hhold]
      exact ⟨rfl, State.settle_handedOn _ s false⟩
    · rw [if_neg (not_or.mpr ⟨hshed, ne_true_of_eq_false hcrank⟩), hhold]
      exact ⟨rfl, State.settle_handedOn _ s false⟩
  · subst hcrank hhold
    obtain ⟨hact, hretry⟩ := State.settle_fan_act hm hd ht ho hshed hdefers hcapped htarget hfalls hfan
    have hstate : f.state = s.fan.state := by rw [hfan]
    have hdeferral : f.deferral = s.fan.deferral := by rw [hfan]
    have hrun : f.runTimer = s.fan.runTimer := by rw [hfan]
    have hresolved : f.resolved = t.res.fanStep := by rw [hfan]
    have hto : f.target = target := by rw [hfan]
    rw [← hto] at hfalls ⊢
    rw [hact, ← hstate, ← hdeferral, ← hrun, ← hresolved]
    rw [← hdeferral] at hstops
    subst hstill
    exact ⟨hretry, fun hs => Fan.act_off hs, fun hs => Fan.act_turning_eq hs hfalls hstops,
      fun hs => Fan.act_suspended hs hfalls, fun hs => Fan.act_barred hs hfalls, fun hs => Fan.act_tripped hs hfalls,
      Fan.act_test⟩

end Sys2Proof.Machine
end

section
/-! The Gauge Unit: what a gauge update leaves, the sources of a gauge and its Sender Table, the battery current reference,
damping and the two drive laws (R60, R159 to R170). -/

namespace Sys2Proof.Machine

/-! ## The update (R159, R170) -/

theorem execGaugeUpdate_crank {s : State} (hu : s.up = true) (ht : s.gauges.update.isSome = true)
    (hc : s.supply.crank = true) : exec .gaugeUpdate s = .next (s.withGauges ⟨s.gauges.drives, some 100⟩) := by
  show execGaugeUpdate s = _
  unfold execGaugeUpdate
  rw [if_pos ⟨hu, ht⟩, if_neg (by simp [hc])]

theorem execGaugeUpdate_worked {s : State} (hu : s.up = true) (hd : s.drives = true)
    (ht : s.gauges.update.isSome = true) (hc : s.supply.crank = false) :
    exec .gaugeUpdate s = .next (s.withGauges ⟨s.workGauges, some 100⟩) := by
  show execGaugeUpdate s = _
  unfold execGaugeUpdate
  rw [if_pos ⟨hu, ht⟩, if_pos ⟨hc, hd⟩]

theorem State.workGauges_getElem (s : State) (i : Fin 4) :
    s.workGauges[i] = s.workGauge s.cfg.gauges[i] s.gauges.drives[i] := by
  simp [State.workGauges]

/-! ## One drive worked -/

/-- The target position a source value gives (R166). -/
def State.gaugeTarget (s : State) (v : Int) : Int := if s.res.ign then v else 0

section
variable {s : State} {g : GaugeEntry} {x : Gauge}

theorem State.workGauge_off (hk : g.kind = .off) : s.workGauge g x = x := by
  unfold State.workGauge
  rw [hk]

theorem State.workGauge_source (hk : g.kind ≠ .off) : (s.workGauge g x).status = (s.gaugeSource g).1 ∧
    (s.workGauge g x).source = (s.gaugeSource g).2 ∧
    (s.workGauge g x).target = s.gaugeTarget (s.gaugeSource g).2 := by
  unfold State.workGauge
  cases h : g.kind with
  | off => exact absurd h hk
  | thermal | coilEnd | coilCentre => exact ⟨rfl, rfl, rfl⟩

theorem State.workGauge_displayed (hk : g.kind ≠ .off) :
    (s.workGauge g x).displayed = damp x.displayed (s.workGauge g x).target g.k := by
  unfold State.workGauge
  cases h : g.kind with
  | off => exact absurd h hk
  | thermal | coilEnd | coilCentre => rfl

theorem State.workGauge_thermal (hk : g.kind = .thermal) {raw : Int}
    (hraw : raw = thermalDuty (s.workGauge g x).displayed g.dfs s.vref (s.vs s.vref)) :
    (s.workGauge g x).duty = (min raw 1000).toNat ∧ (s.workGauge g x).under = decide (1000 < raw) ∧
      (s.workGauge g x).direction = .pinA := by
  subst hraw
  unfold State.workGauge
  rw [hk]
  exact ⟨rfl, rfl, rfl⟩

theorem State.workGauge_coil (hoff : g.kind ≠ .off) (hth : g.kind ≠ .thermal) :
    (s.workGauge g x).duty = coilDuty (s.workGauge g x).displayed g.dfs s.vnom (s.vs s.vnom) ∧
      (s.workGauge g x).under = false ∧ (g.kind = .coilEnd → (s.workGauge g x).direction = .pinA) ∧
      (g.kind = .coilCentre → (s.workGauge g x).direction =
        if (s.workGauge g x).displayed = 0 then .none
        else if 0 < (s.workGauge g x).displayed then .pinA else .pinB) := by
  unfold State.workGauge
  cases h : g.kind with
  | off => exact absurd h hoff
  | thermal => exact absurd h hth
  | coilEnd => exact ⟨rfl, rfl, fun _ => rfl, nofun⟩
  | coilCentre => exact ⟨rfl, rfl, nofun, fun _ => rfl⟩

/-! ## The sources (R160, R163 to R165) -/

theorem State.gaugeSource_sender {n : Fin 4} (ht : g.sourceType = 0) (hn : g.number = n.val) :
    s.gaugeSource g = if s.cfg.senders[n].mode ≠ .resistive then (.lost, 0)
      else if s.meas.senders[n].base.valid then
        (.normal, linearize s.cfg.senders[n].points s.meas.senders[n].base.avg)
      else (.waiting, 0) := by
  have hfin : Fin.ofNat 4 g.number = n := by rw [hn]; exact Fin.ofNat_val_eq_self n
  simp only [State.gaugeSource, ht, hfin]

theorem State.gaugeSource_noPeer (ht : g.sourceType = 1) (hf : s.peers.find g.number = none) :
    s.gaugeSource g = (.lost, 0) := by
  simp only [State.gaugeSource, ht, hf]

section
variable {r : PeerRecord} {p : Option (Nat × Nat)} (ht : g.sourceType = 1) (hf : s.peers.find g.number = some r)
  (hp : p = if g.slot = 0 then r.posA else r.posB)
include ht hf hp

theorem State.gaugeSource_present {q : Nat × Nat} (hs : r.state = .present) (hq : p = some q) :
    s.gaugeSource g = (.normal, (q.2 : Int)) := by
  simp only [State.gaugeSource, ht, hf, ← hp, hs, hq]

theorem State.gaugeSource_stale {q : Nat × Nat} (hs : r.state = .stale) (hq : p = some q) :
    s.gaugeSource g = (.held, (q.2 : Int)) := by
  simp only [State.gaugeSource, ht, hf, ← hp, hs, hq]

theorem State.gaugeSource_unheld (hl : ¬r.Counted ∨ p = none) : s.gaugeSource g = (.lost, 0) := by
  simp only [State.gaugeSource, ht, hf, ← hp]
  cases hs : r.state with
  | absent | lost => rfl
  | present => rw [hl.resolve_left (not_not_intro (.inl hs))]
  | stale => rw [hl.resolve_left (not_not_intro (.inr hs))]

end

theorem State.gaugeSource_battery (ht : g.sourceType = 2) {status : SourceStatus} {I v : Int}
    (hI : (s.batteryReference = some I ∧ status = .normal) ∨
      (s.batteryReference = none ∧ I = max (-600) (-(s.supply.harness : Int)) ∧ status = .estimated))
    (hv : (g.kind = .coilCentre ∧ v = max (-1000) (min 1000 (roundDiv (I * 1000) g.fs))) ∨
      ((g.kind = .thermal ∨ g.kind = .coilEnd) ∧ v = max 0 (min 1000 (roundDiv ((I + g.fs) * 1000) (2 * g.fs))))) :
    s.gaugeSource g = (status, v) := by
  have hstatus : (if s.batteryReference.isSome then SourceStatus.normal else .estimated) = status := by
    rcases hI with ⟨hb, rfl⟩ | ⟨hb, -, rfl⟩ <;> rw [hb] <;> rfl
  have hcurrent : s.batteryReference.getD (clampInt (-600) 600 (-(s.supply.harness : Int))) = I := by
    rcases hI with ⟨hb, -⟩ | ⟨hb, rfl, -⟩ <;> rw [hb]
    · rfl
    · rw [Option.getD_none, clampInt_eq_max_min (by decide)]
      omega
  simp only [State.gaugeSource, ht, hstatus, hcurrent]
  rcases hv with ⟨hk, rfl⟩ | ⟨hk | hk, rfl⟩ <;> rw [hk, ← clampInt_eq_max_min (by decide)]

theorem State.gaugeSource_supply (ht : g.sourceType = 3) : s.gaugeSource g = if s.meas.supply.valid then
      (.normal, max 0 (min 1000 (roundDiv ((s.meas.supply.avg - g.vlo) * 1000) ((g.vhi : Int) - g.vlo))))
    else (.waiting, 0) := by
  simp only [State.gaugeSource, ht, clampInt_eq_max_min (show (0 : Int) ≤ 1000 by decide)]

end

/-! ## The Sender Table (R160) -/

/-- The reading lies between the R of two points, in either order. -/
def Spans (r : Int) (p q : Nat × Nat) : Prop := ((p.1 : Int) ≤ r ∧ r ≤ q.1) ∨ ((q.1 : Int) ≤ r ∧ r ≤ p.1)

/-- The rounded value of a reading on the segment of two points. -/
def segmentValue (r : Int) (p q : Nat × Nat) : Int :=
  p.2 + roundDiv (((q.2 : Int) - p.2) * (r - p.1)) ((q.1 : Int) - p.1)

/-- The value of a reading on the first segment that spans it: the last case of `Linearized`. -/
def OnFirstSegment (points : List (Nat × Nat)) (r v : Int) : Prop :=
  ∃ (before after : List (Nat × Nat)) (p q : Nat × Nat), points = before ++ p :: q :: after ∧ Spans r p q ∧
    (∀ (b a : List (Nat × Nat)) (x y : Nat × Nat), points = b ++ x :: y :: a → b.length < before.length → ¬Spans r x y) ∧
    v = segmentValue r p q

theorem linearized_iff (points : List (Nat × Nat)) (r v : Int) : Linearized points r v ↔
    (∃ p ∈ points, (∀ q ∈ points, p.1 ≤ q.1) ∧ r < p.1 ∧ v = p.2) ∨
    (∃ p ∈ points, (∀ q ∈ points, q.1 ≤ p.1) ∧ (p.1 : Int) < r ∧ v = p.2) ∨ OnFirstSegment points r v := Iff.rfl

theorem onSegments_of_spans {r : Int} {p q : Nat × Nat} (h : Spans r p q) (t : List (Nat × Nat)) :
    onSegments (p :: q :: t) r = segmentValue r p q := if_pos h

theorem onSegments_of_not_spans {r : Int} {p q : Nat × Nat} (h : ¬Spans r p q) (t : List (Nat × Nat)) :
    onSegments (p :: q :: t) r = onSegments (q :: t) r := if_neg h

theorem onFirstSegment_cons_cons {p q : Nat × Nat} {t : List (Nat × Nat)} {r v : Int} :
    OnFirstSegment (p :: q :: t) r v ↔
      (Spans r p q ∧ v = segmentValue r p q) ∨ (¬Spans r p q ∧ OnFirstSegment (q :: t) r v) := by
  constructor
  · rintro ⟨before, after, x, y, he, hs, hfirst, hv⟩
    cases before with
    | nil =>
      cases he
      exact .inl ⟨hs, hv⟩
    | cons c before =>
      obtain ⟨rfl, he'⟩ := List.cons.inj he
      refine .inr ⟨hfirst [] t p q rfl (Nat.succ_pos _), before, after, x, y, he', hs, fun b a u w h hl => ?_, hv⟩
      exact hfirst (p :: b) a u w (congrArg (p :: ·) h) (Nat.succ_lt_succ hl)
  · rintro (⟨hs, hv⟩ | ⟨hns, before, after, x, y, he, hs, hfirst, hv⟩)
    · exact ⟨[], t, p, q, rfl, hs, fun _ _ _ _ _ hl => absurd hl (Nat.not_lt_zero _), hv⟩
    · refine ⟨p :: before, after, x, y, congrArg (p :: ·) he, hs, fun b a u w h hl => ?_, hv⟩
      cases b with
      | nil =>
        cases h
        exact hns
      | cons c b => exact hfirst b a u w (List.cons.inj h).2 (Nat.lt_of_succ_lt_succ hl)

theorem OnFirstSegment.two_le_length {points : List (Nat × Nat)} {r v : Int} (h : OnFirstSegment points r v) :
    2 ≤ points.length := by
  obtain ⟨before, after, p, q, rfl, -⟩ := h
  simp
  omega

theorem OnFirstSegment.onSegments_eq {points : List (Nat × Nat)} {r v : Int} (h : OnFirstSegment points r v) :
    onSegments points r = v := by
  induction points with
  | nil => exact absurd h.two_le_length (by simp)
  | cons p t ih =>
    cases t with
    | nil => exact absurd h.two_le_length (by simp)
    | cons q t =>
      rcases onFirstSegment_cons_cons.mp h with ⟨hs, rfl⟩ | ⟨hs, h⟩
      · exact onSegments_of_spans hs t
      · rw [onSegments_of_not_spans hs, ih h]

/-- A reading between the R of two points of the table lies on a segment: the R of neighbours cannot pass it unspanned. -/
theorem onFirstSegment_onSegments {points : List (Nat × Nat)} {r : Int} (h2 : 2 ≤ points.length)
    (hlow : ∃ a ∈ points, (a.1 : Int) ≤ r) (hhigh : ∃ b ∈ points, r ≤ b.1) :
    OnFirstSegment points r (onSegments points r) := by
  induction points with
  | nil => exact absurd h2 (by simp)
  | cons p t ih =>
    cases t with
    | nil => exact absurd h2 (by simp)
    | cons q t =>
      by_cases hs : Spans r p q
      · exact onFirstSegment_cons_cons.mpr (.inl ⟨hs, onSegments_of_spans hs t⟩)
      · rw [onSegments_of_not_spans hs]
        refine onFirstSegment_cons_cons.mpr (.inr ⟨hs, ?_⟩)
        unfold Spans at hs
        have hlow' : ∃ a ∈ q :: t, (a.1 : Int) ≤ r := by
          obtain ⟨a, ha, har⟩ := hlow
          rcases List.mem_cons.mp ha with rfl | ha
          · exact ⟨q, List.mem_cons_self, by omega⟩
          · exact ⟨a, ha, har⟩
        have hhigh' : ∃ b ∈ q :: t, r ≤ b.1 := by
          obtain ⟨b, hb, hbr⟩ := hhigh
          rcases List.mem_cons.mp hb with rfl | hb
          · exact ⟨q, List.mem_cons_self, by omega⟩
          · exact ⟨b, hb, hbr⟩
        refine ih ?_ hlow' hhigh'
        cases t with
        | cons => simp
        | nil =>
          obtain ⟨a, ha, har⟩ := hlow'
          obtain ⟨b, hb, hbr⟩ := hhigh'
          cases List.mem_singleton.mp ha
          cases List.mem_singleton.mp hb
          omega

/-- A fold that takes each strictly better element keeps one of the best. -/
theorem foldl_best {α : Type} (better : α → α → Prop) [DecidableRel better]
    (hasymm : ∀ a b, better a b → ¬better b a) (hneg : ∀ a b c, ¬better a b → ¬better b c → ¬better a c)
    (l : List α) (b : α) : l.foldl (fun b p => if better p b then p else b) b ∈ b :: l ∧
      ∀ q ∈ b :: l, ¬better q (l.foldl (fun b p => if better p b then p else b) b) := by
  induction l generalizing b with
  | nil => simpa using fun h => hasymm b b h h
  | cons p l ih =>
    rw [List.foldl_cons]
    by_cases h : better p b
    · rw [if_pos h]
      obtain ⟨hmem, hbest⟩ := ih p
      refine ⟨List.mem_cons_of_mem _ hmem, fun q hq => ?_⟩
      rcases List.mem_cons.mp hq with rfl | hq
      · exact hneg _ _ _ (hasymm _ _ h) (hbest p List.mem_cons_self)
      · exact hbest q hq
    · rw [if_neg h]
      obtain ⟨hmem, hbest⟩ := ih b
      refine ⟨?_, fun q hq => ?_⟩
      · rcases List.mem_cons.mp hmem with e | hmem
        · rw [e]; exact List.mem_cons_self
        · exact List.mem_cons_of_mem _ (List.mem_cons_of_mem _ hmem)
      · rcases List.mem_cons.mp hq with rfl | hq
        · exact hbest q List.mem_cons_self
        · rcases List.mem_cons.mp hq with rfl | hq
          · exact hneg _ _ _ h (hbest b List.mem_cons_self)
          · exact hbest q (List.mem_cons_of_mem _ hq)

theorem lowestPoint_spec (p : Nat × Nat) (t : List (Nat × Nat)) :
    lowestPoint p t ∈ p :: t ∧ ∀ q ∈ p :: t, (lowestPoint p t).1 ≤ q.1 := by
  obtain ⟨hmem, hbest⟩ := foldl_best (fun q b : Nat × Nat => q.1 < b.1) (by omega) (by omega) t p
  exact ⟨hmem, fun q hq => Nat.le_of_not_lt (hbest q hq)⟩

theorem highestPoint_spec (p : Nat × Nat) (t : List (Nat × Nat)) :
    highestPoint p t ∈ p :: t ∧ ∀ q ∈ p :: t, q.1 ≤ (highestPoint p t).1 := by
  obtain ⟨hmem, hbest⟩ := foldl_best (fun q b : Nat × Nat => b.1 < q.1) (by omega) (by omega) t p
  exact ⟨hmem, fun q hq => Nat.le_of_not_lt (hbest q hq)⟩

theorem eq_of_fst_eq {points : List (Nat × Nat)}
    (h : points.Pairwise (fun p q => p.1 < q.1) ∨ points.Pairwise (fun p q => q.1 < p.1)) {p q : Nat × Nat}
    (hp : p ∈ points) (hq : q ∈ points) (e : p.1 = q.1) : p = q := by
  have hne : points.Pairwise (fun p q => p.1 ≠ q.1) := h.elim (·.imp Nat.ne_of_lt) (·.imp Nat.ne_of_gt)
  exact List.inj_on_of_nodup_map (List.pairwise_map.mpr hne) hp hq e

section
variable {p : Nat × Nat} {t : List (Nat × Nat)} {r : Int}

theorem linearize_below (h : r < (lowestPoint p t).1) : linearize (p :: t) r = (lowestPoint p t).2 := if_pos h

theorem linearize_above (hl : ((lowestPoint p t).1 : Int) ≤ r) (h : ((highestPoint p t).1 : Int) < r) :
    linearize (p :: t) r = (highestPoint p t).2 := (if_neg (not_lt.mpr hl)).trans (if_pos h)

theorem linearize_within (hl : ((lowestPoint p t).1 : Int) ≤ r) (h : r ≤ (highestPoint p t).1) :
    linearize (p :: t) r = onSegments (p :: t) r := (if_neg (not_lt.mpr hl)).trans (if_neg (not_lt.mpr h))

theorem linearized_linearize (h2 : 2 ≤ (p :: t).length) : Linearized (p :: t) r (linearize (p :: t) r) := by
  obtain ⟨hlow, hlowest⟩ := lowestPoint_spec p t
  obtain ⟨hhigh, hhighest⟩ := highestPoint_spec p t
  rw [linearized_iff]
  rcases lt_or_ge r (lowestPoint p t).1 with hr | hr
  · exact .inl ⟨_, hlow, hlowest, hr, linearize_below hr⟩
  · rcases lt_or_ge ((highestPoint p t).1 : Int) r with hr' | hr'
    · exact .inr (.inl ⟨_, hhigh, hhighest, hr', linearize_above hr hr'⟩)
    · rw [linearize_within hr hr']
      exact .inr (.inr (onFirstSegment_onSegments h2 ⟨_, hlow, hr⟩ ⟨_, hhigh, hr'⟩))

/-- A reading on a segment is not beyond an end of the table. -/
theorem OnFirstSegment.within {v : Int} (h : OnFirstSegment (p :: t) r v) :
    ((lowestPoint p t).1 : Int) ≤ r ∧ r ≤ (highestPoint p t).1 := by
  obtain ⟨before, after, x, y, he, hs, -⟩ := h
  have hx : x ∈ p :: t := by rw [he]; simp
  have hy : y ∈ p :: t := by rw [he]; simp
  have hlx := (lowestPoint_spec p t).2 x hx
  have hly := (lowestPoint_spec p t).2 y hy
  have hhx := (highestPoint_spec p t).2 x hx
  have hhy := (highestPoint_spec p t).2 y hy
  unfold Spans at hs
  omega

/-- Only one point of a strictly monotone table is an end's, so a reading has one position. -/
theorem linearize_eq_of_linearized {v : Int}
    (hmono : (p :: t).Pairwise (fun p q => p.1 < q.1) ∨ (p :: t).Pairwise (fun p q => q.1 < p.1))
    (h : Linearized (p :: t) r v) : linearize (p :: t) r = v := by
  obtain ⟨hlow, hlowest⟩ := lowestPoint_spec p t
  obtain ⟨hhigh, hhighest⟩ := highestPoint_spec p t
  rcases (linearized_iff _ _ _).mp h with ⟨x, hx, hmin, hr, rfl⟩ | ⟨x, hx, hmax, hr, rfl⟩ | hseg
  · have e : lowestPoint p t = x := eq_of_fst_eq hmono hlow hx (le_antisymm (hlowest x hx) (hmin _ hlow))
    rw [linearize_below (by rwa [e]), e]
  · have e : highestPoint p t = x := eq_of_fst_eq hmono hhigh hx (le_antisymm (hmax _ hhigh) (hhighest x hx))
    have hxlow := hlowest x hx
    rw [linearize_above (by omega) (by rwa [e]), e]
  · obtain ⟨hl, hh⟩ := hseg.within
    rw [linearize_within hl hh, hseg.onSegments_eq]

end

theorem linearize_eq_iff {points : List (Nat × Nat)} {r v : Int} (h2 : 2 ≤ points.length)
    (hmono : points.Pairwise (fun p q => p.1 < q.1) ∨ points.Pairwise (fun p q => q.1 < p.1)) :
    linearize points r = v ↔ Linearized points r v := by
  cases points with
  | nil => exact absurd h2 (by simp)
  | cons p t =>
    refine ⟨fun h => ?_, linearize_eq_of_linearized hmono⟩
    rw [← h]
    exact linearized_linearize h2

/-! ## The battery current reference (R60) -/

theorem PeerTable.initRecords_ascending (own : Nat) :
    ((PeerTable.initRecords own).map PeerRecord.number).Pairwise (· < ·) := by
  unfold PeerTable.initRecords
  split
  · exact .nil
  · rw [List.map_map]
    have hid : PeerRecord.number ∘ PeerRecord.init = id := rfl
    rw [hid, List.map_id]
    exact List.Pairwise.filter _ (by decide)

theorem State.PeersOk.ascending {s : State} (h : s.PeersOk) :
    s.peers.records.Pairwise (fun a b => a.number < b.number) := by
  have hn := PeerTable.initRecords_ascending s.straps.number
  rw [← h] at hn
  exact List.pairwise_map.mp hn

/-- Of ascending records the first that qualifies is the lowest-numbered. -/
theorem find?_eq_of_lowest {l : List PeerRecord} (ha : l.Pairwise fun a b => a.number < b.number)
    {known : PeerRecord → Bool} {r : PeerRecord} (hr : r ∈ l) (hk : known r = true)
    (hlow : ∀ q ∈ l, known q = true → r.number ≤ q.number) : l.find? known = some r := by
  obtain ⟨f, hf⟩ := Option.isSome_iff_exists.mp (List.find?_isSome.mpr ⟨r, hr, hk⟩)
  obtain ⟨hfk, before, after, rfl, hfirst⟩ := List.find?_eq_some_iff_append.mp hf
  have hle : r.number ≤ f.number := hlow f (by simp) hfk
  rw [List.pairwise_append, List.pairwise_cons] at ha
  rcases List.mem_append.mp hr with hb | hr
  · have := hfirst r hb
    rw [hk] at this
    cases this
  · rcases List.mem_cons.mp hr with rfl | hr
    · exact hf
    · exact absurd (ha.2.1.1 r hr) (Nat.not_lt.mpr hle)

theorem PeerTable.battery_of_lowest {t : PeerTable} (ha : t.records.Pairwise fun a b => a.number < b.number)
    {r : PeerRecord} {i : Int} (hr : r ∈ t.records) (hs : r.state = .present) (hb : r.battery = some i)
    (hlow : ∀ q ∈ t.records, q.state = .present → q.battery.isSome = true → r.number ≤ q.number) :
    t.battery = some i := by
  unfold PeerTable.battery
  rw [find?_eq_of_lowest ha hr (by simp [PeerRecord.isPresent, hs, hb]) fun q hq hk => ?_]
  · exact hb
  · obtain ⟨hqs, hqb⟩ := Bool.and_eq_true_iff.mp hk
    exact hlow q hq (of_decide_eq_true hqs) hqb

theorem PeerTable.battery_none {t : PeerTable} (h : ∀ r ∈ t.records, r.state = .present → r.battery = none) :
    t.battery = none := by
  rw [← Option.not_isSome_iff_eq_none, PeerTable.battery_isSome_iff]
  rintro ⟨r, hr, hs, hb⟩
  rw [h r hr hs] at hb
  cases hb

theorem State.batteryReference_own {s : State} (hs : s.cfg.shunt = true) (hv : s.meas.battery.valid = true) :
    s.batteryReference = some s.meas.battery.avg := by
  unfold State.batteryReference
  rw [hs, hv]; rfl

theorem State.batteryReference_peers {s : State} (h : s.cfg.shunt = false ∨ s.meas.battery.valid = false) :
    s.batteryReference = s.peers.battery := by
  unfold State.batteryReference
  rw [if_neg]
  rcases h with h | h <;> simp [h]

/-- Settles O45: the source case by case, the position by the table's ends and first segment, and the reference by the
lowest-numbered peer. -/
theorem gaugeSourcesRead : Obligations.GaugeSourcesRead := by
  refine ⟨fun s hu ht hc => execGaugeUpdate_crank hu ht hc, fun s i g status v hu hd ht hc hg hsource => ?_,
    fun points r v h2 hmono => linearize_eq_iff h2 hmono, fun s hp => ⟨State.batteryReference_own, fun hown => ?_⟩⟩
  · have hread : s.gaugeSource g = (status, v) := by
      rcases hsource with ⟨n, hty, hn, hcase⟩ | ⟨hty, hf, rfl, rfl⟩ | ⟨r, p, hty, hf, hpos, hcase⟩ |
        ⟨I, hty, hI, hv⟩ | ⟨hty, hcase⟩
      · rw [State.gaugeSource_sender hty hn]
        rcases hcase with ⟨hm, rfl, rfl⟩ | ⟨hm, hval, rfl, rfl⟩ | ⟨hm, hval, rfl, rfl⟩
        · exact if_pos hm
        · rw [if_neg (not_not_intro hm), hval]; rfl
        · rw [if_neg (not_not_intro hm), if_pos hval]
      · exact State.gaugeSource_noPeer hty hf
      · rcases hcase with ⟨hs, q, hq, rfl, rfl⟩ | ⟨hs, q, hq, rfl, rfl⟩ | ⟨hl, rfl, rfl⟩
        · exact State.gaugeSource_present hty hf hpos hs hq
        · exact State.gaugeSource_stale hty hf hpos hs hq
        · exact State.gaugeSource_unheld hty hf hpos hl
      · exact State.gaugeSource_battery hty hI hv
      · rw [State.gaugeSource_supply hty]
        rcases hcase with ⟨hval, rfl, rfl⟩ | ⟨hval, rfl, rfl⟩
        · exact if_pos hval
        · rw [hval]; rfl
    subst hg
    refine ⟨_, execGaugeUpdate_worked hu hd ht hc, rfl, rfl, fun hk => ?_, fun hk => ?_⟩
    · rw [State.withGauges_gauges, State.workGauges_getElem, State.workGauge_off hk]
    · obtain ⟨hstatus, hvalue, htarget⟩ := State.workGauge_source (s := s) (x := s.gauges.drives[i]) hk
      rw [hread] at hstatus hvalue htarget
      rw [State.withGauges_gauges, State.workGauges_getElem]
      exact ⟨hstatus, hvalue, htarget⟩
  · rw [State.batteryReference_peers hown]
    exact ⟨fun r i hr hs hb hlow => PeerTable.battery_of_lowest hp.ascending hr hs hb hlow, PeerTable.battery_none⟩

/-! ## Damping (R167) -/

/-- A share of at most 256/256 of a distance, truncated, lies between nothing and the whole distance. -/
theorem tdiv_share_between {m : Int} {k : Nat} (hk : k ≤ 256) : (0 ≤ m → 0 ≤ (m * k).tdiv 256 ∧ (m * k).tdiv 256 ≤ m) ∧
    (m ≤ 0 → m ≤ (m * k).tdiv 256 ∧ (m * k).tdiv 256 ≤ 0) := by
  have hpos {m : Int} (hm : 0 ≤ m) : 0 ≤ (m * k).tdiv 256 ∧ (m * k).tdiv 256 ≤ m := by
    have h0 : 0 ≤ m * k := Int.mul_nonneg hm (Int.natCast_nonneg k)
    have h256 : m * k ≤ m * 256 := Int.mul_le_mul_of_nonneg_left (by omega) hm
    rw [Int.tdiv_eq_ediv_of_nonneg h0]
    omega
  refine ⟨hpos, fun hm => ?_⟩
  have h := hpos (Int.neg_nonneg_of_nonpos hm)
  rw [Int.neg_mul, Int.neg_tdiv] at h
  omega

section
variable {d p : Int} {k : Nat}

theorem damp_of_step (h : ((p - d) * k).tdiv 256 ≠ 0) : damp d p k = d + ((p - d) * k).tdiv 256 := if_pos h

theorem damp_up (h : ((p - d) * k).tdiv 256 = 0) (hp : d < p) : damp d p k = d + 1 :=
  (if_neg (not_not_intro h)).trans (if_pos hp)

theorem damp_down (h : ((p - d) * k).tdiv 256 = 0) (hp : p < d) : damp d p k = d - 1 :=
  (if_neg (not_not_intro h)).trans ((if_neg (by omega)).trans (if_pos hp))

theorem damp_self (d : Int) (k : Nat) : damp d d k = d := by
  unfold damp truncDiv
  simp

/-- A step goes toward the target, at least by 1, and does not pass it. -/
theorem damp_toward (hk : k ≤ 256) :
    (d < p → d < damp d p k ∧ damp d p k ≤ p) ∧ (p < d → p ≤ damp d p k ∧ damp d p k < d) := by
  obtain ⟨hup, hdown⟩ := tdiv_share_between (m := p - d) hk
  by_cases h : ((p - d) * k).tdiv 256 = 0
  · exact ⟨fun hp => by rw [damp_up h hp]; omega, fun hp => by rw [damp_down h hp]; omega⟩
  · rw [damp_of_step h]
    omega

theorem damp_whole (d p : Int) : damp d p 256 = p := by
  have hstep : ((p - d) * (256 : Nat)).tdiv 256 = p - d := Int.mul_tdiv_cancel _ (by decide)
  by_cases h : p = d
  · rw [h, damp_self]
  · rw [damp_of_step (by omega), hstep]
    omega

end

/-! ## The drive laws (R168, R169) -/

theorem roundDiv_mul_cancel (a : Int) {b : Int} (hb : 0 < b) : roundDiv (a * b) b = a := by
  unfold roundDiv
  rw [if_neg (by omega), show 2 * (a * b) + b = b + a * (2 * b) by ring, Int.add_mul_ediv_right _ _ (by omega),
    Int.ediv_eq_zero_of_lt (by omega) (by omega), Int.zero_add]

theorem zero_roundDiv {b : Int} (hb : 0 ≤ b) : roundDiv 0 b = 0 := by
  unfold roundDiv
  rw [if_neg (by omega)]
  rcases hb.eq_or_lt with rfl | hb
  · rfl
  · exact Int.ediv_eq_zero_of_lt (by omega) (by omega)

theorem State.vs_eq (s : State) (nominal : Nat) :
    s.vs nominal = if s.meas.supply.valid then max 400 (min 1800 s.meas.supply.avg) else (nominal : Int) := by
  unfold State.vs
  rw [clampInt_eq_max_min (by decide)]

theorem State.vs_not_valid {s : State} (h : s.meas.supply.valid = false) (nominal : Nat) : s.vs nominal = nominal := by
  rw [State.vs_eq, h]; rfl

theorem State.vref_eq (s : State) : (s.vref : Int) = if s.straps.sixVolt then 500 else 1000 := by
  unfold State.vref
  split <;> rfl

theorem State.vref_pos (s : State) : 0 < s.vref := by
  unfold State.vref
  split <;> decide

theorem State.vnom_eq (s : State) : (s.vnom : Int) = if s.straps.sixVolt then 600 else 1200 := by
  unfold State.vnom
  split <;> rfl

theorem State.vnom_pos (s : State) : 0 < s.vnom := by
  unfold State.vnom
  split <;> decide

theorem thermalDuty_nonneg {d : Int} (hd : 0 ≤ d) (dfs : Nat) (vref vs : Int) : 0 ≤ thermalDuty d dfs vref vs :=
  roundDiv_nonneg (Int.mul_nonneg (roundDiv_nonneg (Int.mul_nonneg hd (Int.natCast_nonneg _)) (by decide))
    (mul_self_nonneg _)) (mul_self_nonneg _)

/-- At the reference voltage the square law asks for the duty of the span alone. -/
theorem thermalDuty_at_reference (d : Int) (dfs : Nat) {vref : Int} (h : 0 < vref) :
    thermalDuty d dfs vref vref = roundDiv (d * dfs) 1000 := roundDiv_mul_cancel _ (Int.mul_pos h h)

theorem thermalDuty_zero (dfs : Nat) (vref vs : Int) : thermalDuty 0 dfs vref vs = 0 := by
  unfold thermalDuty
  rw [Int.zero_mul, zero_roundDiv (by decide), Int.zero_mul, zero_roundDiv (mul_self_nonneg _)]

theorem coilDuty_eq (d : Int) (dfs : Nat) {vnom vs : Int} (hn : 0 ≤ vnom) (hs : 0 ≤ vs) :
    (coilDuty d dfs vnom vs : Int) = min 1000 (roundDiv (roundDiv (d.natAbs * dfs) 1000 * vnom) vs) := by
  have hpos : 0 ≤ roundDiv (roundDiv ((d.natAbs : Int) * dfs) 1000 * vnom) vs :=
    roundDiv_nonneg (Int.mul_nonneg (roundDiv_nonneg (by positivity) (by decide)) hn) hs
  unfold coilDuty
  omega

/-- Settles O46: the displayed position by the facts about `damp`, and each law by the lemma of its kind. -/
theorem gaugeDampedAndDriven : Obligations.GaugeDampedAndDriven := by
  refine ⟨fun s i k hu hd ht hc hk hk' _ hk256 => ?_, fun s i g hu hd ht hc hg hk => ?_⟩
  · have hdisp := State.workGauge_displayed (s := s) (x := s.gauges.drives[i]) hk
    refine ⟨_, _, _, _, execGaugeUpdate_worked hu hd ht hc, rfl, rfl, rfl, ?_⟩
    rw [State.withGauges_gauges, State.workGauges_getElem, hdisp, ← hk']
    generalize (s.workGauge s.cfg.gauges[i] s.gauges.drives[i]).target = p
    generalize s.gauges.drives[i].displayed = d
    obtain ⟨hup, hdown⟩ := damp_toward (d := d) (p := p) hk256
    have hself (e : p = d) : damp d p k = d := by rw [e, damp_self]
    refine ⟨damp_of_step, damp_up, damp_down, hself, ?_, fun e => by rw [e, damp_whole], ?_, ?_, ?_⟩ <;> omega
  · subst hg
    refine ⟨_, s.workGauge s.cfg.gauges[i] s.gauges.drives[i], execGaugeUpdate_worked hu hd ht hc,
      (State.workGauges_getElem s i).symm, ?_, ?_⟩
    · intro vref vs raw hth hvref hvs hraw
      rw [← State.vref_eq] at hvref
      subst hvref
      rw [← State.vs_eq] at hvs
      subst hvs
      obtain ⟨hduty, hunder, hdir⟩ := State.workGauge_thermal hth hraw
      refine ⟨fun h0 => ?_, hunder, hdir, fun hv => ?_, fun h0 => ?_⟩
      · have hpos : 0 ≤ raw := hraw ▸ thermalDuty_nonneg h0 _ _ _
        omega
      · rw [hraw, State.vs_not_valid hv]
        exact thermalDuty_at_reference _ _ (by exact_mod_cast s.vref_pos)
      · rw [hunder, show raw = 0 by rw [hraw, h0]; exact thermalDuty_zero _ _ _]
        rfl
    · intro vnom vs magnitude hth hvnom hvs hmag
      rw [← State.vnom_eq] at hvnom
      subst hvnom
      rw [← State.vs_eq] at hvs
      subst hvs hmag
      obtain ⟨hduty, hunder, hend, hcentre⟩ := State.workGauge_coil (s := s) (x := s.gauges.drives[i]) hk hth
      have hlaw := coilDuty_eq (s.workGauge s.cfg.gauges[i] s.gauges.drives[i]).displayed s.cfg.gauges[i].dfs
        (Int.natCast_nonneg s.vnom) (s.vs_nonneg s.vnom)
      rw [← hduty] at hlaw
      refine ⟨hlaw, hunder, fun hv => ?_, hend, hcentre⟩
      rw [hlaw, State.vs_not_valid hv, roundDiv_mul_cancel _ (by exact_mod_cast s.vnom_pos)]

end Sys2Proof.Machine
end

section
/-! PROOFS. What keeps an Asleep station's outputs off and its queue empty, a strap-invalid station in Starting with nothing
driven, and a running station's state with IGN and its two timers (R22, R174, R177, R178, R180): the conditions
themselves, and the hand-ons. -/

namespace Sys2Proof.Machine

set_option Elab.async false

/-! ## The conditions -/

/-- Every channel, the fan and every gauge drive is off. -/
structure State.OutputsOff (s : State) : Prop where
  channels : ∀ i : Fin 8, s.out.channels[i].state = .off ∧ s.out.channels[i].duty = 0
  fan      : s.fan.state = .off
  gauges   : ∀ i : Fin 4, s.gauges.drives[i].duty = 0 ∧ s.gauges.drives[i].direction = .none

/-- What `State.OutputsOff` reads. -/
def State.offView (s : State) : (Fin 8 → ChannelState × Nat) × FanState × (Fin 4 → Nat × Direction) :=
  (fun i => (s.out.channels[i].state, s.out.channels[i].duty), s.fan.state,
    fun i => (s.gauges.drives[i].duty, s.gauges.drives[i].direction))

theorem State.OutputsOff.of_view {s t : State} (h : s.OutputsOff) (hv : t.offView = s.offView) : t.OutputsOff := by
  have hstate (i : Fin 8) : t.out.channels[i].state = s.out.channels[i].state := congrArg (·.1 i |>.1) hv
  have hduty (i : Fin 8) : t.out.channels[i].duty = s.out.channels[i].duty := congrArg (·.1 i |>.2) hv
  have hgauge (i : Fin 4) : t.gauges.drives[i].duty = s.gauges.drives[i].duty := congrArg (·.2.2 i |>.1) hv
  have hdirection (i : Fin 4) : t.gauges.drives[i].direction = s.gauges.drives[i].direction := congrArg (·.2.2 i |>.2) hv
  exact ⟨fun i => by rw [hstate, hduty]; exact h.channels i, (congrArg (·.2.1) hv).trans h.fan,
    fun i => by rw [hgauge, hdirection]; exact h.gauges i⟩

/-- The outputs as a reset, a wake or the loss of power leaves them (R105, R156, R171). -/
theorem State.OutputsOff.of_init {s : State} (ho : s.out.channels = Vector.replicate 8 Channel.init) (hf : s.fan.state = .off)
    (hg : s.gauges.drives = Vector.replicate 4 Gauge.init) : s.OutputsOff :=
  ⟨fun i => by simp [ho, Channel.init], hf, fun i => by simp [hg, Gauge.init]⟩

/-- The Transmit Queue is empty, and nothing is in flight. -/
structure Line.Empty (l : Line) : Prop where
  status   : l.queue.status = none
  announce : l.queue.announce = none
  flash    : l.queue.flash = []
  reply    : l.queue.reply = []
  inFlight : l.inFlight = none

theorem State.stillAsleep_iff (s : State) : s.StillAsleep ↔ (s.ctl.state = .asleep → s.OutputsOff ∧ s.line.Empty) := by
  constructor
  · intro h ha
    obtain ⟨hs, hn, hf, hr, hi⟩ := h.queue ha
    exact ⟨⟨h.channels ha, h.fan ha, h.gauges ha⟩, hs, hn, hf, hr, hi⟩
  · intro h
    exact ⟨fun ha => (h ha).1.channels, fun ha => (h ha).1.fan, fun ha => (h ha).1.gauges,
      fun ha => ⟨(h ha).2.status, (h ha).2.announce, (h ha).2.flash, (h ha).2.reply, (h ha).2.inFlight⟩⟩

/-- What holds of a strap-invalid station (R174). -/
structure State.Inert (s : State) : Prop where
  state    : s.ctl.state = .starting
  inFlight : s.line.inFlight = none
  flash    : s.flash.phase = .idle
  outputs  : s.OutputsOff

theorem State.invalidStill_iff (s : State) : s.InvalidStill ↔ (s.strapInvalid = true → s.Inert) :=
  ⟨fun h hi => ⟨h.state hi, h.inFlight hi, h.flash hi, h.channels hi, h.fan hi, h.gauges hi⟩,
    fun h => ⟨fun hi => (h hi).state, fun hi => (h hi).inFlight, fun hi => (h hi).flash, fun hi => (h hi).outputs.channels,
      fun hi => (h hi).outputs.fan, fun hi => (h hi).outputs.gauges⟩⟩

/-- The quiet timer and the periodic STATUS timer run as the station state asks (R22, R178). -/
structure State.Paced (s : State) : Prop where
  standby  : s.ctl.state = .standby → s.ctl.quiet = some (s.cfg.quiet * 1000)
  quiet    : s.ctl.state ≠ .standby → s.ctl.quiet = none
  periodic : s.line.periodic = (if s.strapInvalid then none else some (statusPeriod s.ctl.state))

/-- What `State.Paced` reads. -/
def State.pace (s : State) : WorkingConfig × Straps × StationState × Timer × Timer :=
  (s.cfg, s.straps, s.ctl.state, s.ctl.quiet, s.line.periodic)

theorem State.Paced.of_pace {s t : State} (h : s.Paced) (hp : t.pace = s.pace) : t.Paced := by
  simp only [State.pace, Prod.mk.injEq] at hp
  obtain ⟨hcfg, hstraps, hstate, hquiet, hperiodic⟩ := hp
  have hi : t.strapInvalid = s.strapInvalid := by unfold State.strapInvalid; rw [hstraps]
  constructor
  · rw [hstate, hquiet, hcfg]; exact h.standby
  · rw [hstate, hquiet]; exact h.quiet
  · rw [hperiodic, hi, hstate]; exact h.periodic

/-- The station state agrees with IGN (R177). -/
def State.FollowsIgn (s : State) : Prop :=
  (s.ctl.state = .awake → s.res.ign = true) ∧ (s.ctl.state = .standby → s.res.ign = false)

theorem State.not_asleep {s : State} (h : s.up = true) : s.ctl.state ≠ .asleep := by
  simp only [State.up, Bool.and_eq_true, decide_eq_true_eq] at h
  exact h.2

/-- The period of R22's table for a running station. -/
theorem statusPeriod_eq {st : StationState} (h : st ≠ .asleep) :
    some (statusPeriod st) = if st = .starting ∨ st = .awake then some 100 else some 500 := by
  cases st with
  | asleep => exact absurd rfl h
  | _ => rfl

theorem State.stationOk_iff (s : State) : s.StationOk ↔ (s.up = true → s.FollowsIgn ∧ s.Paced) := by
  have hinvalid : s.strapInvalid = true ↔ s.straps.number = 15 := decide_eq_true_iff
  constructor
  · intro h hu
    refine ⟨⟨h.awake hu, fun k => (h.standby hu k).1⟩, fun k => (h.standby hu k).2, h.quiet hu, ?_⟩
    rw [h.periodic hu, statusPeriod_eq (State.not_asleep hu)]
    exact if_congr hinvalid.symm rfl rfl
  · intro h
    refine ⟨fun hu => (h hu).1.1, fun hu k => ⟨(h hu).1.2 k, (h hu).2.standby k⟩, fun hu => (h hu).2.quiet, fun hu => ?_⟩
    rw [(h hu).2.periodic, statusPeriod_eq (State.not_asleep hu)]
    exact if_congr hinvalid rfl rfl

/-! ## The hand-ons -/

/-- A reload of the quiet timer leaves it as the station state asks (R178). -/
theorem State.reloadQuiet_paced {s : State} (h : s.Paced) : s.reloadQuiet.Paced := by
  unfold State.reloadQuiet
  split
  · rename_i hs
    exact ⟨fun _ => rfl, fun k => absurd hs k, h.periodic⟩
  · exact h

theorem State.enterAwake_paced (s : State) : s.enterAwake.Paced := ⟨nofun, fun _ => rfl, rfl⟩

theorem State.enterStandby_paced (s : State) : s.enterStandby.Paced := ⟨fun _ => rfl, fun k => absurd rfl k, rfl⟩

/-- Station Control leaves the station state with IGN and the timers with the station state, whatever state and IGN it
finds (R177, R178). -/
theorem State.stageControl_paced {s : State} (h : s.Paced) (e : EffectiveSet) :
    (s.stageControl e).FollowsIgn ∧ (s.stageControl e).Paced := by
  unfold State.stageControl
  split
  · rename_i hi
    exact ⟨⟨nofun, fun _ => hi⟩, s.enterStandby_paced⟩
  · rename_i hi
    exact ⟨⟨fun _ => hi, nofun⟩, s.enterAwake_paced⟩
  · rename_i hawake hstandby
    have hign : s.FollowsIgn :=
      ⟨fun k => Bool.eq_true_of_not_eq_false (hawake k), fun k => Bool.eq_false_of_not_eq_true (hstandby k)⟩
    split
    · exact ⟨hign, h⟩
    · refine ⟨?_, State.reloadQuiet_paced h⟩
      have hstate : s.reloadQuiet.ctl.state = s.ctl.state := by unfold State.reloadQuiet; split <;> rfl
      unfold State.FollowsIgn
      rw [hstate, State.reloadQuiet_res]
      exact hign

/-- The hand-ons leave the station state with IGN, and its timers with the station state (R22, R177, R178). -/
theorem State.settle_paced {s : State} (h : s.Paced) (b : State) (x : Bool) :
    (s.settle b x).FollowsIgn ∧ (s.settle b x).Paced := by
  have hbefore : (s.beforeControl x).Paced := h.of_pace (by
    simp only [State.pace, State.beforeControl_cfg, State.beforeControl_straps, State.beforeControl_ctl,
      State.beforeControl_periodic])
  obtain ⟨hign, hpaced⟩ := State.stageControl_paced hbefore b.res.eff
  rw [State.settle_eq]
  refine ⟨?_, hpaced.of_pace ?_⟩
  · unfold State.FollowsIgn
    rw [State.stageStatus_ctl, State.stageStatus_res]
    exact hign
  · simp only [State.pace, State.stageStatus_cfg, State.stageStatus_straps, State.stageStatus_ctl, State.stageStatus_periodic]

/-- The hand-ons put no station to sleep. -/
theorem State.settle_not_asleep {s : State} (h : s.ctl.state ≠ .asleep) (b : State) (x : Bool) :
    (s.settle b x).ctl.state ≠ .asleep := by
  rcases s.settle_state b x with k | ⟨-, k⟩ | ⟨-, k⟩ <;> rw [k]
  · exact h
  · nofun
  · nofun

theorem LineKept.inFlight {l m : Line} (h : LineKept l m) (hl : l.inFlight = none) : m.inFlight = none := by
  have hfly := h.flying
  rw [hl] at hfly
  exact Option.map_eq_none_iff.mp hfly

/-- The hand-ons drive nothing at a strap-invalid station (R174). -/
theorem State.Inert.settle {s : State} (h : s.Inert) (hi : s.strapInvalid = true) (b : State) (x : Bool) :
    (s.settle b x).Inert := by
  have hdrives : s.drives = false := by simp [State.drives, hi]
  obtain ⟨hfan, -, hflash, hchannels⟩ := State.settle_still hdrives b x
  refine ⟨?_, (State.settle_handedOn s b x).line.inFlight h.inFlight, hflash ▸ h.flash, fun i => ?_,
    hfan.trans h.outputs.fan, ?_⟩
  · rcases s.settle_state b x with k | ⟨k, -⟩ | ⟨k, -⟩
    · exact k.trans h.state
    · cases k.symm.trans h.state
    · cases k.symm.trans h.state
  · exact ⟨(hchannels i).state.trans (h.outputs.channels i).1, (hchannels i).duty.trans (h.outputs.channels i).2⟩
  · rw [State.settle_gauges]; exact h.outputs.gauges

end Sys2Proof.Machine
end

section
/-! PROOFS. What a command leaves of the station for its three conditions before its hand-ons, and what it does to them. -/

namespace Sys2Proof.Machine

set_option Elab.async false

/-! ## What a command leaves before its hand-ons -/

/-- What the conditions read of Station Control: the state with its timers, and IGN. -/
def State.stationView (s : State) : (WorkingConfig × Straps × StationState × Timer × Timer) × Bool := (s.pace, s.res.ign)

theorem State.stationView_ite {p : Prop} [Decidable p] {a b s : State} (ha : a.stationView = s.stationView := by rfl)
    (hb : b.stationView = s.stationView := by rfl) : (if p then a else b).stationView = s.stationView := by
  split
  · exact ha
  · exact hb

/-- A command leaves the station state, IGN and the timers that go with them, and a strap-invalid station inert. -/
structure State.StationLeft (s t : State) : Prop where
  straps : t.straps = s.straps
  state  : t.ctl.state = s.ctl.state
  ign    : t.res.ign = s.res.ign
  paced  : s.Paced → t.Paced
  inert  : s.strapInvalid = true → s.Inert → t.Inert

namespace State.StationLeft

variable {s t u : State}

theorem refl (s : State) : s.StationLeft s := ⟨rfl, rfl, rfl, id, fun _ => id⟩

theorem strapInvalid (h : s.StationLeft t) : t.strapInvalid = s.strapInvalid := by
  unfold State.strapInvalid; rw [h.straps]

theorem trans (h : s.StationLeft t) (k : t.StationLeft u) : s.StationLeft u :=
  ⟨k.straps.trans h.straps, k.state.trans h.state, k.ign.trans h.ign, k.paced ∘ h.paced,
    fun hi hs => k.inert (h.strapInvalid.trans hi) (h.inert hi hs)⟩

theorem either {a b : State} {p : Prop} [Decidable p] (ha : s.StationLeft a) (hb : s.StationLeft b) :
    s.StationLeft (if p then a else b) := by
  split
  · exact ha
  · exact hb

/-- A command whose effect on an inert station is known. -/
theorem of_inert (hn : s.strapInvalid = true → s.Inert → t.Inert) (hv : t.stationView = s.stationView := by rfl) :
    s.StationLeft t :=
  ⟨congrArg (·.1.2.1) hv, congrArg (·.1.2.2.1) hv, congrArg (·.2) hv, (·.of_pace (congrArg (·.1) hv)), hn⟩

/-- A command of another block. -/
theorem aside (hv : t.stationView = s.stationView := by rfl) (ho : t.offView = s.offView := by rfl)
    (hf : t.flash.phase = s.flash.phase := by rfl)
    (hl : s.strapInvalid = true → s.line.inFlight = none → t.line.inFlight = none := by exact fun _ => id) :
    s.StationLeft t :=
  .of_inert (fun k h => ⟨(congrArg (·.1.2.2.1) hv).trans h.state, hl k h.inFlight, hf.trans h.flash, h.outputs.of_view ho⟩) hv

/-- A change of a channel that leaves its state and duty. -/
theorem setChannel {i : Fin 8} {c : Channel} (hs : c.state = s.out.channels[i].state := by rfl)
    (hd : c.duty = s.out.channels[i].duty := by rfl) : s.StationLeft (s.setChannel i c) := by
  refine .aside rfl (congrArg (fun f => (f, s.offView.2)) (funext fun j => ?_))
  simp only [State.setChannel, State.withOut_out, getElem_set_fin]
  split
  · rename_i hij
    subst hij
    rw [hs, hd]
  · rfl

theorem reloadQuiet (s : State) : s.StationLeft s.reloadQuiet := by
  have hstate : s.reloadQuiet.ctl.state = s.ctl.state := by unfold State.reloadQuiet; split <;> rfl
  refine ⟨by simp, hstate, by simp, State.reloadQuiet_paced, fun _ h => ⟨hstate.trans h.state, ?_, ?_, h.outputs.of_view ?_⟩⟩
  · rw [State.reloadQuiet_line]; exact h.inFlight
  · rw [State.reloadQuiet_flash]; exact h.flash
  · simp only [State.offView, State.reloadQuiet_out, State.reloadQuiet_fan, State.reloadQuiet_gauges]

end State.StationLeft

/-! ## What a command does to the station -/

/-- A command keeps an Asleep station still, a strap-invalid one inert, and a running one in step with IGN. -/
structure StationFollows (s t : State) : Prop where
  asleep  : s.StillAsleep → t.StillAsleep
  invalid : s.InvalidStill → t.InvalidStill
  running : s.StationOk → t.StationOk

namespace StationFollows

variable {s t u : State}

theorem trans (h : StationFollows s t) (k : StationFollows t u) : StationFollows s u :=
  ⟨k.asleep ∘ h.asleep, k.invalid ∘ h.invalid, k.running ∘ h.running⟩

theorem refl (s : State) : StationFollows s s := ⟨id, id, id⟩

theorem either {a b : State} {p : Prop} [Decidable p] (ha : StationFollows s a) (hb : StationFollows s b) :
    StationFollows s (if p then a else b) := by
  split
  · exact ha
  · exact hb

theorem ite {a : State} {p : Prop} [Decidable p] (h : p → StationFollows s a) : StationFollows s (if p then a else s) := by
  split
  · exact h ‹_›
  · exact .refl s

/-- What a command that leaves the station keeps, once the Asleep station is still. -/
theorem left (h : s.StationLeft t) (ha : s.StillAsleep → t.StillAsleep) (hu : t.up = true → s.up = true) :
    StationFollows s t := by
  refine ⟨ha, fun k => ?_, fun k => ?_⟩
  · rw [State.invalidStill_iff] at *
    intro hi
    rw [h.strapInvalid] at hi
    exact h.inert hi (k hi)
  · rw [State.stationOk_iff] at *
    intro ht
    obtain ⟨hign, hpaced⟩ := k (hu ht)
    refine ⟨?_, h.paced hpaced⟩
    unfold State.FollowsIgn
    rw [h.state, h.ign]
    exact hign

/-- A command without hand-ons in a running station. -/
theorem running_left (hu : s.up = true) (h : s.StationLeft t) : StationFollows s t := by
  refine .left h (fun _ => ?_) fun _ => hu
  rw [State.stillAsleep_iff]
  intro k
  exact absurd (h.state.symm.trans k) (State.not_asleep hu)

/-- A command of another block that leaves the line too, in any station; it stops the station at most. -/
theorem aside (hv : t.stationView = s.stationView := by rfl) (ho : t.offView = s.offView := by rfl)
    (hf : t.flash.phase = s.flash.phase := by rfl) (hl : t.line = s.line := by rfl)
    (hu : t.up = true → s.up = true := by exact id) : StationFollows s t := by
  refine .left (.aside hv ho hf fun _ h => hl ▸ h) (fun h => ?_) hu
  rw [State.stillAsleep_iff] at *
  intro k
  obtain ⟨hout, hline⟩ := h ((congrArg (·.1.2.2.1) hv).symm.trans k)
  exact ⟨hout.of_view ho, hl ▸ hline⟩

/-- The hand-ons over a station that is not Asleep, inert where it was inert, with the timers that its state asks. -/
theorem handedOn {b : State} {x : Bool} (ha : u.ctl.state ≠ .asleep)
    (hn : s.InvalidStill → u.strapInvalid = true → u.Inert) (hp : s.StationOk → u.Paced) : StationFollows s (u.settle b x) where
  asleep _ := by
    rw [State.stillAsleep_iff]
    exact fun k => absurd k (State.settle_not_asleep ha b x)
  invalid h := by
    have hi : (u.settle b x).strapInvalid = u.strapInvalid := by unfold State.strapInvalid; rw [State.settle_straps]
    rw [State.invalidStill_iff, hi]
    exact fun k => (hn h k).settle k b x
  running h := by
    rw [State.stationOk_iff]
    exact fun _ => State.settle_paced (hp h) b x

/-- A command with hand-ons in a running station. -/
theorem settle {b : State} {x : Bool} (hu : s.up = true) (h : s.StationLeft u) : StationFollows s (u.settle b x) := by
  refine .handedOn (by rw [h.state]; exact State.not_asleep hu) (fun k hi => ?_) fun k => ?_
  · rw [h.strapInvalid] at hi
    exact h.inert hi ((State.invalidStill_iff s).mp k hi)
  · exact h.paced ((State.stationOk_iff s).mp k hu).2

end StationFollows

end Sys2Proof.Machine
end

section
/-! PROOFS. The station's three conditions under the commands of the line, of received frames and of the service tool. -/

namespace Sys2Proof.Machine

set_option Elab.async false

/-! ## The line -/

/-- A change of the Line Interface leaves the periodic timer, and begins no attempt. -/
structure Line.Steady (l m : Line) : Prop where
  periodic : m.periodic = l.periodic
  inFlight : l.inFlight = none → m.inFlight = none

theorem Line.putStatus_steady (l : Line) (content : List Byte) : l.Steady (l.putStatus content) :=
  ⟨l.putStatus_periodic content, (l.putStatus_kept content).inFlight⟩

theorem Line.putFlash_steady (l : Line) (content : List Byte) : l.Steady (l.putFlash content) :=
  ⟨l.putFlash_periodic content, (l.putFlash_kept content).inFlight⟩

theorem Line.putAnnounce_steady (l : Line) (content : List Byte) : l.Steady (l.putAnnounce content) := by
  unfold Line.putAnnounce
  split
  · exact ⟨rfl, id⟩
  · exact ⟨rfl, fun h => by simp [Line.markReplaced, h]⟩

theorem Line.rejoin_steady (l : Line) (kind : FrameKind) (content : List Byte) : l.Steady (l.rejoin kind content) := by
  cases kind with
  | status => exact l.putStatus_steady content
  | announce => exact l.putAnnounce_steady content
  | flash => exact l.putFlash_steady content
  | reply | service => exact ⟨rfl, id⟩

theorem Line.succeed_periodic (l : Line) (f : InFlight) : (l.succeed f).periodic = l.periodic := by
  unfold Line.succeed
  dsimp only
  split
  · exact (Line.rejoin_steady _ _ _).periodic
  · rfl

theorem State.withLine_stationView {s : State} {l : Line} (h : l.periodic = s.line.periodic) :
    (s.withLine l).stationView = s.stationView :=
  congrArg (fun p => ((s.cfg, s.straps, s.ctl.state, s.ctl.quiet, p), s.res.ign)) h

theorem State.orderIfLeft_stationView (s : State) (q : Queue) : (s.orderIfLeft q).stationView = s.stationView :=
  State.stationView_ite

theorem State.attemptFailed_stationView (s : State) (f : InFlight) : (s.attemptFailed f).stationView = s.stationView := by
  have hleft : ((s.withLine (s.line.failAttempt f)).orderIfLeft s.line.queue).stationView = s.stationView :=
    State.orderIfLeft_stationView _ _
  exact State.stationView_ite rfl (State.stationView_ite hleft hleft)

theorem Line.choose_invalid (l : Line) : l.choose true = none := rfl

namespace State.StationLeft

variable {s : State}

theorem withLine {l : Line} (h : s.line.Steady l) : s.StationLeft (s.withLine l) :=
  .aside (State.withLine_stationView h.periodic) rfl rfl fun _ => h.inFlight

theorem requestStatus (s : State) : s.StationLeft s.requestStatus := .either (.refl s) (.withLine (s.line.putStatus_steady _))

/-- The periodic timer is loaded with the period of the station state (R22). -/
theorem loadPeriodic (s : State) : s.StationLeft (s.loadPeriodic s.ctl.state) :=
  ⟨rfl, rfl, rfl, fun h => ⟨h.standby, h.quiet, rfl⟩, fun _ h => ⟨h.state, h.inFlight, h.flash, h.outputs.of_view rfl⟩⟩

theorem requestAnnounce (s : State) : s.StationLeft s.requestAnnounce :=
  .either (.refl s) (.withLine (s.line.putAnnounce_steady _))

/-- A strap-invalid station has no eligible entry, so it begins no attempt (R13, R174). -/
theorem takeLine (s : State) : s.StationLeft s.takeLine := by
  rcases s.takeLine_cases with h | ⟨_, _, _, _, _, hc, h⟩ <;> rw [h]
  · exact .refl s
  · refine .aside rfl rfl rfl fun hi => ?_
    rw [hi, Line.choose_invalid] at hc
    cases hc

/-- A command that ends an attempt finds a station with no invalid straps. -/
theorem ofFlying {t : State} {f : InFlight} (hf : s.line.inFlight = some f)
    (hv : t.stationView = s.stationView := by rfl) : s.StationLeft t :=
  .of_inert (fun _ h => by rw [h.inFlight] at hf; cases hf) hv

theorem findDuplicate (s : State) : s.StationLeft s.findDuplicate := .either (.refl s) .aside

theorem raiseObjection (s : State) : s.StationLeft s.raiseObjection := .either (.refl s) .aside

theorem heard (s : State) (n : Fin 16) : s.StationLeft (s.heard n) := .either (.reloadQuiet s) (.refl s)

/-- A cycle is aligned where channels act alone (R112). -/
theorem alignTo (s : State) (c : FlashContent) : s.StationLeft (s.alignTo c).1 := by
  unfold State.alignTo
  split
  · split
    · rename_i h
      refine .of_inert fun hi => ?_
      have hdrives : s.drives = false := by simp [State.drives, hi]
      rw [hdrives] at h
      cases h.1
    · exact .refl s
  · exact .refl s

theorem takeReceived (s : State) (c : FlashContent) : s.StationLeft (s.takeReceived c) := .either .aside .aside

theorem flashTaken (s : State) (n : Nat) (byte : Byte) : s.StationLeft (s.flashTaken n byte) := by
  have hheard : s.StationLeft ((s.withPeers (s.peers.modify n fun r => r.takeFlash (decodeFlash byte))).withLine
    (s.line.withdraw byte)) := .aside
  exact (hheard.trans (.alignTo _ _)).trans (.takeReceived _ _)

end State.StationLeft

namespace StationFollows

variable {s t : State}

theorem takeLine (s : State) : StationFollows s s.takeLine := by
  rcases s.takeLine_cases with h | ⟨_, _, hu, -⟩
  · rw [h]; exact .refl s
  · exact .running_left hu (.takeLine s)

theorem attempt {g : InFlight → State} (h : s.up = true → ∀ f, s.line.inFlight = some f → StationFollows s (g f)) :
    StationFollows s (match s.line.inFlight with | some f => if s.up then g f else s | none => s) := by
  cases hf : s.line.inFlight with
  | none => exact .refl s
  | some f => exact .ite fun hu => h hu f hf

/-- An attempt that succeeds, with the alignment of the cycle by an own FLASH (R11, R112). -/
theorem attemptSuccess (hu : s.up = true) {f : InFlight} (hf : s.line.inFlight = some f) : StationFollows s
    (if f.kind = .flash
      then ((s.withLine (s.line.succeed f)).orderIfLeft s.line.queue).flashHanded s (decodeFlash (f.content.headD 0))
      else (s.withLine (s.line.succeed f)).orderIfLeft s.line.queue) := by
  have hleft : s.StationLeft ((s.withLine (s.line.succeed f)).orderIfLeft s.line.queue) :=
    .ofFlying hf ((State.orderIfLeft_stationView _ _).trans (State.withLine_stationView (s.line.succeed_periodic f)))
  exact .either (.either (.settle hu (hleft.trans (.alignTo _ _))) (.running_left hu hleft)) (.running_left hu hleft)

theorem takeStatus (hu : s.up = true) (b : State) (n : Nat) (p : List Byte) : StationFollows s (s.takeStatus b n p) := by
  refine .ite fun _ => ?_
  split
  · exact .settle hu .aside
  · exact .running_left hu .aside

theorem takeAnnounce (hu : s.up = true) (b : State) (n : Nat) (p : List Byte) : StationFollows s (s.takeAnnounce b n p) := by
  unfold State.takeAnnounce
  split
  · exact .refl s
  · exact .settle hu .aside

theorem receive {hand : State → State} (n : Fin 16) (format : Bool)
    (h : ∀ t : State, t.up = true → StationFollows t (hand t)) : StationFollows s (s.receive n format hand) := by
  have hbusy : s.StationLeft (s.setView .busy) := .aside
  rcases s.receive_cases n format hand with ⟨-, e⟩ | ⟨hr, -, e⟩ | ⟨hr, -, e⟩ <;> rw [e]
  · exact .refl s
  · exact .running_left (State.up_of_receives hr) (hbusy.trans (.raiseObjection _))
  · have hu : s.up = true := State.up_of_receives hr
    have hchecked : (s.setView .busy).StationLeft ((s.setView .busy).duplicateCheck n) := .either (.findDuplicate _) (.refl _)
    refine (StationFollows.running_left hu (hbusy.trans hchecked)).trans (h _ ?_)
    obtain ⟨_, _, hd⟩ := (s.setView .busy).duplicateCheck_frame n
    rw [hd]
    exact hu

/-! ## SERVICE commands -/

theorem service {n : Fin 16} {broadcast : Bool} {args : List Byte} {serve : State → State}
    (h : ∀ t : State, t.up = true → StationFollows t (serve t)) :
    StationFollows s (s.service n broadcast args fun t => t.withSlot serve) := by
  have hbusy : s.StationLeft (s.setView .busy) := .aside
  have hheard := hbusy.trans (.heard _ n)
  rcases s.service_cases n broadcast args (fun t => t.withSlot serve) with
    ⟨-, e⟩ | ⟨hr, -, e⟩ | ⟨hr, -, -, e⟩ | ⟨hr, -, -, e⟩ <;> rw [e]
  · exact .refl s
  · exact .running_left (State.up_of_receives hr) (hbusy.trans (.raiseObjection _))
  · exact .running_left (State.up_of_receives hr) hheard
  · have hup : s.up = true := State.up_of_receives hr
    have hu : ((s.setView .busy).heard n).up = true := (State.heard_up _ n).trans hup
    exact (StationFollows.running_left hup hheard).trans (.either (.running_left hu .aside) (h _ hu))

/-- A command of the service tool that leaves the station. -/
theorem serviceLeft {n : Fin 16} {broadcast : Bool} {args : List Byte} {serve : State → State}
    (h : ∀ t : State, t.StationLeft (serve t)) :
    StationFollows s (s.service n broadcast args fun t => t.withSlot serve) :=
  .service fun t hu => .running_left hu (h t)

end StationFollows

namespace State.StationLeft

theorem serveIdentify (s : State) (args : List Byte) : s.StationLeft (s.serveIdentify args) :=
  .either (State.StationLeft.trans .aside (.requestAnnounce _)) .aside

theorem serveRead (s : State) (args : List Byte) : s.StationLeft (s.serveRead args) := by
  unfold State.serveRead
  split
  · split <;> exact .aside
  · exact .aside

theorem serveFaultCall (s : State) (n : Fin 16) (args : List Byte) : s.StationLeft (s.serveFaultCall n args) := by
  refine .either ?_ .aside
  split
  · exact .aside
  · exact .either .aside (.refl s)

theorem serveFaultAck (s : State) (args : List Byte) : s.StationLeft (s.serveFaultAck args) := by
  unfold State.serveFaultAck
  split
  · exact .either .aside .aside
  · exact .aside

theorem serveStoreWrite (s : State) (c base : Nat) (args : List Byte) : s.StationLeft (s.serveStoreWrite c base args) := by
  refine .either .aside (.either .aside ?_)
  split <;> exact .aside

theorem serveStoreCommit (s : State) (args : List Byte) : s.StationLeft (s.serveStoreCommit args) := by
  refine .either .aside (.either .aside (.either .aside ?_))
  split <;> exact .aside

theorem replyRestart (s : State) (c : Nat) : s.StationLeft (s.replyRestart c) := .either .aside .aside

/-- A channel is driven in Test in Setup, where no strap-invalid station is (R103, R174). -/
theorem enterTest {s : State} (hs : s.ctl.state = .setup) (i : Fin 8) (duty ms : Nat) :
    s.StationLeft (s.enterTest i duty ms) :=
  .of_inert (fun _ h => by cases hs.symm.trans h.state) (State.stationView_ite rfl State.stationView_ite)

end State.StationLeft

namespace StationFollows

variable {s : State}

/-- Entry to Setup: the quiet timer stops, and the periodic timer takes Setup's period (R22, R182). -/
theorem enterSetup (hs : s.ctl.state = .standby) : StationFollows s s.enterSetup := by
  rw [State.enterSetup_eq]
  refine .handedOn nofun (fun h hi => ?_) fun _ => ⟨nofun, fun _ => rfl, rfl⟩
  cases hs.symm.trans (h.state hi)

theorem serveSetupEnter (hu : s.up = true) (args : List Byte) : StationFollows s (s.serveSetupEnter args) := by
  have hreply (r : ResultCode) : StationFollows s (s.reply 6 r []) := .running_left hu .aside
  unfold State.serveSetupEnter
  split
  · exact hreply _
  · split
    · exact hreply _
    · split
      · rename_i h
        simp only [State.maySetup, Bool.and_eq_true, decide_eq_true_eq] at h
        exact (hreply _).trans (.enterSetup h.1.1)
      · exact hreply _

theorem serveTestOutput (hu : s.up = true) (b : State) (args : List Byte) : StationFollows s (s.serveTestOutput b args) := by
  unfold State.serveTestOutput
  split
  · exact .running_left hu .aside
  · rename_i h
    have hsetup : (s.reply 10 .ok []).ctl.state = .setup := not_not.mp h
    split
    · exact .settle hu (State.StationLeft.trans .aside (.enterTest hsetup _ _ _))
    · exact .running_left hu .aside

end StationFollows

end Sys2Proof.Machine
end

section
/-! PROOFS. Every command keeps an Asleep station still, a strap-invalid station inert, and a running station in step with IGN
(R22, R174, R177, R178, R180). -/

namespace Sys2Proof.Machine

set_option Elab.async false

/-! ## An inert station's channels, fan and gauges -/

namespace State.Inert

variable {s : State}

/-- No current limit applies to a channel that is off (R92, R93). -/
theorem not_limited (h : s.Inert) (i : Fin 8) : ¬(s.hardApplies i = true ∨ s.overApplies i = true) := by
  have hfan := h.outputs.fan
  have hoff := (h.outputs.channels i).1
  by_cases hm : s.cfg.channels[i].kind = .motor
  · rw [State.hardApplies_motor hm, State.overApplies_motor hm, hfan]; decide
  · rw [State.hardApplies_other hm, State.overApplies_other hm, hoff]; decide

/-- The end of a test leaves an inert station's channel off (R103). -/
theorem endTest (h : s.Inert) (i : Fin 8) (r : TestResult) : (s.setChannel i (s.out.channels[i].endTest r)).Inert := by
  refine ⟨h.state, h.inFlight, h.flash, fun j => ?_, h.outputs.fan, h.outputs.gauges⟩
  simp only [State.setChannel, State.withOut_out, getElem_set_fin]
  split
  · exact ⟨rfl, rfl⟩
  · exact h.outputs.channels j

end State.Inert

namespace State.StationLeft

variable {s : State}

/-- A channel that is not off is none of a strap-invalid station. -/
theorem ofDriven {t : State} {i : Fin 8} (hs : s.out.channels[i].state ≠ .off) (hv : t.stationView = s.stationView := by rfl) :
    s.StationLeft t :=
  .of_inert (fun _ h => absurd (h.outputs.channels i).1 hs) hv

/-- A fan that is not off is none of a strap-invalid station. -/
theorem ofFan {t : State} (hs : s.fan.state ≠ .off) (hv : t.stationView = s.stationView := by rfl) : s.StationLeft t :=
  .of_inert (fun _ h => absurd h.outputs.fan hs) hv

/-- A cycle that is not Idle is none of a strap-invalid station. -/
theorem ofCycle {t : State} (hs : s.flash.phase ≠ .idle) (hv : t.stationView = s.stationView := by rfl) : s.StationLeft t :=
  .of_inert (fun _ h => absurd h.flash hs) hv

theorem trip {i : Fin 8} (h : s.hardApplies i = true ∨ s.overApplies i = true) : s.StationLeft (s.trip i) := by
  refine .of_inert (fun _ k => absurd h (k.not_limited i)) ?_
  rw [State.trip_frame]
  rfl

theorem currentCompleted (s : State) (i : Fin 8) : s.StationLeft (s.currentCompleted i) := by
  have hcompared : s.StationLeft (s.compareCurrent i) := by
    rw [State.compareCurrent_eq (timed := s.overApplies i)
      (checked := decide (s.cfg.channels[i].kind ≠ .motor ∧ s.openCheck i = true)) Iff.rfl decide_eq_true_iff]
    exact .setChannel
  have hstall (t : State) : t.StationLeft (t.judgeStall i) := .either .aside .aside
  have hout (t : State) (x : Side) : t.StationLeft (t.bulbOut x) := by
    cases x <;> exact .either .aside .aside
  have hbulb (t : State) : t.StationLeft (t.checkBulb i) :=
    .either (.either (State.StationLeft.trans .aside (hout _ _)) .aside) (.refl t)
  exact (hcompared.trans (hstall _)).trans (hbulb _)

theorem judgeThermal (s : State) : s.StationLeft s.judgeThermal := .either (.either .aside .aside) (.either .aside .aside)

theorem drainStep (s : State) : s.StationLeft s.drainStep := by
  unfold State.drainStep
  split
  · exact .aside
  · exact .either (.either .aside .aside) .aside

theorem recomputeLocal (s : State) : s.StationLeft s.recomputeLocal := .aside

theorem senderCompleted (s : State) (n : Fin 4) : s.StationLeft (s.senderCompleted n) := by
  unfold State.senderCompleted
  dsimp only
  refine State.StationLeft.trans ?_ (.recomputeLocal _)
  refine .either (State.StationLeft.trans ?_ (.reloadQuiet _)) ?_ <;> exact .either .aside .aside

/-- A ramp update leaves a fan that is off (R146). -/
theorem rampUpdate (s : State) (target rate : Nat) :
    s.StationLeft (s.withFan { s.fan.rampStep target rate with ramp := some 100 }) := by
  by_cases hs : s.fan.state = .ramping
  · exact .ofFan (by rw [hs]; nofun)
  · rw [Fan.rampStep_standing hs]; exact .aside

/-- A gauge update works no drive where channels do not act (R171, R174). -/
theorem gaugeUpdate (s : State) : s.StationLeft (s.withGauges
    ⟨if s.supply.crank = false ∧ s.drives = true then s.workGauges else s.gauges.drives, some 100⟩) := by
  refine .of_inert fun hi h => ⟨h.state, h.inFlight, h.flash, h.outputs.channels, h.outputs.fan, ?_⟩
  have hdrives : s.drives = false := by simp [State.drives, hi]
  rw [hdrives, if_neg (by simp)]
  exact h.outputs.gauges

end State.StationLeft

namespace StationFollows

variable {s u : State}

theorem sampleChannel (hu : s.up = true) (i : Fin 8) (x : Int) (beyond : Bool) :
    StationFollows s (s.sampleChannel i x beyond) := by
  have hdone (t : State) (trips done : Bool) (ht : s.StationLeft t) (hl : trips = true → t.hardApplies i = true) :
      StationFollows s (if trips || done
        then (if done then (if trips then t.trip i else t).currentCompleted i else if trips then t.trip i else t).settle s false
        else if done then (if trips then t.trip i else t).currentCompleted i else if trips then t.trip i else t) := by
    have htrip : s.StationLeft (if trips then t.trip i else t) := by
      split
      · rename_i k; exact ht.trans (.trip (.inl (hl k)))
      · exact ht
    have hread := State.StationLeft.either (p := done = true) (htrip.trans (.currentCompleted _ i)) htrip
    exact .either (.settle hu hread) (.running_left hu hread)
  exact hdone (s.withMeas _) _ _ .aside fun h => (Bool.and_eq_true_iff.mp h).2

theorem sampleInput (hu : s.up = true) (input : SlotInput) (x : Int) (beyond : Bool) :
    StationFollows s (s.sampleInput input x beyond) := by
  cases input with
  | supply => exact .either (.settle hu .aside) (.running_left hu .aside)
  | die => exact .either (.settle hu (State.StationLeft.trans .aside (.judgeThermal _))) (.running_left hu .aside)
  | battery => exact .ite fun _ => .either (.settle hu .aside) (.running_left hu .aside)
  | channel i => exact .sampleChannel hu i x beyond
  | sender n => exact .either (.settle hu (State.StationLeft.trans .aside (.senderCompleted _ n))) (.running_left hu .aside)

theorem halfTimer (hu : s.up = true) : StationFollows s
    (match s.flash.phase, s.flash.sides with
      | .on, _ => s.enterFlashOff.settle s false
      | .off, some x => (s.enterFlashOn x .expiry).settle s true
      | .off, none => s
      | .idle, _ => s) := by
  split
  · rename_i hp
    exact .settle hu (.ofCycle (by rw [hp]; nofun))
  · rename_i x hp _
    refine .settle hu (.ofCycle (by rw [hp]; nofun) ?_)
    simp only [State.stationView, State.pace, State.enterFlashOn_cfg, State.enterFlashOn_straps, State.enterFlashOn_ctl,
      State.enterFlashOn_res, State.enterFlashOn_periodic]
  · exact .refl s
  · exact .refl s

/-! ## Station Control -/

/-- The join window of a station whose straps are valid ends in Awake or Standby, with that state's timers (R22, R177,
R178). -/
theorem joinWindow {v : Supply} (hi : s.strapInvalid = false) : StationFollows s
    (((if s.res.ign then (s.withCtl { s.ctl with join := none }).enterAwake
      else (s.withCtl { s.ctl with join := none }).enterStandby).withSupply v).settle s false) := by
  have hsettled (t : State) (hp : t.Paced) (hs : t.strapInvalid = s.strapInvalid) (ha : t.ctl.state ≠ .asleep) :
      StationFollows s ((t.withSupply v).settle s false) :=
    .handedOn ha (fun _ k => by cases hi.symm.trans (hs.symm.trans k)) fun _ => hp.of_pace rfl
  cases s.res.ign with
  | true => exact hsettled _ (State.enterAwake_paced _) rfl nofun
  | false => exact hsettled _ (State.enterStandby_paced _) rfl nofun

theorem orderRestart (s : State) : StationFollows s s.orderRestart :=
  .aside rfl rfl rfl rfl (State.not_up s.orderRestart_up)

/-- A Standby station that goes to sleep turns its outputs off and empties its queue (R180). -/
theorem enterAsleep (hs : s.ctl.state = .standby) : StationFollows s s.enterAsleep := by
  have hasleep : StationFollows s s.asleep := by
    refine ⟨fun _ => ?_, fun h => ?_, fun _ => ?_⟩
    · rw [State.stillAsleep_iff]
      refine fun _ => ⟨⟨fun i => ?_, rfl, fun i => ?_⟩, rfl, rfl, rfl, rfl, rfl⟩
      · simp [State.asleep, Channel.stand, Channel.goTo]
      · simp [State.asleep, Gauge.atRest]
    · rw [State.invalidStill_iff]
      intro hi
      cases hs.symm.trans (h.state hi)
    · rw [State.stationOk_iff]
      exact State.not_up s.asleep_up
  rw [State.enterAsleep_eq]
  exact hasleep.trans (.ite fun _ => .orderRestart _)

/-- The loss of power turns the outputs off and empties the queue, and the station no longer runs (R175). -/
theorem powerDown (s : State) : StationFollows s s.powerDown := by
  have hoff : s.powerDown.OutputsOff := .of_init rfl rfl rfl
  refine ⟨fun _ => ?_, fun h => ?_, fun _ => ?_⟩
  · rw [State.stillAsleep_iff]
    exact fun _ => ⟨hoff, rfl, rfl, rfl, rfl, rfl⟩
  · rw [State.invalidStill_iff]
    exact fun hi => ⟨h.state hi, rfl, h.flash hi, hoff⟩
  · rw [State.stationOk_iff]
    exact State.not_up (s := s.powerDown) rfl

/-- Entry to Starting from the initial values of the outputs and an empty line (R176). -/
theorem enterStarting (hl : u.live = true) (ho : u.out.channels = Vector.replicate 8 Channel.init) (hf : u.fan = Fan.init)
    (hg : u.gauges.drives = Vector.replicate 4 Gauge.init) (hc : u.flash = Flasher.init) (hi : u.line.inFlight = none)
    (announce : Bool) : StationFollows s (u.enterStarting announce) := by
  have hup : (u.atStart.settle u.atStart false).up = true := by
    rw [State.settle_up]
    unfold State.up
    rw [show u.atStart.live = true from hl]
    rfl
  have hsettled : StationFollows s (u.atStart.settle u.atStart false) := by
    refine .handedOn nofun (fun _ _ => ⟨rfl, hi, congrArg Flasher.phase hc, ?_⟩) fun _ => ⟨nofun, fun _ => rfl, rfl⟩
    exact .of_init ho (congrArg Fan.state hf) hg
  have hstatus := State.StationLeft.requestStatus (u.atStart.settle u.atStart false)
  rw [State.enterStarting_eq]
  exact .either (hsettled.trans (.running_left hup (hstatus.trans (.requestAnnounce _))))
    (hsettled.trans (.running_left hup hstatus))

theorem takeReset (s u : State) (p : StrapPins) (v : Supply) (c : ResumeCause) : StationFollows s (u.takeReset p v c) := by
  rw [State.takeReset_eq]
  exact .enterStarting rfl rfl rfl rfl rfl rfl true

theorem wakeUp (hl : s.live = true) (c : ResumeCause) (i : Option Nat) : StationFollows s (s.wakeUp c i) := by
  have hlive : (s.atWake c i).live = true := hl
  rw [State.wakeUp_eq]
  exact .enterStarting hlive rfl rfl rfl rfl rfl false

end StationFollows

end Sys2Proof.Machine
end

section
/-! PROOFS. The station's three conditions under every command, and every step. -/

namespace Sys2Proof.Machine

set_option Elab.async false

/-! ## Every command -/

/-- Every command keeps an Asleep station still, a strap-invalid one inert, and a running one in step with IGN. -/
theorem exec_stationFollows (c : Instr) (s : State) : ∃ t, exec c s = .next t ∧ StationFollows s t := by
  cases c with
  | lineBreak | truncatedFrame | statusSpacingEnd | spinUpGraceExpiry | stationClockTick =>
    exact ⟨_, rfl, .ite fun hu => .running_left hu .aside⟩
  | lineIdle | passTimer => exact ⟨_, rfl, .ite fun h => .running_left h.1 .aside⟩
  | inputWake | ignWake | wakePulseEnd => exact ⟨_, rfl, .ite fun _ => .aside⟩
  | persistenceTimerExpiry | crankReleaseExpiry | holdTimerEnd | deferralEnd | ignDebounceExpiry | holdTimerExpiry =>
    exact ⟨_, rfl, .ite fun h => .settle h.1 .aside⟩
  | rampUpdate => exact ⟨_, rfl, .ite fun h => .settle h.1 (.rampUpdate s _ _)⟩
  | stallWaitExpiry | fanRetryWaitExpiry => exact ⟨_, rfl, .ite fun h => .settle h.1 (.ofFan (by rw [h.2.1]; nofun))⟩
  | stallTimerExpiry =>
    refine ⟨_, rfl, .ite fun h => .settle h.1 (.ofFan ?_ State.stationView_ite)⟩
    rcases h.2.1 with k | k <;> rw [k] <;> nofun
  | joinWindowExpiry => exact ⟨_, rfl, .ite fun h => .joinWindow h.2.1⟩
  | inrushWindowExpiry i =>
    exact ⟨_, rfl, .ite fun h => .settle h.1 (.ofDriven (i := i) (by rw [h.2.1]; nofun) State.stationView_ite)⟩
  | retryWaitExpiry i => exact ⟨_, rfl, .ite fun h => .settle h.1 (.ofDriven (i := i) (by rw [h.2.1]; nofun))⟩
  | runTimerExpiry i => exact ⟨_, rfl, .ite fun h => .running_left h.1 .setChannel⟩
  | overTimerExpiry i => exact ⟨_, rfl, .ite fun h => .settle h.1 (.trip (.inr h.2.1))⟩
  | openLoadTimerExpiry i =>
    refine ⟨_, rfl, .ite fun h => .running_left h.1 ?_⟩
    have hflag : s.StationLeft (s.setChannel i
        { s.out.channels[i] with openTimer := none, openFlag := !s.out.channels[i].openFlag }) := .setChannel
    exact .either hflag (hflag.trans .aside)
  | testDurationExpiry i =>
    refine ⟨_, rfl, .ite fun h => .settle h.1 ?_⟩
    have hoff : s.StationLeft (s.setChannel i (s.out.channels[i].endTest .completed)) := .of_inert fun _ k => k.endTest i _
    refine .either (hoff.trans (.of_inert fun _ k => ?_)) hoff
    exact ⟨k.state, k.inFlight, k.flash, k.outputs.channels, rfl, k.outputs.gauges⟩
  | fanRunTimerExpiry =>
    refine ⟨_, rfl, .ite fun h => .running_left h.1 ?_⟩
    dsimp only
    split
    · exact State.StationLeft.trans (t := s.withFan { s.fan with runTimer := none }) .aside .setChannel
    · exact .aside
  | switchRawChange | ignPinChange => exact ⟨_, rfl, .either .aside .aside⟩
  | debounceExpiry =>
    refine ⟨_, rfl, .ite fun h => .settle h.1 (State.StationLeft.trans ?_ (.recomputeLocal _))⟩
    exact .either (State.StationLeft.trans .aside (.reloadQuiet _)) .aside
  | joinStartBit =>
    obtain ⟨hidle, -, e⟩ | ⟨-, e⟩ := execJoinStartBit_cases s
    · exact ⟨_, e, .running_left ((State.atIdle_iff s).mp hidle).1 .aside⟩
    · exact ⟨_, e, .takeLine s⟩
  | frameOffer => exact ⟨_, rfl, .takeLine s⟩
  | arbitrationLoss => exact ⟨_, rfl, .attempt fun hu _ hf => .running_left hu (.ofFlying hf)⟩
  | collision =>
    refine ⟨_, rfl, .attempt fun hu f hf => .running_left hu ?_⟩
    have hfailed : s.StationLeft ((s.withLine s.line.countCollision).attemptFailed f) :=
      .ofFlying hf (State.attemptFailed_stationView _ f)
    exact .either (hfailed.trans (.findDuplicate _)) hfailed
  | attemptObjected =>
    exact ⟨_, rfl, .attempt fun hu f hf => .running_left hu (.ofFlying hf (State.attemptFailed_stationView _ f))⟩
  | attemptSuccess => exact ⟨_, rfl, .attempt fun hu _ hf => .attemptSuccess hu hf⟩
  | objectedFrame =>
    refine ⟨_, rfl, .ite fun hr => .running_left (State.up_of_receives hr) ?_⟩
    have hbusy : s.StationLeft (s.setView .busy) := .aside
    have hobj (b : Bool) : s.StationLeft (if b then (s.setView .busy).raiseObjection else s.setView .busy) :=
      .either (hbusy.trans (.raiseObjection _)) hbusy
    exact .either ((hobj _).trans .aside) (hobj _)
  | statusFrame n p => exact ⟨_, rfl, .receive n _ fun _ hu => .takeStatus hu s _ p⟩
  | announceFrame n p => exact ⟨_, rfl, .receive n _ fun _ hu => .takeAnnounce hu s _ p⟩
  | flashFrame n p => exact ⟨_, rfl, .receive n _ fun t hu => .settle hu (.flashTaken t _ _)⟩
  | replyFrame n => exact ⟨_, rfl, .receive n _ fun t _ => .refl t⟩
  | stuckLine =>
    refine ⟨_, rfl, .ite fun hu => .running_left hu ?_⟩
    dsimp only
    split <;> exact .aside
  | isolationWaitExpiry =>
    exact ⟨_, rfl, .ite fun h => .running_left h.1 (State.StationLeft.trans .aside (.requestStatus _))⟩
  | periodicStatusTimer =>
    refine ⟨_, rfl, .ite fun h => .running_left h.1 ?_⟩
    have hstate : s.requestStatus.ctl.state = s.ctl.state := (State.StationLeft.requestStatus s).state
    have hloaded := State.StationLeft.loadPeriodic s.requestStatus
    rw [hstate] at hloaded
    exact .trans (.requestStatus s) hloaded
  | ageingTimerExpiry n =>
    refine ⟨_, rfl, ?_⟩
    split
    · exact .ite fun h => .settle h.1 .aside
    · exact .refl s
  | sample =>
    refine ⟨_, rfl, ?_⟩
    split
    · exact .ite fun hu => (StationFollows.running_left hu .aside).trans (.sampleInput (by exact hu) _ _ _)
    · exact .refl s
  | halfTimerExpiry => exact ⟨_, rfl, .ite fun h => .halfTimer h.1⟩
  | drainTick => exact ⟨_, rfl, .ite fun h => .settle h.1 ((State.StationLeft.drainStep s).trans .aside)⟩
  | gaugeUpdate => exact ⟨_, rfl, .ite fun h => .running_left h.1 (.gaugeUpdate s)⟩
  | powerFail => exact ⟨_, rfl, .ite fun _ => .powerDown s⟩
  | powerOnReset => exact ⟨_, rfl, .takeReset s _ _ _ _⟩
  | serviceRestart => exact ⟨_, rfl, .ite fun _ => .takeReset s _ _ _ _⟩
  | quietTimerExpiry =>
    exact ⟨_, rfl, .ite fun h => .either (.enterAsleep h.2.1) (.running_left h.1 (.reloadQuiet s))⟩
  | lineWake =>
    refine ⟨_, rfl, .ite fun h => .wakeUp ?_ _ _⟩
    simp only [State.sleeping, Bool.and_eq_true] at h
    exact h.1.1
  | wakeWaitExpiry => exact ⟨_, rfl, .ite fun h => .wakeUp h.1 _ _⟩
  | identify => exact ⟨_, rfl, .serviceLeft fun t => .serveIdentify t _⟩
  | read => exact ⟨_, rfl, .serviceLeft fun t => .serveRead t _⟩
  | faultCall => exact ⟨_, rfl, .serviceLeft fun t => .serveFaultCall t _ _⟩
  | faultAck => exact ⟨_, rfl, .serviceLeft fun t => .serveFaultAck t _⟩
  | faultClear => exact ⟨_, rfl, .serviceLeft fun _ => .either .aside .aside⟩
  | setupEnter => exact ⟨_, rfl, .service fun _ hu => .serveSetupEnter hu _⟩
  | storeWriteLowHalf | storeWriteHighHalf => exact ⟨_, rfl, .serviceLeft fun t => .serveStoreWrite t _ _ _⟩
  | storeCommit => exact ⟨_, rfl, .serviceLeft fun t => .serveStoreCommit t _⟩
  | programmingEnd => exact ⟨_, rfl, .ite fun h => .running_left h.1 (.either .aside .aside)⟩
  | testOutput => exact ⟨_, rfl, .service fun _ hu => .serveTestOutput hu s _⟩
  | setupExit => exact ⟨_, rfl, .serviceLeft fun t => .either .aside (.either .aside (.replyRestart t _))⟩
  | restart => exact ⟨_, rfl, .serviceLeft fun t => .either .aside (.replyRestart t _)⟩
  | unknownCommand => exact ⟨_, rfl, .either (.refl s) (.serviceLeft fun _ => .aside)⟩

theorem step_stationFollows {s t : State} (hs : step s = .next t) : StationFollows s t := by
  rcases step_cases s with ⟨-, e⟩ | ⟨c, rest, -, e⟩
  · cases e.symm.trans hs
    exact .refl s
  · obtain ⟨u, hu, hf⟩ := exec_stationFollows c (s.withPending rest)
    cases (e.trans hu).symm.trans hs
    exact StationFollows.trans .aside hf

/-- Settles O13: each command leaves what the three conditions rest on, is followed by the hand-ons, or stops or starts the
station; the hand-ons drive nothing where no channel acts, and end in Station Control, which follows IGN. -/
theorem stepKeepsStillStations : Obligations.StepKeepsStillStations :=
  ⟨fun _ _ h hs => (step_stationFollows hs).asleep h, fun _ _ h hs => (step_stationFollows hs).invalid h,
    fun _ _ h hs => (step_stationFollows hs).running h⟩

end Sys2Proof.Machine
end

section
/-! PROOFS. What becomes of a SERVICE frame that is not served: a command that is not named, one that finds both REPLY slots
full, and one that the station does not take (R184, R185). -/

namespace Sys2Proof.Machine

set_option Elab.async false

/-! ## The end of a SERVICE frame's slot -/

/-- The hand-on of every SERVICE command: taken at the end of its slot, and served when a REPLY slot is free. -/
def IsService (c : Instr) (n : Fin 16) (broadcast : Bool) (args : List Byte) : Prop :=
  ∀ s : State, ∃ serve, exec c s = .next (s.service n broadcast args fun t => t.withSlot serve)

section
variable {s : State} {c : Instr} {n : Fin 16} {broadcast : Bool} {args : List Byte}

theorem State.setView_heard (h : n.val = s.straps.number ∨ n.val = 15) : (s.setView .busy).heard n = s.atSlotEnd := by
  rw [← State.setView_reloadQuiet]
  refine if_pos ?_
  simp only [State.addressed, Bool.or_eq_true, decide_eq_true_eq]
  exact h

/-- A frame to another number reloads no quiet timer (R178). -/
theorem State.setView_heard_other (hn : n.val ≠ s.straps.number) (hb : n.val ≠ 15) :
    (s.setView .busy).heard n = s.setView .busy := by
  refine if_neg ?_
  simp only [State.addressed, Bool.or_eq_true, decide_eq_true_eq]
  exact not_or.mpr ⟨hn, hb⟩

theorem State.takes_iff : s.takes n broadcast = true ↔
    s.straps.number ≠ 15 ∧ (n.val = s.straps.number ∨ (broadcast = true ∧ n.val = 15)) := by
  simp [State.takes, State.strapInvalid, State.addressed]

/-- A SERVICE frame that the station does not take ends its slot, and nothing more (R184). -/
theorem IsService.untaken (h : IsService c n broadcast args) (hr : s.receives = true) (ha : args.length ≤ 7)
    (ht : ¬(s.straps.number ≠ 15 ∧ (n.val = s.straps.number ∨ (broadcast = true ∧ n.val = 15)))) :
    exec c s = .next ((s.setView .busy).heard n) := by
  obtain ⟨serve, e⟩ := h s
  have hstraps : ((s.setView .busy).heard n).straps = s.straps := by
    obtain ⟨_, k⟩ := State.heard_frame (s.setView .busy) n
    rw [k]; rfl
  rw [e]
  unfold State.service
  rw [if_pos hr, if_pos (by simpa [serviceArgsOk] using ha)]
  refine congrArg Host.Outcome.next (if_neg ?_)
  rwa [State.takes_iff, hstraps]

/-- A SERVICE command that the station takes with both REPLY slots full is ignored and counted (R184). -/
theorem IsService.ignored (h : IsService c n broadcast args) (hr : s.receives = true) (ha : args.length ≤ 7)
    (hn : s.straps.number ≠ 15) (hfull : 2 ≤ s.line.queue.reply.length)
    (ht : n.val = s.straps.number ∨ (broadcast = true ∧ n.val = 15)) :
    exec c s = .next { s.atSlotEnd with svc := { s.svc with ignored := min (s.svc.ignored + 1) 65535 } } := by
  obtain ⟨serve, e⟩ := h s
  have htakes : s.atSlotEnd.takes n broadcast = true := State.takes_iff.mpr ⟨hn, ht⟩
  have hslots : s.atSlotEnd.line.replyFull = true := decide_eq_true hfull
  rw [e]
  unfold State.service State.withSlot
  rw [if_pos hr, if_pos (by simpa [serviceArgsOk] using ha), State.setView_heard (ht.imp_right And.right)]
  dsimp only
  rw [if_pos htakes, if_pos hslots]
  rfl

/-! ## The commands by their codes -/

/-- The commands that a station takes at its own number alone (R185). -/
def ownCommands (n : Fin 16) (args : List Byte) : List Instr :=
  [.read n args, .faultAck n args, .faultClear n args, .setupEnter n args, .storeWriteLowHalf n args,
    .storeWriteHighHalf n args, .storeCommit n args, .testOutput n args, .setupExit n args]

/-- The commands that may be broadcast (R185). -/
def broadcastCommands (n : Fin 16) (args : List Byte) : List Instr :=
  [.identify n args, .restart n args, .faultCall n args]

theorem isService_ownCommands : ∀ c ∈ ownCommands n args, IsService c n false args := by
  simp only [ownCommands, List.forall_mem_cons, List.not_mem_nil, false_implies, implies_true, and_true]
  exact ⟨fun _ => ⟨_, rfl⟩, fun _ => ⟨_, rfl⟩, fun _ => ⟨_, rfl⟩, fun _ => ⟨_, rfl⟩, fun _ => ⟨_, rfl⟩, fun _ => ⟨_, rfl⟩,
    fun _ => ⟨_, rfl⟩, fun _ => ⟨_, rfl⟩, fun _ => ⟨_, rfl⟩⟩

theorem isService_broadcastCommands : ∀ c ∈ broadcastCommands n args, IsService c n true args := by
  simp only [broadcastCommands, List.forall_mem_cons, List.not_mem_nil, false_implies, implies_true, and_true]
  exact ⟨fun _ => ⟨_, rfl⟩, fun _ => ⟨_, rfl⟩, fun _ => ⟨_, rfl⟩⟩

theorem exists_isService (h : c ∈ ownCommands n args ∨ c ∈ broadcastCommands n args) :
    ∃ broadcast, IsService c n broadcast args :=
  h.elim (fun k => ⟨false, isService_ownCommands c k⟩) fun k => ⟨true, isService_broadcastCommands c k⟩

theorem execUnknownCommand_next {code : Fin 16} (h : code.val = 0 ∨ 12 < code.val) (s : State) :
    exec (.unknownCommand n code args) s =
      .next (s.service n false args fun t => t.withSlot fun t => t.reply code.val .unknown []) := by
  have hnamed : ¬commandCodeNamed code = true := by simp only [commandCodeNamed, Bool.and_eq_true, decide_eq_true_eq]; omega
  exact congrArg Host.Outcome.next (if_neg hnamed)

/-- A code that names no command may not be broadcast (R185). -/
theorem isService_unknownCommand (h : ∃ code : Fin 16, (code.val = 0 ∨ 12 < code.val) ∧ c = .unknownCommand n code args) :
    IsService c n false args := by
  obtain ⟨code, hcode, rfl⟩ := h
  exact fun s => ⟨_, execUnknownCommand_next hcode s⟩

end

/-- Settles O60: every SERVICE command ends in the same way, so that what it does unserved follows from its addressee,
whether it may be broadcast, and the REPLY slots alone. -/
theorem unknownIgnoredAndUntaken : Obligations.UnknownIgnoredAndUntaken := by
  refine ⟨fun s n code args h ha hcode => ?unknown, fun s n args c hr hn hfull ha hc => ?ignored,
    fun s n args c hr ha hn hb hc => ?other, fun s n args c hr ha hn hb hc => ?broadcast⟩
  case unknown =>
    rw [execUnknownCommand_next hcode]
    exact congrArg Host.Outcome.next (State.service_eq h ha fun t => t.reply code.val .unknown [])
  case ignored =>
    obtain ⟨ht, hc⟩ | ⟨ht, hc⟩ | ⟨hb, hc⟩ := hc
    · obtain ⟨_, hservice⟩ := exists_isService (c := c) (n := n) (args := args) (by
        simp only [ownCommands, broadcastCommands, List.mem_cons] at *; tauto)
      exact hservice.ignored hr ha hn hfull (.inl ht)
    · exact (isService_unknownCommand hc).ignored hr ha hn hfull (.inl ht)
    · exact (isService_broadcastCommands c hc).ignored hr ha hn hfull (.inr ⟨rfl, hb⟩)
  case other =>
    have hservice : ∃ broadcast, IsService c n broadcast args := by
      obtain hc | hc := hc
      · exact exists_isService (by simp only [ownCommands, broadcastCommands, List.mem_cons] at *; tauto)
      · exact ⟨false, isService_unknownCommand hc⟩
    obtain ⟨broadcast, hservice⟩ := hservice
    rw [hservice.untaken hr ha fun k => k.2.elim hn fun k => hb k.2, State.setView_heard_other hn hb]
    rfl
  case broadcast =>
    have hservice : IsService c n false args := hc.elim (isService_ownCommands c) isService_unknownCommand
    rw [hservice.untaken hr ha (by rintro ⟨-, k | ⟨k, -⟩⟩; exacts [hn (k.symm.trans hb), nomatch k]),
      State.setView_heard (.inr hb)]

end Sys2Proof.Machine
end

section
/-! PROOFS. How an entry joins the Fault List, and what its operations keep of it (R192, R193). -/

namespace Sys2Proof.Machine

set_option Elab.async false

/-! ## An entry made (R192) -/

/-- What an entry is of: no two of the list agree in it. -/
def FaultEntry.key (e : FaultEntry) : FaultKind × Option Nat := (e.kind, e.index)

/-- The entry after one more occurrence. -/
def FaultEntry.repeated (e : FaultEntry) : FaultEntry := { e with occurrences := satInc 255 e.occurrences, acked := false }

theorem FaultEntry.same_iff (e : FaultEntry) (kind : FaultKind) (index : Option Nat) :
    e.same kind index = true ↔ e.kind = kind ∧ e.index = index := by simp [FaultEntry.same]

section
variable {l : FaultList} {kind : FaultKind} {index : Option Nat} (clock : Nat)

theorem FaultList.add_repeats (h : l.entries.any (·.same kind index) = true) : l.add kind index clock =
    { l with entries := l.entries.map fun e => if e.same kind index then e.repeated else e } := if_pos h

/-- The entries of another kind or index stay as they are, and the one of them takes one more occurrence. -/
theorem FaultList.add_known {before after : List FaultEntry} {e : FaultEntry} (hl : l.entries = before ++ e :: after)
    (he : e.kind = kind ∧ e.index = index) (hd : ∀ d ∈ before ++ after, ¬(d.kind = kind ∧ d.index = index)) :
    l.add kind index clock = { l with entries := before ++ e.repeated :: after } := by
  have hsame : e.same kind index = true := (e.same_iff kind index).mpr he
  have hother : ∀ m : List FaultEntry, (∀ d ∈ m, d ∈ before ++ after) →
      (m.map fun d => if d.same kind index then d.repeated else d) = m := fun m hm => by
    refine (List.map_congr_left fun d hdm => if_neg ?_).trans (List.map_id m)
    rw [d.same_iff]
    exact hd d (hm d hdm)
  rw [FaultList.add_repeats clock (by rw [hl]; simp [hsame]), hl, List.map_append, List.map_cons, if_pos hsame,
    hother before fun d => List.mem_append_left after, hother after fun d => List.mem_append_right before]

theorem FaultList.not_any_same_iff :
    ¬l.entries.any (·.same kind index) = true ↔ ∀ d ∈ l.entries, ¬(d.kind = kind ∧ d.index = index) := by
  simp only [List.any_eq_true, FaultEntry.same_iff, not_exists, not_and]

theorem FaultList.add_appends (h : ∀ d ∈ l.entries, ¬(d.kind = kind ∧ d.index = index)) (hlen : l.entries.length < 8) :
    l.add kind index clock = { l with entries := l.entries ++ [⟨kind, index, clock, 1, false⟩] } :=
  (if_neg (not_any_same_iff.mpr h)).trans (if_pos hlen)

theorem FaultList.add_displaces (h : ∀ d ∈ l.entries, ¬(d.kind = kind ∧ d.index = index)) (hlen : 8 ≤ l.entries.length)
    (ha : l.entries.any (·.acked) = true) :
    l.add kind index clock = { l with entries := dropFirstAcked l.entries ++ [⟨kind, index, clock, 1, false⟩] } :=
  (if_neg (not_any_same_iff.mpr h)).trans ((if_neg (Nat.not_lt.mpr hlen)).trans (if_pos ha))

theorem FaultList.add_overflows (h : ∀ d ∈ l.entries, ¬(d.kind = kind ∧ d.index = index)) (hlen : 8 ≤ l.entries.length)
    (ha : ∀ d ∈ l.entries, d.acked = false) : l.add kind index clock = { l with overflow := true } :=
  (if_neg (not_any_same_iff.mpr h)).trans ((if_neg (Nat.not_lt.mpr hlen)).trans (if_neg (by simpa using ha)))

end

/-- The first acknowledged entry goes. -/
theorem dropFirstAcked_append {before after : List FaultEntry} {e : FaultEntry} (he : e.acked = true)
    (hb : ∀ d ∈ before, d.acked = false) : dropFirstAcked (before ++ e :: after) = before ++ after := by
  induction before with
  | nil => exact if_pos he
  | cons d t ih =>
    obtain ⟨hd, ht⟩ := List.forall_mem_cons.mp hb
    refine (if_neg (by rw [hd]; decide)).trans ?_
    exact congrArg (d :: ·) (ih ht)

/-- Settles O54: by the list's own cases, and where an acknowledged entry makes room, at the first of them. -/
theorem faultEntryMade : Obligations.FaultEntryMade := by
  refine fun l kind index clock => ⟨fun before after e hl he hd => FaultList.add_known clock hl he hd, fun h =>
    ⟨FaultList.add_appends clock h, fun before after e hlen hl he hb => ?_, FaultList.add_overflows clock h⟩⟩
  rw [FaultList.add_displaces clock h hlen (by rw [hl]; simp [he]), hl, dropFirstAcked_append he hb]

/-! ## What the list keeps (R192) -/

/-- `State.FaultsOk` of a Fault List: the invariant reads nothing else of the state. -/
structure FaultList.Ok (l : FaultList) : Prop where
  count       : l.entries.length ≤ 8
  apart       : (l.entries.map FaultEntry.key).Nodup
  occurrences : ∀ e ∈ l.entries, 1 ≤ e.occurrences ∧ e.occurrences ≤ 255

theorem pairwise_key_iff (l : List FaultEntry) :
    (l.Pairwise fun x y => ¬(x.kind = y.kind ∧ x.index = y.index)) ↔ (l.map FaultEntry.key).Nodup := by
  simp only [List.Nodup, List.pairwise_map, FaultEntry.key, ne_eq, Prod.mk.injEq]

theorem State.faultsOk_iff (s : State) : s.FaultsOk ↔ s.faults.Ok :=
  ⟨fun h => ⟨h.count, (pairwise_key_iff _).mp h.apart, h.occurrences⟩,
    fun h => ⟨h.count, (pairwise_key_iff _).mpr h.apart, h.occurrences⟩⟩

/-- A list whose kinds and indices are some of such a list's. -/
theorem FaultList.Ok.shrink {l m : FaultList} (h : l.Ok)
    (hk : (m.entries.map FaultEntry.key).Sublist (l.entries.map FaultEntry.key))
    (ho : ∀ e ∈ m.entries, 1 ≤ e.occurrences ∧ e.occurrences ≤ 255) : m.Ok where
  count := by simpa using hk.length_le.trans (by simpa using h.count)
  apart := h.apart.sublist hk
  occurrences := ho

theorem FaultList.Ok.sublist {l m : FaultList} (h : l.Ok) (hs : m.entries.Sublist l.entries) : m.Ok :=
  h.shrink (hs.map FaultEntry.key) fun e he => h.occurrences e (hs.subset he)

theorem FaultList.Ok.map {l m : FaultList} (h : l.Ok) (f : FaultEntry → FaultEntry) (hm : m.entries = l.entries.map f)
    (hk : ∀ e, (f e).key = e.key)
    (ho : ∀ e, 1 ≤ e.occurrences ∧ e.occurrences ≤ 255 → 1 ≤ (f e).occurrences ∧ (f e).occurrences ≤ 255) : m.Ok := by
  refine h.shrink (by rw [hm, List.map_map, show FaultEntry.key ∘ f = FaultEntry.key from funext hk]) fun e he => ?_
  rw [hm] at he
  obtain ⟨x, hx, rfl⟩ := List.mem_map.mp he
  exact ho x (h.occurrences x hx)

/-- A first occurrence at the end, of a kind and index that the list does not hold. -/
theorem FaultList.Ok.push {l m : FaultList} (h : l.Ok) {e : FaultEntry} (hm : m.entries = l.entries ++ [e])
    (hlen : l.entries.length < 8) (hk : e.key ∉ l.entries.map FaultEntry.key) (ho : e.occurrences = 1) : m.Ok where
  count := by rw [hm]; simpa using hlen
  apart := by
    rw [hm, List.map_append]
    exact List.nodup_append'.mpr ⟨h.apart, List.nodup_singleton _, by simpa using hk⟩
  occurrences x hx := by
    rw [hm, List.mem_append, List.mem_singleton] at hx
    obtain hx | rfl := hx
    · exact h.occurrences x hx
    · omega

theorem dropFirstAcked_sublist (l : List FaultEntry) : (dropFirstAcked l).Sublist l := by
  induction l with
  | nil => exact .slnil
  | cons e t ih =>
    unfold dropFirstAcked
    split
    · exact List.sublist_cons_self e t
    · exact ih.cons_cons e

theorem dropFirstAcked_length {l : List FaultEntry} (h : l.any (·.acked) = true) :
    (dropFirstAcked l).length + 1 = l.length := by
  induction l with
  | nil => cases h
  | cons e t ih =>
    unfold dropFirstAcked
    split
    · rfl
    · rename_i he
      rw [List.any_cons, Bool.or_eq_true] at h
      exact congrArg (· + 1) (ih (h.resolve_left he))

/-- An entry made keeps the list (R192). -/
theorem FaultList.Ok.add {l : FaultList} (h : l.Ok) (kind : FaultKind) (index : Option Nat) (clock : Nat) :
    (l.add kind index clock).Ok := by
  by_cases hany : l.entries.any (·.same kind index) = true
  · rw [FaultList.add_repeats clock hany]
    refine h.map _ rfl (fun e => by split <;> rfl) fun e he => ?_
    split
    · exact ⟨show 1 ≤ min (e.occurrences + 1) 255 by omega, satInc_le 255 _⟩
    · exact he
  · have hd := FaultList.not_any_same_iff.mp hany
    have hkey : (kind, index) ∉ l.entries.map FaultEntry.key := fun k => by
      obtain ⟨d, hdm, hdk⟩ := List.mem_map.mp k
      exact hd d hdm (Prod.mk.inj hdk)
    rcases Nat.lt_or_ge l.entries.length 8 with hlen | hlen
    · rw [FaultList.add_appends clock hd hlen]
      exact h.push rfl hlen hkey rfl
    · by_cases ha : l.entries.any (·.acked) = true
      · rw [FaultList.add_displaces clock hd hlen ha]
        have hdrop : (⟨dropFirstAcked l.entries, l.overflow⟩ : FaultList).Ok := h.sublist (dropFirstAcked_sublist _)
        have := dropFirstAcked_length ha
        have := h.count
        exact hdrop.push rfl (show (dropFirstAcked l.entries).length < 8 by omega)
          (fun k => hkey (((dropFirstAcked_sublist _).map _).subset k)) rfl
      · rw [FaultList.add_overflows clock hd hlen (by simpa using ha)]
        exact h.sublist (List.Sublist.refl _)

/-! ## FAULT ACK (R193) -/

theorem ackAt_getElem? (l : List FaultEntry) (n j : Nat) :
    (ackAt l n)[j]? = l[j]?.map fun e => if j = n then { e with acked := true } else e := by
  induction l generalizing n j with
  | nil => rfl
  | cons e t ih =>
    cases n with
    | zero => cases j <;> simp [ackAt]
    | succ n => cases j <;> simp [ackAt, ih]

theorem ackAt_key (l : List FaultEntry) (n : Nat) : (ackAt l n).map FaultEntry.key = l.map FaultEntry.key := by
  induction l generalizing n with
  | nil => rfl
  | cons e t ih =>
    cases n with
    | zero => rfl
    | succ n => exact congrArg (e.key :: ·) (ih n)

theorem FaultList.Ok.ack {l m : FaultList} (h : l.Ok) {n : Nat} (hm : m.entries = ackAt l.entries n) : m.Ok := by
  refine h.shrink (by rw [hm, ackAt_key]) fun e he => ?_
  rw [hm] at he
  obtain ⟨j, hj⟩ := List.mem_iff_getElem?.mp he
  rw [ackAt_getElem?] at hj
  obtain ⟨x, hx, rfl⟩ := Option.map_eq_some_iff.mp hj
  have := h.occurrences x (List.mem_of_getElem? hx)
  split <;> exact this

end Sys2Proof.Machine
end

section
/-! PROOFS. The configuration store, the staging image and the Fault List through every command: what each does to them is
an order of a restart (R187), an entry made (R192), or the work of the SERVICE commands (R188 to R190, R193). -/

namespace Sys2Proof.Machine

set_option Elab.async false

/-- What the two invariants read: the store, the staging image and the Fault List. -/
def State.records (s : State) : Option Memory × Option Memory × FaultList := (s.store, s.svc.staging, s.faults)

theorem State.buffersWf_iff (s : State) :
    s.BuffersWf ↔ s.records.1.all Memory.wf = true ∧ s.records.2.1.all Memory.wf = true := Iff.rfl

/-- A change that keeps the buffers in canonical form and the Fault List as R192 has it. -/
structure RecordsKept (s t : State) : Prop where
  buffers : s.BuffersWf → t.BuffersWf
  faults  : s.FaultsOk → t.FaultsOk

theorem RecordsKept.aside {s t : State} (h : t.records = s.records := by rfl) : RecordsKept s t where
  buffers k := by rw [State.buffersWf_iff] at *; rwa [h]
  faults k := by
    have hf : t.faults = s.faults := congrArg (fun r => r.2.2) h
    rw [State.faultsOk_iff] at *; rwa [hf]

theorem RecordsKept.trans {s t u : State} (h : RecordsKept s t) (k : RecordsKept t u) : RecordsKept s u :=
  ⟨fun b => k.buffers (h.buffers b), fun f => k.faults (h.faults f)⟩

theorem RecordsKept.ite {s a b : State} {p : Prop} [Decidable p] (ha : RecordsKept s a := by exact .aside)
    (hb : RecordsKept s b := by exact .aside) : RecordsKept s (if p then a else b) := by
  split
  · exact ha
  · exact hb

/-- Work on the Fault List alone. -/
theorem RecordsKept.ofFaults {s t : State} (hk : s.faults.Ok → t.faults.Ok) (hm : t.store = s.store := by rfl)
    (hg : t.svc.staging = s.svc.staging := by rfl) : RecordsKept s t where
  buffers b := by rw [State.BuffersWf] at *; rwa [hm, hg]
  faults k := (State.faultsOk_iff t).mpr (hk ((State.faultsOk_iff s).mp k))

/-- Work on the buffers alone. -/
theorem RecordsKept.ofBuffers {s t : State} (hb : s.BuffersWf → t.BuffersWf) (hf : t.faults = s.faults := by rfl) :
    RecordsKept s t where
  buffers := hb
  faults k := by rw [State.faultsOk_iff] at *; rwa [hf]

/-! ## The shared operations -/

namespace RecordsKept

variable (s : State)

theorem addFault (kind : FaultKind) (index : Option Nat) : RecordsKept s (s.addFault kind index) :=
  .ofFaults fun h => h.add kind index _

theorem orderRestart : RecordsKept s s.orderRestart :=
  .ofBuffers fun ⟨hm, hg⟩ => ⟨by
    show Option.all _ (if s.svc.programming = true then none else s.store) = true
    split
    · rfl
    · exact hm, hg⟩

theorem settle (b : State) (x : Bool) : RecordsKept s (s.settle b x) := .aside (by simp [State.records])

theorem requestStatus : RecordsKept s s.requestStatus := .aside (by simp [State.records])

theorem requestAnnounce : RecordsKept s s.requestAnnounce := .aside (by simp [State.records])

theorem reloadQuiet : RecordsKept s s.reloadQuiet := .ite

theorem recomputeLocal : RecordsKept s s.recomputeLocal := .aside

theorem withSupply (u : Supply) : RecordsKept s (s.withSupply u) := .aside

theorem enterFlashOn (x : SideSet) (k : OnEntry) : RecordsKept s (s.enterFlashOn x k) := .aside (by simp [State.records])

/-! ## The line and received frames -/

theorem orderIfLeft (q : Queue) : RecordsKept s (s.orderIfLeft q) := .ite (.orderRestart s)

theorem enterIsolated : RecordsKept s s.enterIsolated := .trans .aside (.addFault _ _ _)

theorem findDuplicate : RecordsKept s s.findDuplicate := .ite .aside (.trans .aside (.addFault _ _ _))

theorem attemptFailed (f : InFlight) : RecordsKept s (s.attemptFailed f) := by
  have hleft : RecordsKept s ((s.withLine (s.line.failAttempt f)).orderIfLeft s.line.queue) :=
    .trans .aside (.orderIfLeft _ _)
  exact .ite .aside (.ite (hleft.trans (.enterIsolated _)) hleft)

theorem takeLine : RecordsKept s s.takeLine := by
  rcases State.takeLine_cases s with h | ⟨_, _, _, _, _, _, h⟩ <;> rw [h]
  · exact .aside
  · exact .aside

theorem flashHanded (b : State) (c : FlashContent) : RecordsKept s (s.flashHanded b c) := by
  obtain ⟨_, _, h⟩ := State.alignTo_frame s c
  exact .ite (.trans (.aside (by rw [h]; rfl)) (.settle _ b true))

theorem raiseObjection : RecordsKept s s.raiseObjection := .ite

theorem takeStatus (b : State) (n : Nat) (p : List Byte) : RecordsKept s (s.takeStatus b n p) := by
  refine .ite ?_
  split
  · exact .trans .aside (.settle _ _ _)
  · exact .aside

theorem takeAnnounce (b : State) (n : Nat) (p : List Byte) : RecordsKept s (s.takeAnnounce b n p) := by
  unfold State.takeAnnounce
  split
  · exact .aside
  · exact .trans .aside (.settle _ _ _)

theorem takeFlash (b : State) (n : Nat) (byte : Byte) : RecordsKept s (s.takeFlash b n byte) := by
  obtain ⟨_, _, h⟩ := State.flashTaken_frame s n byte
  rw [State.takeFlash_eq]
  exact .trans (.aside (by rw [h]; rfl)) (.settle _ _ _)

theorem receive (n : Fin 16) (format : Bool) {hand : State → State} (h : ∀ t, RecordsKept t (hand t)) :
    RecordsKept s (s.receive n format hand) := by
  rcases State.receive_cases s n format hand with ⟨-, e⟩ | ⟨-, -, e⟩ | ⟨-, -, e⟩ <;> rw [e]
  · exact .aside
  · exact .trans .aside (.raiseObjection _)
  · have hcheck : RecordsKept (s.setView .busy) ((s.setView .busy).duplicateCheck n) := .ite (.findDuplicate _)
    exact .trans .aside (hcheck.trans (h _))

/-! ## Samples, channels and drain -/

theorem trip (i : Fin 8) : RecordsKept s (s.trip i) := by
  refine .trans ?_ (.addFault _ _ _)
  exact .ite .ite .ite

theorem bulbOut (x : Side) : RecordsKept s (s.bulbOut x) := by
  cases x <;> exact .ite .aside (.trans .aside (.addFault _ _ _))

theorem currentCompleted (i : Fin 8) : RecordsKept s (s.currentCompleted i) := by
  have hstall : RecordsKept s ((s.compareCurrent i).judgeStall i) := .ite
  exact hstall.trans (.ite (.ite (.trans .aside (.bulbOut _ _))))

theorem senderCompleted (n : Fin 4) : RecordsKept s (s.senderCompleted n) := by
  have hjudged : ∀ (t : State) (p q : Prop) [Decidable p] [Decidable q], RecordsKept t
      (if q then (if p then t.addFault .senderFault (some n.val) else t).reloadQuiet
        else if p then t.addFault .senderFault (some n.val) else t) := fun t _ _ _ _ =>
    .trans (.ite (.addFault t _ _)) (.ite (.reloadQuiet _))
  unfold State.senderCompleted
  refine .trans (.trans ?_ (hjudged _ _ _)) (.recomputeLocal _)
  exact .aside

theorem judgeThermal : RecordsKept s s.judgeThermal := .ite .ite (.ite (.trans .aside (.addFault _ _ _)))

theorem drainStep : RecordsKept s s.drainStep := by
  unfold State.drainStep
  split
  · exact .aside
  · exact .ite (.ite (.trans .aside (.addFault _ _ _)))

theorem sampleInput (input : SlotInput) (x : Int) (beyond : Bool) : RecordsKept s (s.sampleInput input x beyond) := by
  cases input with
  | supply => exact .ite (.trans .aside (.settle _ _ _))
  | die => exact .ite (.trans .aside ((judgeThermal _).trans (.settle _ _ _)))
  | battery => exact .ite (.ite (.trans .aside (.settle _ _ _)))
  | channel i =>
    have hdone : ∀ (t : State) (trips done : Bool), RecordsKept t
        (if done then (if trips then t.trip i else t).currentCompleted i else if trips then t.trip i else t) :=
      fun t trips done =>
      have htrip : RecordsKept t (if trips then t.trip i else t) := .ite (.trip t i)
      .ite (htrip.trans (.currentCompleted _ i)) htrip
    exact .ite (.trans .aside ((hdone _ _ _).trans (.settle _ _ _))) (.trans .aside (hdone _ _ _))
  | sender n => exact .ite (.trans .aside ((senderCompleted _ n).trans (.settle _ _ _)))

/-! ## Power, resets, sleep and wakes -/

theorem powerDown : RecordsKept s s.powerDown :=
  .ofBuffers fun h => (orderRestart s).buffers h

theorem enterAsleep : RecordsKept s s.enterAsleep := by
  rw [State.enterAsleep_eq]
  exact .trans .aside (.orderIfLeft _ _)

theorem enterStarting (announce : Bool) : RecordsKept s (s.enterStarting announce) := by
  have hset : RecordsKept s (s.atStart.settle s.atStart false).requestStatus :=
    .trans .aside ((settle _ _ _).trans (.requestStatus _))
  rw [State.enterStarting_eq]
  exact .ite (hset.trans (.requestAnnounce _)) hset

/-- A reset keeps the store, and begins without a staging image and with an empty Fault List (R175). -/
theorem takeReset (p : StrapPins) (u : Supply) (c : ResumeCause) : RecordsKept s (s.takeReset p u c) := by
  have hlist : (s.atReset p u c).faults.Ok := by
    unfold State.atReset
    dsimp only
    split <;> exact ⟨by decide, by decide, by decide⟩
  have hreset : RecordsKept s (s.atReset p u c) :=
    ⟨fun ⟨hm, _⟩ => ⟨hm, rfl⟩, fun _ => (State.faultsOk_iff _).mpr hlist⟩
  rw [State.takeReset_eq]
  exact hreset.trans (.enterStarting _ _)

theorem wakeUp (c : ResumeCause) (i : Option Nat) : RecordsKept s (s.wakeUp c i) := by
  rw [State.wakeUp_eq]
  exact .trans .aside (.enterStarting _ _)

/-! ## SERVICE commands -/

theorem service (n : Fin 16) (broadcast : Bool) (args : List Byte) {serve : State → State}
    (h : ∀ t, RecordsKept t (serve t)) : RecordsKept s (s.service n broadcast args fun t => t.withSlot serve) := by
  have hheard : RecordsKept s ((s.setView .busy).heard n) := .trans .aside (.ite (.reloadQuiet _))
  rcases State.service_cases s n broadcast args (fun t => t.withSlot serve) with
    ⟨-, e⟩ | ⟨-, -, e⟩ | ⟨-, -, -, e⟩ | ⟨-, -, -, e⟩ <;> rw [e]
  · exact .aside
  · exact .trans .aside (.raiseObjection _)
  · exact hheard
  · exact hheard.trans (.ite .aside (h _))

theorem serveIdentify (args : List Byte) : RecordsKept s (s.serveIdentify args) :=
  .ite (.trans .aside (.requestAnnounce _))

theorem serveRead (args : List Byte) : RecordsKept s (s.serveRead args) := by
  unfold State.serveRead
  split
  · split <;> exact .aside
  · exact .aside

theorem serveFaultCall (n : Fin 16) (args : List Byte) : RecordsKept s (s.serveFaultCall n args) := by
  refine .ite ?_
  split
  · exact .aside
  · exact .ite

theorem serveFaultAck (args : List Byte) : RecordsKept s (s.serveFaultAck args) := by
  unfold State.serveFaultAck
  split
  · exact .ite (.ofFaults fun h => h.ack rfl)
  · exact .aside

theorem serveFaultClear (args : List Byte) : RecordsKept s (s.serveFaultClear args) :=
  .ite (.ofFaults fun h => h.sublist List.filter_sublist)

theorem enterSetup : RecordsKept s s.enterSetup := by
  have hfilled : RecordsKept s s.inSetup := .ofBuffers fun ⟨hm, _⟩ => ⟨hm, Memory.ofBytes_wf _⟩
  rw [State.enterSetup_eq]
  exact hfilled.trans (.settle _ _ _)

theorem serveSetupEnter (args : List Byte) : RecordsKept s (s.serveSetupEnter args) :=
  .ite .aside (.ite .aside (.ite (.trans .aside (.enterSetup _))))

/-- Work on the staging image that keeps a canonical form. -/
theorem editing {s t : State} {f : Memory → Memory} (hf : ∀ m : Memory, m.wf = true → (f m).wf = true)
    (hg : t.svc.staging = s.svc.staging.map f := by rfl) (hm : t.store = s.store := by rfl)
    (hl : t.faults = s.faults := by rfl) : RecordsKept s t := by
  refine .ofBuffers (fun ⟨km, kg⟩ => ⟨hm ▸ km, ?_⟩) hl
  rw [hg]
  cases hs : s.svc.staging with
  | none => rfl
  | some m => rw [hs] at kg; exact hf m kg

theorem serveStoreWrite (c base : Nat) (args : List Byte) : RecordsKept s (s.serveStoreWrite c base args) := by
  refine .ite .aside (.ite .aside ?_)
  split
  · exact .aside
  · exact .editing fun _ h => Memory.writeAll_wf h _ _

theorem serveStoreCommit (args : List Byte) : RecordsKept s (s.serveStoreCommit args) := by
  refine .ite .aside (.ite .aside (.ite .aside ?_))
  split
  · exact .aside
  · exact .editing fun _ h => Memory.withCheck_wf h

theorem serveTestOutput (b : State) (args : List Byte) : RecordsKept s (s.serveTestOutput b args) := by
  have htest : ∀ (t : State) (i : Fin 8) (d m : Nat), RecordsKept t (t.enterTest i d m) := fun _ _ _ _ => .ite .aside .ite
  exact .ite .aside (.ite (.trans .aside ((htest _ _ _ _).trans (.settle _ _ _))))

theorem replyRestart (c : Nat) : RecordsKept s (s.replyRestart c) := .ite (.trans .aside (.orderRestart _))

theorem serveSetupExit (args : List Byte) : RecordsKept s (s.serveSetupExit args) :=
  .ite .aside (.ite .aside (.replyRestart s _))

theorem serveRestart (args : List Byte) : RecordsKept s (s.serveRestart args) := .ite .aside (.replyRestart s _)

/-- At the end of the programming the store is the staging image (R190). -/
theorem programmingEnd : RecordsKept s
    (((s.withStore s.svc.staging).withSvc { s.svc with programming := false }).withSlot fun t => t.reply 9 .ok []) := by
  have hstored : RecordsKept s ((s.withStore s.svc.staging).withSvc { s.svc with programming := false }) :=
    .ofBuffers fun ⟨_, hg⟩ => ⟨hg, hg⟩
  exact hstored.trans .ite

end RecordsKept

end Sys2Proof.Machine
end

section
namespace Sys2Proof.Machine

set_option Elab.async false

/-! ## Every command -/

/-- Hand-ons over a change. -/
theorem RecordsKept.settled {s u b : State} {x : Bool} (h : RecordsKept s u := by exact .aside) :
    RecordsKept s (u.settle b x) := h.trans (.settle u b x)

theorem RecordsKept.attempt {s : State} {o : Option InFlight} {p : Prop} [Decidable p] {g : InFlight → State}
    (h : ∀ f, RecordsKept s (g f)) : RecordsKept s (match o with | some f => if p then g f else s | none => s) := by
  cases o with
  | none => exact .aside
  | some f => exact .ite (h f)

/-- Every command keeps the buffers in canonical form and the Fault List as R192 has it. -/
theorem exec_recordsKept (c : Instr) (s : State) : ∃ t, exec c s = .next t ∧ RecordsKept s t := by
  cases c with
  | lineBreak | truncatedFrame | statusSpacingEnd | lineIdle | passTimer | runTimerExpiry | spinUpGraceExpiry | gaugeUpdate
  | inputWake | ignWake | wakePulseEnd | stationClockTick | switchRawChange | ignPinChange => exact ⟨_, rfl, .ite⟩
  | holdTimerExpiry | ignDebounceExpiry | retryWaitExpiry | persistenceTimerExpiry | crankReleaseExpiry | holdTimerEnd
  | rampUpdate | stallWaitExpiry | fanRetryWaitExpiry | deferralEnd => exact ⟨_, rfl, .ite .settled⟩
  | inrushWindowExpiry | testDurationExpiry => exact ⟨_, rfl, .ite (.settled .ite)⟩
  | joinWindowExpiry =>
    refine ⟨_, rfl, .ite (.settled (.trans ?_ (.withSupply _ _)))⟩
    exact .ite
  | openLoadTimerExpiry => exact ⟨_, rfl, .ite (.ite .aside (.trans .aside (.addFault _ _ _)))⟩
  | stallTimerExpiry => exact ⟨_, rfl, .ite (.settled (.ite (.trans .aside (.addFault _ _ _))))⟩
  | fanRunTimerExpiry =>
    refine ⟨_, rfl, .ite ?_⟩
    dsimp only
    split <;> exact .aside
  | joinStartBit => exact ⟨_, rfl, .ite .aside (.takeLine s)⟩
  | frameOffer => exact ⟨_, rfl, .takeLine s⟩
  | arbitrationLoss => exact ⟨_, rfl, .attempt fun _ => .aside⟩
  | collision =>
    have hf (f : InFlight) : RecordsKept s ((s.withLine s.line.countCollision).attemptFailed f) :=
      .trans .aside (.attemptFailed _ f)
    exact ⟨_, rfl, .attempt fun f => .ite ((hf f).trans (.findDuplicate _)) (hf f)⟩
  | attemptObjected => exact ⟨_, rfl, .attempt fun f => .trans .aside (.attemptFailed _ f)⟩
  | attemptSuccess =>
    have hs (f : InFlight) : RecordsKept s ((s.withLine (s.line.succeed f)).orderIfLeft s.line.queue) :=
      .trans .aside (.orderIfLeft _ _)
    exact ⟨_, rfl, .attempt fun f => .ite ((hs f).trans (.flashHanded _ _ _)) (hs f)⟩
  | objectedFrame =>
    have hobj (b : Bool) : RecordsKept s (if b then (s.setView .busy).raiseObjection else s.setView .busy) :=
      .ite (.trans .aside (.raiseObjection _))
    exact ⟨_, rfl, .ite (.ite (.trans (hobj _) .aside) (hobj _))⟩
  | statusFrame n p => exact ⟨_, rfl, .receive s n _ fun t => .takeStatus t s _ p⟩
  | announceFrame n p => exact ⟨_, rfl, .receive s n _ fun t => .takeAnnounce t s _ p⟩
  | flashFrame n p => exact ⟨_, rfl, .receive s n _ fun t => .takeFlash t s _ _⟩
  | replyFrame n => exact ⟨_, rfl, .receive s n _ fun _ => .aside⟩
  | stuckLine =>
    refine ⟨_, rfl, .ite ?_⟩
    dsimp only
    split
    · exact .trans .aside (.enterIsolated _)
    · exact .aside
    · exact .aside
  | isolationWaitExpiry => exact ⟨_, rfl, .ite (.trans .aside (.requestStatus _))⟩
  | periodicStatusTimer => exact ⟨_, rfl, .ite (.trans (.requestStatus s) .aside)⟩
  | ageingTimerExpiry =>
    refine ⟨_, rfl, ?_⟩
    split
    · exact .ite .settled
    · exact .aside
  | debounceExpiry =>
    have hreload (t : State) (p : Prop) [Decidable p] : RecordsKept t (if p then t.reloadQuiet else t) :=
      .ite (.reloadQuiet t)
    refine ⟨_, rfl, .ite (.settled (.trans (.trans ?_ (hreload _ _)) (.recomputeLocal _)))⟩
    exact .aside
  | sample =>
    refine ⟨_, rfl, ?_⟩
    split
    · exact .ite (.trans .aside (.sampleInput _ _ _ _))
    · exact .aside
  | overTimerExpiry i => exact ⟨_, rfl, .ite (.settled (.trip s i))⟩
  | halfTimerExpiry =>
    refine ⟨_, rfl, .ite ?_⟩
    split
    · exact .settled
    · exact .settled (.enterFlashOn s _ _)
    · exact .aside
    · exact .aside
  | drainTick => exact ⟨_, rfl, .ite (.settled (.trans (.drainStep s) .aside))⟩
  | powerFail => exact ⟨_, rfl, .ite (.powerDown s)⟩
  | powerOnReset => exact ⟨_, rfl, .trans (.powerDown s) (.takeReset _ _ _ _)⟩
  | serviceRestart => exact ⟨_, rfl, .ite (.takeReset s _ _ _)⟩
  | quietTimerExpiry => exact ⟨_, rfl, .ite (.ite (.enterAsleep s) (.reloadQuiet s))⟩
  | lineWake | wakeWaitExpiry => exact ⟨_, rfl, .ite (.wakeUp s _ _)⟩
  | identify => exact ⟨_, rfl, .service s _ _ _ fun t => .serveIdentify t _⟩
  | read => exact ⟨_, rfl, .service s _ _ _ fun t => .serveRead t _⟩
  | faultCall => exact ⟨_, rfl, .service s _ _ _ fun t => .serveFaultCall t _ _⟩
  | faultAck => exact ⟨_, rfl, .service s _ _ _ fun t => .serveFaultAck t _⟩
  | faultClear => exact ⟨_, rfl, .service s _ _ _ fun t => .serveFaultClear t _⟩
  | setupEnter => exact ⟨_, rfl, .service s _ _ _ fun t => .serveSetupEnter t _⟩
  | storeWriteLowHalf | storeWriteHighHalf => exact ⟨_, rfl, .service s _ _ _ fun t => .serveStoreWrite t _ _ _⟩
  | storeCommit => exact ⟨_, rfl, .service s _ _ _ fun t => .serveStoreCommit t _⟩
  | programmingEnd => exact ⟨_, rfl, .ite (.programmingEnd s)⟩
  | testOutput => exact ⟨_, rfl, .service s _ _ _ fun t => .serveTestOutput t s _⟩
  | setupExit => exact ⟨_, rfl, .service s _ _ _ fun t => .serveSetupExit t _⟩
  | restart => exact ⟨_, rfl, .service s _ _ _ fun t => .serveRestart t _⟩
  | unknownCommand => exact ⟨_, rfl, .ite .aside (.service s _ _ _ fun _ => .aside)⟩

theorem step_recordsKept {s t : State} (h : step s = .next t) : RecordsKept s t := by
  rcases step_cases s with ⟨-, e⟩ | ⟨c, rest, -, e⟩
  · cases e.symm.trans h
    exact .aside
  · obtain ⟨u, hu, hk⟩ := exec_recordsKept c (s.withPending rest)
    cases (e.trans hu).symm.trans h
    exact .trans .aside hk

/-- Settles O3: every write, fill and check keeps the canonical form, and a programming hands it to the store. -/
theorem stepKeepsBuffers : Obligations.StepKeepsBuffers := fun _ _ h hs => (step_recordsKept hs).buffers h

/-- Settles O15: an entry made, acknowledged or cleared keeps the list, and a reset begins it afresh. -/
theorem stepKeepsFaultList : Obligations.StepKeepsFaultList := fun _ _ h hs => (step_recordsKept hs).faults h

end Sys2Proof.Machine
end

section
/-! PROOFS. The FAULT commands, and the commands that order a service restart (R184, R185, R187, R193). -/

namespace Sys2Proof.Machine

set_option Elab.async false

/-! ## FAULT CALL (R193) -/

/-- The oldest unacknowledged entry is the first of the list, its place counted from `i`. -/
theorem oldestOpen_of_first {l : List FaultEntry} {k : Nat} {e : FaultEntry} (hk : l[k]? = some e) (he : e.acked = false)
    (hb : ∀ (j : Nat) (d : FaultEntry), j < k → l[j]? = some d → d.acked = true) (i : Nat) :
    oldestOpen l i = some (e, i + k) := by
  induction l generalizing k i with
  | nil => cases hk
  | cons d t ih =>
    cases k with
    | zero =>
      obtain rfl : d = e := Option.some.inj hk
      exact if_neg (by rw [he]; decide)
    | succ k =>
      have htail : oldestOpen t (i + 1) = some (e, i + 1 + k) :=
        ih hk (fun j x hj hx => hb (j + 1) x (Nat.succ_lt_succ hj) hx) (i + 1)
      refine (if_pos (hb 0 d k.succ_pos rfl)).trans (htail.trans ?_)
      rw [Nat.add_assoc, Nat.add_comm 1 k]

theorem oldestOpen_of_all_acked {l : List FaultEntry} (h : ∀ e ∈ l, e.acked = true) (i : Nat) : oldestOpen l i = none := by
  induction l generalizing i with
  | nil => rfl
  | cons e t ih =>
    obtain ⟨he, ht⟩ := List.forall_mem_cons.mp h
    exact (if_pos he).trans (ih ht (i + 1))

section
variable {s : State} {n : Fin 16} {args : List Byte}

theorem execFaultAck_next (h : s.Serves n false) (ha : args.length ≤ 7) :
    exec (.faultAck n args) s = .next (s.atSlotEnd.serveFaultAck args) :=
  congrArg Host.Outcome.next (State.service_eq h ha fun t => t.serveFaultAck args)

theorem execFaultClear_next (h : s.Serves n false) (ha : args.length ≤ 7) :
    exec (.faultClear n args) s = .next (s.atSlotEnd.serveFaultClear args) :=
  congrArg Host.Outcome.next (State.service_eq h ha fun t => t.serveFaultClear args)

theorem execFaultCall_next (h : s.Serves n true) (ha : args.length ≤ 7) :
    exec (.faultCall n args) s = .next (s.atSlotEnd.serveFaultCall n args) :=
  congrArg Host.Outcome.next (State.service_eq h ha fun t => t.serveFaultCall n args)

end

section
variable (s : State) (n : Fin 16) {args : List Byte}

theorem State.serveFaultAck_badLength (h : args.length ≠ 1) : s.serveFaultAck args = s.answered [0x34] := by
  match args with
  | [] => rfl
  | [_] => exact absurd rfl h
  | _ :: _ :: _ => rfl

theorem State.serveFaultClear_badLength (h : args ≠ []) : s.serveFaultClear args = s.answered [0x35] :=
  if_neg (mt List.length_eq_zero_iff.mp h)

theorem State.serveFaultCall_badLength (h : args ≠ []) : s.serveFaultCall n args = s.answered [0x33] :=
  if_neg (mt List.length_eq_zero_iff.mp h)

theorem State.serveFaultCall_of_open {e : FaultEntry} {place : Nat} (h : oldestOpen s.faults.entries 0 = some (e, place)) :
    s.serveFaultCall n [] = s.answered (0x03 :: e.bytes ++ [putByte place]) := by
  unfold State.serveFaultCall
  rw [h]
  rfl

theorem State.serveFaultCall_of_none (h : oldestOpen s.faults.entries 0 = none) :
    s.serveFaultCall n [] = if s.addressed n then s.answered [0x03] else s := by
  unfold State.serveFaultCall
  rw [h]
  rfl

end

/-- Settles O53: by the arguments' length, the place, and the oldest unacknowledged entry. -/
theorem faultCommandsServed : Obligations.FaultCommandsServed := by
  refine ⟨fun s n place h => ⟨fun hp => ?ack, fun hp => ?noEntry⟩, fun s n h => ?clear,
    fun s n k e h hk he hb => ?call, fun s n h hall => ⟨fun hn => ?own, fun hn => ?broadcast⟩,
    fun s n args hlen => ⟨fun h ha => ?_, fun h ha => ?_, fun h ha => ?_⟩⟩
  case ack =>
    refine ⟨ackAt s.faults.entries place.toNat, ?_, ackAt_getElem? _ _⟩
    rw [execFaultAck_next h (by simp)]
    exact congrArg Host.Outcome.next (if_pos hp)
  case noEntry =>
    rw [execFaultAck_next h (by simp)]
    exact congrArg Host.Outcome.next (if_neg (Nat.not_lt.mpr hp))
  case clear =>
    have hopen : (s.faults.entries.filter fun e => !e.acked) = s.faults.entries.filter fun e => decide (e.acked = false) :=
      List.filter_congr fun e _ => by cases e.acked <;> rfl
    rw [execFaultClear_next h (by decide), ← hopen]
    rfl
  case call =>
    refine ⟨e.bytes, e.bytes_sent, ?_⟩
    have hfirst := oldestOpen_of_first hk he hb 0
    rw [Nat.zero_add] at hfirst
    rw [execFaultCall_next h (by decide), s.atSlotEnd.serveFaultCall_of_open n hfirst]
  case own =>
    rw [execFaultCall_next h (by decide), s.atSlotEnd.serveFaultCall_of_none n (oldestOpen_of_all_acked hall 0)]
    exact congrArg Host.Outcome.next (if_pos (decide_eq_true hn))
  case broadcast =>
    have hother : ¬s.atSlotEnd.addressed n = true := fun k => h.number ((of_decide_eq_true k).symm.trans hn)
    rw [execFaultCall_next h (by decide), s.atSlotEnd.serveFaultCall_of_none n (oldestOpen_of_all_acked hall 0),
      if_neg hother]
  · rw [execFaultCall_next h hlen, State.serveFaultCall_badLength _ _ ha]
  · rw [execFaultAck_next h hlen, State.serveFaultAck_badLength _ ha]
  · rw [execFaultClear_next h hlen, State.serveFaultClear_badLength _ ha]

/-! ## SETUP EXIT and RESTART (R187) -/

theorem replyHead_ok (command : Nat) : replyHead .ok command = putByte command := by
  simp only [replyHead, ResultCode.code, Nat.zero_mul, Nat.zero_add]

section
variable {s : State} {n : Fin 16} {args : List Byte}

theorem execSetupExit_next (h : s.Serves n false) (ha : args.length ≤ 7) :
    exec (.setupExit n args) s = .next (s.atSlotEnd.serveSetupExit args) :=
  congrArg Host.Outcome.next (State.service_eq h ha fun t => t.serveSetupExit args)

theorem execRestart_next (h : s.Serves n true) (ha : args.length ≤ 7) :
    exec (.restart n args) s = .next (s.atSlotEnd.serveRestart args) :=
  congrArg Host.Outcome.next (State.service_eq h ha fun t => t.serveRestart args)

end

section
variable {s : State} {args : List Byte}

theorem State.serveSetupExit_notInSetup (hs : s.ctl.state ≠ .setup) : s.serveSetupExit args = s.answered [0x1B] := if_pos hs

theorem State.serveSetupExit_badLength (hs : s.ctl.state = .setup) (ha : args ≠ []) :
    s.serveSetupExit args = s.answered [0x3B] :=
  (if_neg (not_not_intro hs)).trans (if_pos (mt List.length_eq_zero_iff.mp ha))

theorem State.serveSetupExit_nil (hs : s.ctl.state = .setup) : s.serveSetupExit [] = s.replyRestart 11 :=
  if_neg (not_not_intro hs)

theorem State.serveRestart_badLength (ha : args ≠ []) : s.serveRestart args = s.answered [0x3C] :=
  if_pos (mt List.length_eq_zero_iff.mp ha)

end

/-- Settles O56: both commands queue the OK REPLY that carries the order, which an Isolated station takes at once. -/
theorem restartCommandsServed : Obligations.RestartCommandsServed := by
  refine ⟨fun s u n c head hc hu => ?_, fun s n args hlen => ⟨fun h hs => ?_, fun h hs ha => ?_, fun h ha => ?_⟩⟩
  · obtain ⟨command, rfl, hnext⟩ : ∃ command : Nat, head = putByte command ∧
        exec c s = .next (s.atSlotEnd.replyRestart command) := by
      obtain ⟨rfl, rfl, h, hs⟩ | ⟨rfl, rfl, h⟩ := hc
      · refine ⟨11, rfl, ?_⟩
        rw [execSetupExit_next h (by decide), State.serveSetupExit_nil (by rwa [State.atSlotEnd_state])]
      · exact ⟨12, rfl, execRestart_next h (by decide)⟩
    have hline : s.atSlotEnd.withLine (s.atSlotEnd.line.putReply [replyHead .ok command] true) = u := by
      rw [hu, replyHead_ok]
      rfl
    refine ⟨fun hs => hnext.trans (congrArg _ ?_), fun hs => hnext.trans (congrArg _ ?_)⟩
    · exact (if_neg hs).trans hline
    · refine (if_pos hs).trans ((congrArg State.orderRestart hline).trans ?_)
      rw [hu]
      rfl
  · rw [execSetupExit_next h hlen, State.serveSetupExit_notInSetup (by rwa [State.atSlotEnd_state])]
  · rw [execSetupExit_next h hlen, State.serveSetupExit_badLength (by rwa [State.atSlotEnd_state]) ha]
  · rw [execRestart_next h hlen, State.serveRestart_badLength ha]

/-! ## A restart ordered as its REPLY leaves (R187) -/

theorem Queue.restartCount_remove_lt {q : Queue} {e : Entry} (he : e ∈ q.reply) (hr : e.restarts = true) :
    (q.remove .reply e.age).restartCount < q.restartCount := by
  have hcomm : (q.reply.filter (·.age ≠ e.age)).filter (·.restarts) =
      (q.reply.filter (·.restarts)).filter (·.age ≠ e.age) := by
    simp only [List.filter_filter, Bool.and_comm]
  show ((q.reply.filter (·.age ≠ e.age)).filter (·.restarts)).length < (q.reply.filter (·.restarts)).length
  rw [hcomm]
  exact List.length_filter_lt_length_iff_exists.mpr ⟨e, List.mem_filter.mpr ⟨he, hr⟩, by simp⟩

/-- The queue has lost a REPLY that orders a restart: the order is given. -/
theorem State.orderIfLeft_of_left {s : State} {q : Queue} {e : Entry} (he : e ∈ q.reply) (hr : e.restarts = true)
    (hq : s.line.queue = q.remove .reply e.age) : s.orderIfLeft q = s.orderRestart :=
  if_pos (by rw [hq]; exact Queue.restartCount_remove_lt he hr)

/-- The last failed attempt of a REPLY that orders a restart, before the run is judged. -/
theorem State.orderIfLeft_of_last {s : State} {f : InFlight} {e : Entry} (hok : s.line.queue.Ok s.line.sub)
    (hk : f.kind = .reply) (hage : f.age = e.age) (he : e ∈ s.line.queue.reply) (hr : e.restarts = true)
    (hu : 4 ≤ e.used + 1) : (s.withLine (s.line.failAttempt f)).orderIfLeft s.line.queue =
      ({ s with line := { s.line with
        view := .busy, run := min (s.line.run + 1) 255, queue := s.line.queue.remove .reply e.age, inFlight := none
        counters := { s.line.counters with framesDropped := min (s.line.counters.framesDropped + 1) 65535 } } } :
        State).orderRestart := by
  have hl := Line.failAttempt_of_last (l := s.line) (f := f) (by rw [hk, hage]; exact hok.entry?_reply he)
    (by rw [hk]; exact hu)
  rw [hk, hage] at hl
  rw [hl]
  exact State.orderIfLeft_of_left he hr rfl

/-- A failure that leaves the sub-state as it is ends with the order (R18, R187). -/
theorem State.attemptFailed_orders {s : State} {f : InFlight}
    (hs : s.line.sub = .muted ∨ (s.line.sub = .joined ∧ s.line.run + 1 < 16)) :
    s.attemptFailed f = (s.withLine (s.line.failAttempt f)).orderIfLeft s.line.queue := by
  have hn : s.line.sub ≠ .isolated := by rcases hs with h | ⟨h, -⟩ <;> rw [h] <;> decide
  unfold State.attemptFailed
  dsimp only
  rw [if_neg hn, if_neg]
  rw [State.orderIfLeft_line, State.withLine_line]
  rintro ⟨hj, h16⟩
  have hsub : s.line.sub = .joined := hj
  have hrun : 16 ≤ min (s.line.run + 1) 255 := h16
  rcases hs with h | ⟨-, h⟩
  · rw [h] at hsub; cases hsub
  · omega

/-- A failed attempt of a REPLY, by objection or by collision: the attempt's count apart, the two are one. -/
theorem exec_replyFailed {s : State} {f : InFlight} {c : Instr} (hu : s.up = true) (hf : s.line.inFlight = some f)
    (hk : f.kind = .reply) (hc : c = .attemptObjected ∨ c = .collision) : ∃ counters : LineCounters,
      exec c s = .next ((s.withLine { s.line with counters := counters }).attemptFailed f) := by
  rcases hc with rfl | rfl
  · exact ⟨_, execAttemptObjected_next hu hf⟩
  · exact ⟨_, (execCollision_next hu hf).trans (congrArg _ (if_neg (by rw [hk]; decide)))⟩

/-- Settles O23: the entry leaves by the success, or by the last failure, which may isolate the station. -/
theorem restartOrderedAsReplyLeaves : Obligations.RestartOrderedAsReplyLeaves := by
  intro s f e c hok hu hf hk hrep hage he hr
  have hq := (State.queueOk_iff s).mp hok
  refine ⟨fun hc => ?_, fun hc hused hs hrun => ?_⟩
  · obtain rfl | ⟨hc, hused, hs⟩ := hc
    · have hline : (s.line.succeed f).inFlight = none ∧ (s.line.succeed f).queue = s.line.queue.remove .reply e.age := by
        rw [Line.succeed_plain hrep, hk, hage]
        exact ⟨rfl, rfl⟩
      refine ⟨(s.withLine (s.line.succeed f)).orderRestart, ?_, hline.1, hline.2, rfl, rfl, rfl⟩
      rw [execAttemptSuccess_next hu hf, if_neg (by rw [hk]; decide),
        State.orderIfLeft_of_left (s := s.withLine (s.line.succeed f)) he hr hline.2]
    · obtain ⟨counters, hnext⟩ := exec_replyFailed hu hf hk hc
      rw [State.attemptFailed_orders (s := s.withLine { s.line with counters := counters }) hs,
        State.orderIfLeft_of_last (s := s.withLine { s.line with counters := counters }) hq hk hage he hr hused] at hnext
      exact ⟨_, hnext, rfl, rfl, rfl, rfl, rfl⟩
  · obtain ⟨counters, hnext⟩ := exec_replyFailed hu hf hk hc
    rw [State.attemptFailed_isolates (s := s.withLine { s.line with counters := counters }) hs hrun,
      State.orderIfLeft_of_last (s := s.withLine { s.line with counters := counters }) hq hk hage he hr hused] at hnext
    exact ⟨_, hnext, rfl, rfl, rfl, rfl, rfl, rfl⟩

end Sys2Proof.Machine
end

section
/-! PROOFS. STORE WRITE, STORE COMMIT and the end of the programming; the structural errors of an image (R185, R188 to
R191). -/

namespace Sys2Proof.Machine

set_option Elab.async false

/-! ## Bytes read back -/

/-- Bytes written one after another read back as they were written. -/
theorem Memory.read_writeAll_same {m : Memory} (h : m.wf = true) (a : Nat) (bytes : List Byte) {j : Nat}
    (hj : j < bytes.length) (u : a + bytes.length ≤ 512) : (m.writeAll a bytes).read (a + j) = bytes.getD j 0 := by
  induction bytes generalizing m a j with
  | nil => cases hj
  | cons b t ih =>
    rw [List.length_cons] at hj u
    have hb : (m.write a b).wf = true := Memory.write_wf h a b
    cases j with
    | zero =>
      refine (Memory.read_writeAll_other hb (a + 1) t a (.inl a.lt_succ_self) (by omega)).trans ?_
      rw [Memory.read_write h (by omega), if_pos rfl]
      rfl
    | succ j =>
      rw [show a + (j + 1) = a + 1 + j by omega]
      exact ih hb (a + 1) (Nat.lt_of_succ_lt_succ hj) (by omega)

/-- The two bytes of a check give it back. -/
theorem putWord_read (w : Word16) :
    ((putWord w.toNat).getD 0 0).toNat * 256 + ((putWord w.toNat).getD 1 0).toNat = w.toNat := by
  have := w.isLt
  show (putByte (w.toNat / 256)).toNat * 256 + (putByte w.toNat).toNat = w.toNat
  rw [putByte_toNat, putByte_toNat]
  omega

theorem Memory.withCheck_other {m : Memory} (h : m.wf = true) {a : Nat} (ha : a < 510) : m.withCheck.read a = m.read a :=
  Memory.read_writeAll_other h 510 _ a (.inl ha) (Nat.le_refl 512)

theorem Memory.withCheck_check {m : Memory} (h : m.wf = true) :
    (m.withCheck.read 510).toNat * 256 + (m.withCheck.read 511).toNat = (crc16 (m.bytes 510)).toNat := by
  have hread : ∀ j, j < 2 → m.withCheck.read (510 + j) = (putWord (crc16 (m.bytes 510)).toNat).getD j 0 := fun j hj =>
    Memory.read_writeAll_same h 510 _ hj (Nat.le_refl 512)
  rw [hread 0 (by decide), hread 1 (by decide), putWord_read]

/-! ## STORE WRITE (R188) -/

section
variable {s : State} {n : Fin 16} {args : List Byte}

theorem execStoreWriteLowHalf_next (h : s.Serves n false) (ha : args.length ≤ 7) :
    exec (.storeWriteLowHalf n args) s = .next (s.atSlotEnd.serveStoreWrite 7 0 args) :=
  congrArg Host.Outcome.next (State.service_eq h ha fun t => t.serveStoreWrite 7 0 args)

theorem execStoreWriteHighHalf_next (h : s.Serves n false) (ha : args.length ≤ 7) :
    exec (.storeWriteHighHalf n args) s = .next (s.atSlotEnd.serveStoreWrite 8 256 args) :=
  congrArg Host.Outcome.next (State.service_eq h ha fun t => t.serveStoreWrite 8 256 args)

end

section
variable {s : State} (command base : Nat) {args : List Byte}

theorem State.serveStoreWrite_notInSetup (hs : s.ctl.state ≠ .setup) :
    s.serveStoreWrite command base args = s.answered [putByte (0x10 + command)] := if_pos hs

theorem State.serveStoreWrite_busy (hs : s.ctl.state = .setup) (hp : s.svc.programming = true) :
    s.serveStoreWrite command base args = s.answered [putByte (0x20 + command)] :=
  (if_neg (not_not_intro hs)).trans (if_pos hp)

theorem State.serveStoreWrite_badArgument (hs : s.ctl.state = .setup) (hp : s.svc.programming = false)
    (ha : storeBytes base args = none) : s.serveStoreWrite command base args = s.answered [putByte (0x30 + command)] := by
  refine (if_neg (not_not_intro hs)).trans ((if_neg (by rw [hp]; decide)).trans ?_)
  rw [ha]
  rfl

theorem State.serveStoreWrite_written (hs : s.ctl.state = .setup) (hp : s.svc.programming = false) {m : Memory}
    (hm : s.svc.staging = some m) {w : Nat × List Byte} (ha : storeBytes base args = some w) :
    s.serveStoreWrite command base args =
      { s.answered [putByte command] with svc := { s.svc with staging := some (m.writeAll w.1 w.2) } } := by
  refine (if_neg (not_not_intro hs)).trans ((if_neg (by rw [hp]; decide)).trans ?_)
  simp only [ha, hm, State.reply, replyHead_ok]
  rfl

theorem storeBytes_some {offset : Byte} {data : List Byte} (h1 : 1 ≤ data.length) (h6 : data.length ≤ 6)
    (hend : base + offset.toNat + data.length ≤ 510) :
    storeBytes base (offset :: data) = some (base + offset.toNat, data) := if_pos ⟨h1, h6, hend⟩

theorem storeBytes_none {offset : Byte} {data : List Byte}
    (h : data.length = 0 ∨ 510 < base + offset.toNat + data.length) : storeBytes base (offset :: data) = none :=
  if_neg (by rintro ⟨_, _, _⟩; omega)

end

/-- Settles O57: the bytes are written at the computed address where they fit below the check, and else none is. -/
theorem storeWriteServed : Obligations.StoreWriteServed := by
  refine ⟨fun s n offset data c code base h hlen hc => ?_, fun s n c code h hc => ?_⟩
  · have hnext : exec c s = .next (s.atSlotEnd.serveStoreWrite code base (offset :: data)) := by
      have ha : (offset :: data).length ≤ 7 := Nat.succ_le_succ hlen
      obtain ⟨rfl, rfl, rfl⟩ | ⟨rfl, rfl, rfl⟩ := hc
      · exact execStoreWriteLowHalf_next h ha
      · exact execStoreWriteHighHalf_next h ha
    rw [hnext, ← s.atSlotEnd_state]
    refine ⟨fun m hs hp hm hwf h1 hend => ⟨m.writeAll (base + offset.toNat) data, ?_, ?_, ?_⟩, fun hs hp hbad => ?_,
      fun hs hp => ?_, fun hs => ?_⟩
    · exact congrArg _ (State.serveStoreWrite_written (s := s.atSlotEnd) code base hs hp hm
        (storeBytes_some base h1 hlen hend))
    · exact fun j hj => Memory.read_writeAll_same hwf _ _ hj (by omega)
    · exact fun a ha => Memory.read_writeAll_other hwf _ _ a ha (by omega)
    · exact congrArg _ (State.serveStoreWrite_badArgument (s := s.atSlotEnd) code base hs hp (storeBytes_none base hbad))
    · exact congrArg _ (State.serveStoreWrite_busy (s := s.atSlotEnd) code base hs hp)
    · exact congrArg _ (State.serveStoreWrite_notInSetup code base hs)
  · obtain ⟨base, hnext⟩ : ∃ base, exec c s = .next (s.atSlotEnd.serveStoreWrite code base []) := by
      obtain ⟨rfl, rfl⟩ | ⟨rfl, rfl⟩ := hc
      · exact ⟨0, execStoreWriteLowHalf_next h (by decide)⟩
      · exact ⟨256, execStoreWriteHighHalf_next h (by decide)⟩
    rw [hnext, ← s.atSlotEnd_state]
    refine congrArg Host.Outcome.next ?_
    by_cases hs : s.atSlotEnd.ctl.state = .setup
    · rw [if_neg (not_not_intro hs)]
      by_cases hp : s.svc.programming = true
      · rw [if_pos hp, State.serveStoreWrite_busy (s := s.atSlotEnd) code base hs hp]
      · have hidle : s.atSlotEnd.svc.programming = false := Bool.eq_false_of_not_eq_true hp
        rw [if_neg hp, State.serveStoreWrite_badArgument code base hs hidle rfl]
    · rw [if_pos hs, State.serveStoreWrite_notInSetup code base hs]

/-! ## The first structural error (R189) -/

/-- Two checks that fail stand in rising offsets. -/
def Rises (x y : Nat × Bool) : Prop := x.2 = true → y.2 = true → x.1 < y.1

/-- Where failing checks stand in rising offsets, the first of them is the one of lowest offset. -/
theorem firstFailing_eq_some_iff {l : List (Nat × Bool)} (h : l.Pairwise Rises) (o : Nat) :
    (l.find? (·.2)).map Prod.fst = some o ↔ (o, true) ∈ l ∧ ∀ lower, lower < o → (lower, true) ∉ l := by
  induction l with
  | nil => simp
  | cons x t ih =>
    obtain ⟨hx, ht⟩ := List.pairwise_cons.mp h
    obtain ⟨p, fails⟩ := x
    cases fails with
    | false => simpa using ih ht
    | true =>
      have hrise : ∀ q, (q, true) ∈ t → p < q := fun q hq => hx (q, true) hq rfl rfl
      rw [List.find?_cons_of_pos rfl]
      simp only [Option.map_some, Option.some.injEq, List.mem_cons, Prod.mk.injEq, and_true, not_or]
      constructor
      · rintro rfl
        exact ⟨.inl rfl, fun q hq => ⟨Nat.ne_of_lt hq, fun k => Nat.lt_asymm hq (hrise q k)⟩⟩
      · rintro ⟨rfl | k, hlow⟩
        · rfl
        · exact absurd rfl (hlow p (hrise o k)).1

theorem firstFailing_eq_none_iff (l : List (Nat × Bool)) :
    (l.find? (·.2)).map Prod.fst = none ↔ ∀ o, (o, true) ∉ l := by
  simp [Prod.forall]

section
variable (b : List Byte)

/-! ### Where the checks stand -/

/-- The checks of an entry stand at its own offsets. -/
theorem senderChecks_within (n : Nat) : ∀ x ∈ senderChecks b n, 62 + 36 * n ≤ x.1 ∧ x.1 < 62 + 36 * (n + 1) := by
  intro x hx
  obtain hx | hx := List.mem_append.mp hx
  · obtain hx | hx := List.mem_append.mp hx
    · simp only [List.mem_cons, List.not_mem_nil, or_false] at hx
      obtain rfl | rfl | rfl := hx <;> exact ⟨by omega, by omega⟩
    · obtain ⟨i, hi, rfl⟩ := List.mem_map.mp hx
      simp only [List.mem_cons, List.not_mem_nil, or_false] at hi
      exact ⟨by omega, by omega⟩
  · obtain rfl := List.mem_singleton.mp hx
    exact ⟨by omega, by omega⟩

theorem channelChecks_within (c : Nat) : ∀ x ∈ channelChecks b c, 206 + 19 * c ≤ x.1 ∧ x.1 < 206 + 19 * (c + 1) := by
  intro x hx
  simp only [channelChecks, List.mem_cons, List.not_mem_nil, or_false] at hx
  obtain rfl | rfl | rfl | rfl := hx <;> exact ⟨by omega, by omega⟩

theorem gaugeChecks_within (g : Nat) : ∀ x ∈ gaugeChecks b g, 358 + 14 * g ≤ x.1 ∧ x.1 < 358 + 14 * (g + 1) := by
  intro x hx
  simp only [gaugeChecks, List.mem_cons, List.not_mem_nil, or_false] at hx
  obtain rfl | rfl | rfl := hx <;> exact ⟨by omega, by omega⟩

theorem channelChecks_rise (c : Nat) : (channelChecks b c).Pairwise Rises := by
  simp [channelChecks, Rises]

theorem gaugeChecks_rise (g : Nat) : (gaugeChecks b g).Pairwise Rises := by
  simp [gaugeChecks, Rises]

/-- A sender's point table and its ladder span are read in different modes, so that not both fail. -/
theorem senderChecks_rise (n : Nat) : (senderChecks b n).Pairwise Rises := by
  refine List.pairwise_append.mpr ⟨?fields, List.pairwise_singleton _ _, fun x hx y hy fx fy => ?span⟩
  case fields => simp [Rises]; omega
  case span =>
    obtain rfl := List.mem_singleton.mp hy
    obtain hx | hx := List.mem_append.mp hx
    · simp only [List.mem_cons, List.not_mem_nil, or_false] at hx
      obtain rfl | rfl | rfl := hx <;> simp only <;> omega
    · obtain ⟨i, -, rfl⟩ := List.mem_map.mp hx
      simp only [Bool.and_eq_true, decide_eq_true_eq] at fx fy
      obtain ⟨⟨hpoints, -⟩, -⟩ := fx
      obtain ⟨⟨hladder, -⟩, -⟩ := fy
      omega

/-- Entry after entry, the checks stand at the entries' offsets. -/
theorem entries_within {f : Nat → List (Nat × Bool)} {start size : Nat}
    (hw : ∀ i, ∀ x ∈ f i, start + size * i ≤ x.1 ∧ x.1 < start + size * (i + 1)) (k : Nat) :
    ∀ x ∈ (List.range k).flatMap f, start ≤ x.1 ∧ x.1 < start + size * k := by
  intro x hx
  obtain ⟨i, hi, hx⟩ := List.mem_flatMap.mp hx
  have hmul : size * (i + 1) ≤ size * k := Nat.mul_le_mul_left size (List.mem_range.mp hi)
  obtain ⟨hlo, hhi⟩ := hw i x hx
  omega

theorem entries_rise {f : Nat → List (Nat × Bool)} {start size : Nat} (hf : ∀ i, (f i).Pairwise Rises)
    (hw : ∀ i, ∀ x ∈ f i, start + size * i ≤ x.1 ∧ x.1 < start + size * (i + 1)) (k : Nat) :
    ((List.range k).flatMap f).Pairwise Rises := by
  refine List.pairwise_flatMap.mpr ⟨fun i _ => hf i, List.pairwise_lt_range.imp fun {i j} hij x hx y hy _ _ => ?_⟩
  have hmul : size * (i + 1) ≤ size * j := Nat.mul_le_mul_left size hij
  have := (hw i x hx).2
  have := (hw j y hy).1
  omega

end

end Sys2Proof.Machine
end

section
namespace Sys2Proof.Machine

set_option Elab.async false

/-! ### What the checks find -/

section
variable (b : List Byte) {offset : Nat}

theorem mem_switchChecks_iff : (offset, true) ∈ ((List.range 8).map fun e =>
      (30 + 4 * e + 1, decide (2 < byteAt b (30 + 4 * e + 1)))) ↔
    ∃ e, e < 8 ∧ offset = 31 + 4 * e ∧ 2 < byteAt b offset := by
  simp only [List.mem_map, List.mem_range, Prod.mk.injEq, decide_eq_true_eq]
  refine exists_congr fun e => and_congr_right fun _ => ⟨?_, ?_⟩
  · rintro ⟨rfl, h⟩
    exact ⟨by omega, h⟩
  · rintro ⟨rfl, h⟩
    rw [show 30 + 4 * e + 1 = 31 + 4 * e by omega]
    exact ⟨rfl, h⟩

theorem slotUsedBelow_iff (n slot : Nat) : slotUsedBelow b n slot = true ↔
    ∃ m, m < n ∧ byteAt b (62 + 36 * m) = 1 ∧ byteAt b (62 + 36 * m + 2) = slot := by
  simp [slotUsedBelow]

theorem breaksOrder_iff {o i : Nat} (hi : 1 ≤ i) (ho : offset = o + 4 + 4 * i) : breaksOrder b o i = true ↔
    (i = 1 ∧ wordAt b (o + 4) = wordAt b (o + 8)) ∨
      (1 < i ∧ wordAt b (o + 4) < wordAt b (o + 8) ∧ wordAt b offset ≤ wordAt b (offset - 4)) ∨
      (1 < i ∧ wordAt b (o + 8) ≤ wordAt b (o + 4) ∧ wordAt b (offset - 4) ≤ wordAt b offset) := by
  have hcur : pointR b o i = wordAt b offset := by rw [ho]; rfl
  have hlast : pointR b o (i - 1) = wordAt b (offset - 4) := by
    rw [ho]
    exact congrArg (wordAt b) (by omega)
  unfold breaksOrder
  rw [hcur, hlast, show pointR b o 0 = wordAt b (o + 4) from rfl, show pointR b o 1 = wordAt b (o + 8) from rfl]
  split
  · simp only [decide_eq_true_eq]
    omega
  · split
    · simp only [decide_eq_true_eq]
      omega
    · simp only [decide_eq_true_eq]
      omega

theorem mem_senderChecks_iff {n o : Nat} (ho : o = 62 + 36 * n) : (offset, true) ∈ senderChecks b n ↔
    (offset = o ∧ 3 < byteAt b o) ∨
    (byteAt b o = 1 ∧ offset = o + 2 ∧ (byteAt b offset = 1 ∨ byteAt b offset = 2) ∧
      ∃ m, m < n ∧ byteAt b (62 + 36 * m) = 1 ∧ byteAt b (62 + 36 * m + 2) = byteAt b offset) ∨
    (byteAt b o = 1 ∧ offset = o + 3 ∧ byteAt b offset < 2) ∨
    (∃ i, byteAt b o = 1 ∧ 1 ≤ i ∧ i < 8 ∧ i < byteAt b (o + 3) ∧ offset = o + 4 + 4 * i ∧
      ((i = 1 ∧ wordAt b (o + 4) = wordAt b (o + 8)) ∨
        (1 < i ∧ wordAt b (o + 4) < wordAt b (o + 8) ∧ wordAt b offset ≤ wordAt b (offset - 4)) ∨
        (1 < i ∧ wordAt b (o + 8) ≤ wordAt b (o + 4) ∧ wordAt b (offset - 4) ≤ wordAt b offset))) ∨
    (byteAt b o = 3 ∧ byteAt b (o + 1) = 1 ∧ offset = o + 22 ∧ wordAt b (o + 20) = wordAt b offset) := by
  have hpoint : ∀ i, i ∈ [1, 2, 3, 4, 5, 6, 7] ↔ 1 ≤ i ∧ i < 8 := fun i => by simp; omega
  subst ho
  simp only [senderChecks, List.mem_append, List.mem_cons, List.not_mem_nil, or_false, List.mem_map, Prod.mk.injEq,
    hpoint, Bool.and_eq_true, Bool.or_eq_true, decide_eq_true_eq, slotUsedBelow_iff, eq_comm (a := true), or_assoc]
  refine or_congr Iff.rfl (or_congr ?slot (or_congr ?count (or_congr (exists_congr fun i => ?point) ?span)))
  case slot =>
    exact ⟨fun ⟨k, ⟨hm, hs⟩, hu⟩ => ⟨hm, k, k ▸ hs, k ▸ hu⟩, fun ⟨hm, k, hs, hu⟩ => ⟨k, ⟨hm, k ▸ hs⟩, k ▸ hu⟩⟩
  case count => exact ⟨fun ⟨k, hm, hc⟩ => ⟨hm, k, k ▸ hc⟩, fun ⟨hm, k, hc⟩ => ⟨k, hm, k ▸ hc⟩⟩
  case span => exact ⟨fun ⟨k, ⟨hm, ht⟩, hw⟩ => ⟨hm, ht, k, k ▸ hw⟩, fun ⟨hm, ht, k, hw⟩ => ⟨k, ⟨hm, ht⟩, k ▸ hw⟩⟩
  case point =>
    constructor
    · rintro ⟨⟨h1, h8⟩, rfl, ⟨hm, hc⟩, hb⟩
      exact ⟨hm, h1, h8, hc, rfl, (breaksOrder_iff b h1 rfl).mp hb⟩
    · rintro ⟨hm, h1, h8, hc, ho, hb⟩
      exact ⟨⟨h1, h8⟩, ho.symm, ⟨hm, hc⟩, (breaksOrder_iff b h1 ho).mpr hb⟩

theorem mem_channelChecks_iff {c o : Nat} (ho : o = 206 + 19 * c) : (offset, true) ∈ channelChecks b c ↔
    (offset = o ∧ 5 < byteAt b o) ∨
    (offset = o ∧ byteAt b o = 5 ∧ ∃ m, m < c ∧ byteAt b (206 + 19 * m) = 5) ∨
    (offset = o + 1 ∧ (byteAt b o = 1 ∨ byteAt b o = 4) ∧ 18 < byteAt b offset) ∨
    (offset = o + 2 ∧ (byteAt b o = 2 ∨ byteAt b o = 3) ∧ 1 < byteAt b offset) ∨
    (offset = o + 18 ∧ 1 < byteAt b offset) := by
  subst ho
  simp only [channelChecks, List.mem_cons, List.not_mem_nil, or_false, Prod.mk.injEq, Bool.and_eq_true, Bool.or_eq_true,
    decide_eq_true_eq, List.any_eq_true, List.mem_range, eq_comm (a := true), and_or_left, or_assoc]
  refine or_congr Iff.rfl (or_congr Iff.rfl (or_congr ?function (or_congr ?side ?exhaustion)))
  all_goals exact and_congr_right fun k => by rw [k]

theorem mem_gaugeChecks_iff {g o : Nat} (ho : o = 358 + 14 * g) : (offset, true) ∈ gaugeChecks b g ↔
    (offset = o ∧ 3 < byteAt b o) ∨
    (offset = o + 1 ∧ byteAt b o ≠ 0 ∧ 3 < byteAt b offset) ∨
    (offset = o + 12 ∧ byteAt b o ≠ 0 ∧ byteAt b (o + 1) = 3 ∧ wordAt b offset ≤ wordAt b (o + 10)) := by
  subst ho
  simp only [gaugeChecks, List.mem_cons, List.not_mem_nil, or_false, Prod.mk.injEq, Bool.and_eq_true,
    decide_eq_true_eq, eq_comm (a := true), and_assoc]
  refine or_congr Iff.rfl (or_congr ?type ?span)
  all_goals exact and_congr_right fun k => by rw [k]

/-- Entry after entry, a check is one of an entry. -/
theorem mem_entries_iff {f : Nat → List (Nat × Bool)} {start size : Nat} {P : Nat → Nat → Prop}
    (h : ∀ n o, o = start + size * n → ((offset, true) ∈ f n ↔ P n o)) (k : Nat) :
    (offset, true) ∈ (List.range k).flatMap f ↔ ∃ n o, n < k ∧ o = start + size * n ∧ P n o := by
  rw [List.mem_flatMap]
  refine exists_congr fun n => ?_
  rw [List.mem_range]
  exact ⟨fun ⟨hn, hm⟩ => ⟨_, hn, rfl, (h n _ rfl).mp hm⟩, fun ⟨o, hn, ho, hp⟩ => ⟨hn, (h n o ho).mpr hp⟩⟩

/-- The checks of a commit are those of R189. -/
theorem mem_recordChecks_iff (offset : Nat) : (offset, true) ∈ recordChecks b ↔ FieldFails b offset := by
  unfold FieldFails
  rw [← mem_switchChecks_iff, ← mem_entries_iff (fun n o => mem_senderChecks_iff b) 4,
    ← mem_entries_iff (fun c o => mem_channelChecks_iff b) 8, ← mem_entries_iff (fun g o => mem_gaugeChecks_iff b) 4,
    ← or_assoc, ← or_assoc, ← List.mem_append, ← List.mem_append, ← List.mem_append]
  rfl

/-- They stand in rising offsets where they fail. -/
theorem recordChecks_rise : (recordChecks b).Pairwise Rises := by
  have hswitches : ∀ x ∈ (List.range 8).map fun e => (30 + 4 * e + 1, decide (2 < byteAt b (30 + 4 * e + 1))),
      x.1 < 62 := by simp; omega
  have hsenders := entries_within (senderChecks_within b) 4
  have hchannels := entries_within (channelChecks_within b) 8
  have hgauges := entries_within (gaugeChecks_within b) 4
  refine List.pairwise_append.mpr ⟨List.pairwise_append.mpr ⟨List.pairwise_append.mpr ⟨?_,
    entries_rise (senderChecks_rise b) (senderChecks_within b) 4, fun x hx y hy _ _ => ?_⟩,
    entries_rise (channelChecks_rise b) (channelChecks_within b) 8, fun x hx y hy _ _ => ?_⟩,
    entries_rise (gaugeChecks_rise b) (gaugeChecks_within b) 4, fun x hx y hy _ _ => ?_⟩
  · simp [Rises]
  · have := hswitches x hx
    have := (hsenders y hy).1
    omega
  · have := (hchannels y hy).1
    obtain hx | hx := List.mem_append.mp hx
    · have := hswitches x hx
      omega
    · have := (hsenders x hx).2
      omega
  · have := (hgauges y hy).1
    obtain hx | hx := List.mem_append.mp hx
    · obtain hx | hx := List.mem_append.mp hx
      · have := hswitches x hx
        omega
      · have := (hsenders x hx).2
        omega
    · have := (hchannels x hx).2
      omega

theorem structuralError_eq_none_iff : structuralError b = none ↔ ∀ o, ¬FieldFails b o := by
  simp only [← mem_recordChecks_iff]
  exact firstFailing_eq_none_iff _

theorem structuralError_eq_some_iff (o : Nat) :
    structuralError b = some o ↔ FieldFails b o ∧ ∀ lower, lower < o → ¬FieldFails b lower := by
  simp only [← mem_recordChecks_iff]
  exact firstFailing_eq_some_iff (recordChecks_rise b) o

end

/-! ## STORE COMMIT (R189, R190) -/

section
variable {s : State} {args : List Byte}

theorem execStoreCommit_next {n : Fin 16} (h : s.Serves n false) (ha : args.length ≤ 7) :
    exec (.storeCommit n args) s = .next (s.atSlotEnd.serveStoreCommit args) :=
  congrArg Host.Outcome.next (State.service_eq h ha fun t => t.serveStoreCommit args)

theorem State.serveStoreCommit_notInSetup (hs : s.ctl.state ≠ .setup) : s.serveStoreCommit args = s.answered [0x19] :=
  if_pos hs

theorem State.serveStoreCommit_busy (hs : s.ctl.state = .setup) (hp : s.svc.programming = true) :
    s.serveStoreCommit args = s.answered [0x29] :=
  (if_neg (not_not_intro hs)).trans (if_pos hp)

theorem State.serveStoreCommit_badLength (hs : s.ctl.state = .setup) (hp : s.svc.programming = false) (ha : args ≠ []) :
    s.serveStoreCommit args = s.answered [0x39] :=
  (if_neg (not_not_intro hs)).trans ((if_neg (by rw [hp]; decide)).trans (if_pos (mt List.length_eq_zero_iff.mp ha)))

section
variable (hs : s.ctl.state = .setup) (hp : s.svc.programming = false) {m : Memory} (hm : s.svc.staging = some m)
include hs hp hm

theorem State.serveStoreCommit_valid (ho : structuralError (m.bytes 512) = none) : s.serveStoreCommit [] =
    { s with svc := { s.svc with staging := some m.withCheck, programming := true } } := by
  unfold State.serveStoreCommit State.stagingBytes
  rw [if_neg (not_not_intro hs), if_neg (by rw [hp]; decide), if_neg (by decide), hm, Option.getD_some]
  simp only [ho]
  rfl

theorem State.serveStoreCommit_invalid {offset : Nat} (ho : structuralError (m.bytes 512) = some offset) :
    s.serveStoreCommit [] = s.answered (0x39 :: putWord offset) := by
  unfold State.serveStoreCommit State.stagingBytes
  rw [if_neg (not_not_intro hs), if_neg (by rw [hp]; decide), if_neg (by decide), hm, Option.getD_some]
  simp only [ho]
  rfl

end

theorem execProgrammingEnd_next (hu : s.up = true) (hp : s.svc.programming = true) : exec .programmingEnd s =
    .next (({ s with store := s.svc.staging, svc := { s.svc with programming := false } } : State).withSlot
      fun t => t.reply 9 .ok []) := congrArg Host.Outcome.next (if_pos ⟨hu, hp⟩)

end

/-- Settles O58: the image is judged by the first of the checks that fails, and programmed when none does. -/
theorem storeCommitServed : Obligations.StoreCommitServed := by
  refine ⟨fun s n m h hs hm hwf => ?_, fun s n args h hlen => ?_,
    fun b => ⟨structuralError_eq_none_iff b, structuralError_eq_some_iff b⟩, fun s hu hp => ?_⟩
  · rw [execStoreCommit_next h (by decide)]
    rw [← s.atSlotEnd_state] at hs
    refine ⟨fun hp hok => ⟨m.withCheck, ?_, fun a ha => Memory.withCheck_other hwf ha, Memory.withCheck_check hwf⟩,
      fun offset hp hbad => ?_, fun hp => ?_⟩
    · exact congrArg _ (State.serveStoreCommit_valid (s := s.atSlotEnd) hs hp hm hok)
    · exact congrArg _ (State.serveStoreCommit_invalid (s := s.atSlotEnd) hs hp hm hbad)
    · exact congrArg _ (State.serveStoreCommit_busy (s := s.atSlotEnd) hs hp)
  · rw [execStoreCommit_next h hlen, ← s.atSlotEnd_state]
    refine ⟨fun hs => congrArg _ (State.serveStoreCommit_notInSetup hs), fun _ hs hp => ?_, fun ha hs hp => ?_⟩
    · exact congrArg _ (State.serveStoreCommit_busy (s := s.atSlotEnd) hs hp)
    · exact congrArg _ (State.serveStoreCommit_badLength (s := s.atSlotEnd) hs hp ha)
  · rw [execProgrammingEnd_next hu hp]
    refine ⟨fun hfree => congrArg _ (if_neg ?_), fun hfull => congrArg _ (if_pos (decide_eq_true hfull))⟩
    exact fun k => Nat.not_le.mpr hfree (of_decide_eq_true k)

end Sys2Proof.Machine
end
